-- ==== Sys2Proof/Word.lean ====
section
/-! DEFINITION. The word types of the VE128 and the fixed-size bank of like things (128 records, 8 lanes, 8 profiles, 33 curve points). -/

namespace Sys2Proof

/-- One byte of the control link or of the line. -/
abbrev Byte := BitVec 8

/-- A value of the 32-bit tick counter (R8). -/
abbrev Tick := BitVec 32

/-- A 16-bit cycle number (R9). -/
abbrev CycleNo := BitVec 16

/-- A terminal's 32-bit serial number, and the patterns, masks and split sets taken over serials (R100). -/
abbrev Serial := BitVec 32

/-- A terminal tag, held as the number of its record: record `i` holds tag `i + 1` (R23). -/
abbrev Tag := Fin 128

/-- A lane number, 0 to 7 (R118). -/
abbrev LaneNo := Fin 8

/-- A profile number, 0 to 7 (R48). -/
abbrev ProfileNo := Fin 8

/-- The tag as the line and the host spell it, 1 to 128 (R23). -/
def tagNum (t : Tag) : Nat := t.val + 1

/-- The tag that a number spells, if it lies from 1 to 128 (R172, R23). -/
def tagOfNum (n : Nat) : Option Tag :=
  if h : 1 ≤ n ∧ n ≤ 128 then some ⟨n - 1, by omega⟩ else none

/-- The difference of two tick values modulo 2^32, read as a number (R8). -/
def tickDiff (a b : Tick) : Nat := (a - b).toNat

/-- One more, up to a cap at which the count stays. -/
def satInc (cap n : Nat) : Nat := if n < cap then n + 1 else cap

/-- `n` like things in a row. -/
structure Bank (α : Type) (n : Nat) where
  cells : List α
  size : cells.length = n
  deriving DecidableEq, Repr

namespace Bank

variable {α : Type} {n : Nat}

/-- The thing at place `i`. -/
def get (b : Bank α n) (i : Fin n) : α := b.cells[i.val]'(by rw [b.size]; exact i.isLt)

/-- The bank with `v` at place `i`. -/
def set (b : Bank α n) (i : Fin n) (v : α) : Bank α n := ⟨b.cells.set i.val v, by simp [b.size]⟩

/-- The bank with `f` applied at place `i`. -/
def update (b : Bank α n) (i : Fin n) (f : α → α) : Bank α n := b.set i (f (b.get i))

/-- The bank with the same thing at every place. -/
def fill (n : Nat) (v : α) : Bank α n := ⟨List.replicate n v, by simp⟩

/-- The bank with `f` applied at every place. -/
def map {β : Type} (f : α → β) (b : Bank α n) : Bank β n := ⟨b.cells.map f, by simp [b.size]⟩

/-- The bank that holds `f i` at place `i`. -/
def tabulate (f : Fin n → α) : Bank α n := ⟨(List.finRange n).map f, by simp⟩

end Bank

end Sys2Proof
end

