-- ==== Sys2Proof/Syntax.lean ====
section
/-! DEFINITION. The commands of the VE128: one constructor for each row of spec/opcode_table.json. -/

namespace Sys2Proof

/-- A byte as the link receiver completes it: its data and whether its stop bit was present (R168, R170). -/
structure RxByte where
  data : Byte
  stop : Bool
  deriving DecidableEq, Repr

/-- One command: an event that the block takes whole (spec/95, R172).

A request's constructor is the handler taking that request from the head of the inbound queue; the request's
operands are the bytes of its body there (R172, R180). The other operands come from outside the part. -/
inductive Instr where
  /-- POWER_ON_RESET (R179), with the levels of the two strap pins. -/
  | powerOnReset (straps : BitVec 2)
  /-- PIN_RESET (R179), with the levels of the two strap pins. -/
  | pinReset (straps : BitVec 2)
  /-- FRAME_RECEIVED (R170, R171): the bytes of a frame up to the one that completes it, with no gap expiry among them. -/
  | frameReceived (bytes : List RxByte)
  /-- GAP_EXPIRY (R170): more than 32 byte times without a byte. -/
  | gapExpiry
  /-- FRAME_SENT (R174): the transmitter ends the frame it is sending, if any, and chooses the next. -/
  | frameSent
  /-- RESTART_TAKES_EFFECT (R178). -/
  | restartTakesEffect
  /-- IDENTIFY (R181). -/
  | identify
  /-- READ_STATUS (R182). -/
  | readStatus
  /-- SET_LINE (R21). -/
  | setLine
  /-- SET_CYCLE_LENGTH (R10). -/
  | setCycleLength
  /-- LIGHT_LINE (R2), with the tick at which the request takes effect. -/
  | lightLine (now : Tick)
  /-- DARKEN_LINE (R4). -/
  | darkenLine
  /-- SET_PROFILE (R48). -/
  | setProfile
  /-- READ_PROFILE (R48). -/
  | readProfile
  /-- SET_ADMISSION (R47). -/
  | setAdmission
  /-- LOAD_EXPECTED (R41). -/
  | loadExpected
  /-- DROP_EXPECTED (R42). -/
  | dropExpected
  /-- READ_EXPECTED (R183). -/
  | readExpected
  /-- BAR_SERIAL (R43). -/
  | barSerial
  /-- LIFT_BAR (R44). -/
  | liftBar
  /-- READ_STRANGERS (R46). -/
  | readStrangers
  /-- START_CENSUS (R102, R103). -/
  | startCensus
  /-- STOP_CENSUS (R104). -/
  | stopCensus
  /-- READ_TERMINAL (R184, R185). -/
  | readTerminal
  /-- READ_ROSTER (R186). -/
  | readRoster
  /-- PARK_TERMINAL (R37). -/
  | parkTerminal
  /-- RESUME_TERMINAL (R38). -/
  | resumeTerminal
  /-- RELEASE_TERMINAL (R39). -/
  | releaseTerminal
  /-- SET_CONVERTER (R157). -/
  | setConverter
  /-- SET_CURVE (R160). -/
  | setCurve
  /-- READ_CURVE (R161). -/
  | readCurve
  /-- CALIBRATE (R162). -/
  | calibrate
  /-- SET_NOTICE_MASK (R175). -/
  | setNoticeMask
  /-- RESTART (R187). -/
  | restart
  /-- CYCLE_START (R9). -/
  | cycleStart
  /-- WARMUP_END (R3): the cycle start at which warm-up remaining reaches 0. -/
  | warmupEnd
  /-- DRAINING_END (R6): the end of the fourth draining cycle. -/
  | drainingEnd
  /-- GRACE_EXPIRY (R147): the cycle start at which the grace of the SILENT record of `tag` reaches 0. -/
  | graceExpiry (tag : Tag)
  /-- PLAN_CLOSE (R65, R66). -/
  | planClose
  /-- BURST_REPORT (R84, R192): the tick of the burst's first bit, the 12 header bytes, the verdict of the header
  check, the overlap mark, and the tick at which the report is taken. -/
  | burstReport (arrival : Tick) (header : List Byte) (check : Bool) (overlap : Bool) (taken : Tick)
  /-- WINDOW_CLOSE (R96): the next window of the earliest plan in the store closes. -/
  | windowClose
  /-- FRAME_END (R98): the earliest frame in the store ends. -/
  | frameEnd
  /-- DARK_SLOT_START (R163). -/
  | darkSlotStart
  /-- SAMPLE_WINDOW_END (R156). -/
  | sampleWindowEnd
  /-- CONVERSION_END (R156), with the raw code of the converter. -/
  | conversionEnd (raw : BitVec 12)
  /-- BYTE_RECEIVED (R170). -/
  | byteReceived (data : Byte) (stop : Bool)
  /-- UNKNOWN_REQUEST (R172). -/
  | unknownRequest
  deriving DecidableEq, Repr

end Sys2Proof
end

