-- ==== Sys2Proof/Config.lean ====
section
/-! DEFINITION. What is fixed in the part (identity and revision codes) and the one value that the spec leaves open. -/

namespace Sys2Proof.Config

/-- The part identity code (R190, spec/12 12.1). -/
def identityCode : Nat := 0x5E80

/-- The revision code (R190, spec/12 12.1). -/
def revisionCode : Nat := 0x01

/-- DESIGN CHOICE (log 6), safe: the cycle number that a pass end taken while the line is DARK writes into the last
pass record. R112 asks for the current cycle number and R182 says that there is none in DARK, so the value is free:
it has no body, and nothing can be proved of it. It is applied to the count of free values drawn so far. -/
opaque freeCycle : Nat → CycleNo

end Sys2Proof.Config
end

