-- ==== Sys2Proof/Machine/State.lean ====
section
/-! DEFINITION. The state of the VE128 as plain data, block by block, its reset, and the reasons a step can stop. -/

namespace Sys2Proof.Machine

/-- Faults: none. The spec gives the block no command that stops it; nothing raises one. -/
inductive Fault where
  deriving DecidableEq, Repr

/-- Refusals. -/
inductive Refusal where
  /-- A command that has no meaning in the model, by its mnemonic; raised by no arm of `exec` (safe). -/
  | notModelled (mnemonic : String)
  deriving DecidableEq, Repr

/-! ## Line Timer (chapter 1) -/

/-- The line state (R1). -/
inductive LineState where
  | dark | warming | running | draining
  deriving DecidableEq, Repr

/-- The eight line settings (R21). -/
structure LineSettings where
  ref : Nat
  eMin : Nat
  guard : Nat
  wt : Nat
  wu : Nat
  exponent : Nat
  closeCode : Nat
  hush : Nat
  deriving DecidableEq, Repr

/-- The defaults of the line settings (R21). -/
def LineSettings.default : LineSettings :=
  { ref := 256000, eMin := 8000, guard := 64, wt := 16, wu := 256, exponent := 8, closeCode := 2, hush := 40000 }

/-- The cycle in progress: its number, its start `T_c`, its length `L_c`, and `L_{c+1}` once latched (R9, R10). -/
structure Cycle where
  num : CycleNo
  start : Tick
  len : Nat
  next : Option Nat
  deriving DecidableEq, Repr

/-- The park reasons, with RELEASED, which a STAND DOWN alone carries (R35, R18, spec/12 12.1). -/
inductive Reason where
  | noReason | host | lost | powerLoss | lineDown | noReply | corrupt | overlong | sequence | outOfReach
  | unstable | levelLow | levelHigh | levelUnknown | trimMismatch | released
  deriving DecidableEq, Repr

/-- What a line notice says (R15 to R19). A STAND DOWN without a tag is addressed to 255. -/
inductive NoticeBody where
  | tagOffer (serial : Serial) (tag : Tag)
  | holdoff (tag : Tag) (value : Int)
  | nudge (tag : Tag) (delta : Int)
  | standDown (tag : Option Tag) (reason : Reason)
  | hush (serial : Serial) (cycles : Nat)
  deriving DecidableEq, Repr

/-- Who posted a line notice (R13); a lane with its seizure number (R119). The Line Timer itself places the broadcast of R6. -/
inductive Poster where
  | lane (lane : LaneNo) (seizure : BitVec 8)
  | supervisor
  | roster
  | lineTimer
  deriving DecidableEq, Repr

/-- An entry of the line notice queue (R13). -/
structure LineNotice where
  body : NoticeBody
  poster : Poster
  deriving DecidableEq, Repr

/-- The kinds of grant, each asking for one kind of burst (R67). -/
inductive GrantKind where
  | census | offerReply | probe | trimCheck | ret | standing
  deriving DecidableEq, Repr

/-- The owner of a grant (R67). -/
inductive Owner where
  | census
  | lane (lane : LaneNo)
  | supervisor
  deriving DecidableEq, Repr

/-- A grant of a plan (R67). Its occupancy is [`first`, `stop`); a census grant has no tag and no window point, and
only a census grant has a pattern and a mask other than 0. -/
structure Grant where
  kind : GrantKind
  owner : Owner
  tag : Option Tag
  pattern : Serial
  mask : Serial
  first : Nat
  stop : Nat
  point : Option Nat
  start : Int
  length : Nat
  seq : Bool
  capture : Bool
  coarse : Option Int
  deriving DecidableEq, Repr

/-- The span [`first`, `stop`) of a dark slot (R70). -/
structure Slot where
  first : Nat
  stop : Nat
  deriving DecidableEq, Repr

/-- A plan: cycle number, frame length, dark slot and grants in placement order (R67). -/
structure Plan where
  cycle : CycleNo
  len : Nat
  slot : Option Slot
  grants : List Grant
  deriving DecidableEq, Repr

/-- A cycle head (R12). -/
structure Head where
  cycle : CycleNo
  draining : Bool
  grants : List Grant
  notices : List LineNotice
  deriving DecidableEq, Repr

/-- The Line Timer's state (chapter 1, table at its head). `drainCycle` says that the cycle in progress is one of the
four draining cycles (log 13); `headOut` is the bytes of the last head sent on the head data pin (log 17). -/
structure LineTimer where
  state : LineState
  prev : LineState
  transitions : Nat
  tick : Tick
  cycle : Option Cycle
  pendingLen : Nat
  warmup : Nat
  drainLeft : Nat
  drainCycle : Bool
  head : Option Head
  notices : List LineNotice
  settings : LineSettings
  txEnable : Bool
  headOut : List Byte
  deriving DecidableEq, Repr

/-! ## Roster (chapter 2) -/

/-- The four record flags (R23). -/
structure RecFlags where
  levelAlarm : Bool
  rxLow : Bool
  driftSat : Bool
  trimLimit : Bool
  deriving DecidableEq, Repr

/-- All four flags clear (R23). -/
def RecFlags.clear : RecFlags := { levelAlarm := false, rxLow := false, driftSat := false, trimLimit := false }

/-- The echo and the hold-off that a lane stores in the record (R57). -/
structure EchoHold where
  echo : Int
  holdoff : Int
  deriving DecidableEq, Repr

/-- The fields present while a record is in service, ACTIVE or SILENT (R23, R60, R63). -/
structure Service where
  echo : Int
  holdoff : Int
  miss : Nat
  drift : Int
  bursts : Nat
  levelOut : Nat
  levelIn : Nat
  corrupt : Nat
  nudgeOut : Bool
  returnOut : Bool
  nudgeCycle : Option CycleNo
  activeSince : CycleNo
  deriving DecidableEq, Repr

/-- The state of a record that is not FREE, with the fields present in that state alone (R23). -/
inductive Phase where
  | heard
  | engaged (lane : LaneNo) (trim : Option EchoHold)
  | active (svc : Service)
  | silent (svc : Service) (since : CycleNo) (grace : Nat)
  | parked (reason : Reason) (hold : Nat)
  deriving DecidableEq, Repr

/-- What a record that is not FREE holds (R23). -/
structure Terminal where
  serial : Serial
  listed : Bool
  profile : ProfileNo
  coarse : Int
  level : Option Int
  flags : RecFlags
  heardCycle : CycleNo
  phase : Phase
  deriving DecidableEq, Repr

/-- A terminal record: its changes count, which every state has, and the rest; without a terminal it is FREE (R23). -/
structure Record where
  changes : Nat
  term : Option Terminal
  deriving DecidableEq, Repr

/-- A FREE record with no changes (R49). -/
def Record.free : Record := { changes := 0, term := none }

/-- A profile (R48). -/
structure Profile where
  length : Nat
  period : Nat
  low : Int
  high : Int
  probes : Nat
  spread : Nat
  missLimit : Nat
  grace : Nat
  interval : Nat
  threshold : Nat
  parkHold : Nat
  deriving DecidableEq, Repr

/-- The defaults of a profile (R48). -/
def Profile.default : Profile :=
  { length := 2048, period := 1, low := -280, high := -80, probes := 4, spread := 24, missLimit := 4,
    grace := 2000, interval := 16, threshold := 3, parkHold := 4000 }

/-- An entry of the expected list (R40). -/
structure Expected where
  serial : Serial
  tag : Tag
  profile : ProfileNo
  deriving DecidableEq, Repr

/-- Why a serial was refused as a stranger (R45). -/
inductive StrangerReason where
  | unlisted | rosterFull
  deriving DecidableEq, Repr

/-- An entry of the stranger list (R45). -/
structure Stranger where
  serial : Serial
  reason : StrangerReason
  cycle : CycleNo
  deriving DecidableEq, Repr

/-- The admission mode (R47). -/
inductive AdmissionMode where
  | openMode | listed | mixed
  deriving DecidableEq, Repr

/-- The Roster's state (chapter 2, table at its head). -/
structure Roster where
  records : Bank Record 128
  expected : List Expected
  barred : List Serial
  strangers : List Stranger
  overflowed : Bool
  mode : AdmissionMode
  poolLow : Nat
  poolHigh : Nat
  openProfile : ProfileNo
  admission : List Tag
  profiles : Bank Profile 8
  waiting : List LineNotice
  deriving DecidableEq, Repr

/-! ## Census Unit (chapter 6) -/

/-- The census state (R102). -/
inductive CensusState where
  | stopped | searching | stopping
  deriving DecidableEq, Repr

/-- The census mode (R102). -/
inductive CensusMode where
  | single | sweep
  deriving DecidableEq, Repr

/-- A census node (R100). -/
structure Node where
  pattern : Serial
  mask : Serial
  last : Nat
  deriving DecidableEq, Repr

/-- The outstanding node, its gap's start `o_g` and the cycle number of its frame (R106). -/
structure Outstanding where
  node : Node
  gapStart : Nat
  cycle : CycleNo
  deriving DecidableEq, Repr

/-- The nine pass counters (R114). -/
structure PassCounters where
  gaps : Nat
  garbled : Nat
  heard : Nat
  admitted : Nat
  refreshed : Nat
  ignored : Nat
  hushed : Nat
  strangers : Nat
  ties : Nat
  deriving DecidableEq, Repr

/-- All pass counters at 0 (R103). -/
def PassCounters.zero : PassCounters :=
  { gaps := 0, garbled := 0, heard := 0, admitted := 0, refreshed := 0, ignored := 0, hushed := 0, strangers := 0, ties := 0 }

/-- The last tie node of a pass (R110). -/
structure Tie where
  pattern : Serial
  mask : Serial
  cycle : CycleNo
  deriving DecidableEq, Repr

/-- The kind of a pass end (R112). -/
inductive PassEnd where
  | complete | stopped | lineDown
  deriving DecidableEq, Repr

/-- The last pass record (R112). -/
structure PassRecord where
  kind : PassEnd
  cycle : CycleNo
  counters : PassCounters
  tie : Option Tie
  deriving DecidableEq, Repr

/-- The Census Unit's state (chapter 6, table at its head); the stack is written top first. -/
structure Census where
  state : CensusState
  mode : CensusMode
  interval : Nat
  splitSet : Serial
  effective : Serial
  rootPattern : Serial
  rootMask : Serial
  stack : List Node
  outstanding : Option Outstanding
  wait : Nat
  counters : PassCounters
  tie : Option Tie
  lastPass : Option PassRecord
  passes : Nat
  deriving DecidableEq, Repr

/-- The Census Unit after any reset (R117). -/
def Census.reset : Census :=
  { state := .stopped, mode := .single, interval := 8, splitSet := 0xFFFFFFFF, effective := 0xFFFFFFFF,
    rootPattern := 0, rootMask := 0, stack := [], outstanding := none, wait := 0, counters := .zero, tie := none,
    lastPass := none, passes := 0 }

/-! ## Burst Planner (chapter 4) -/

/-- A one-shot entry (R77). -/
structure OneShot where
  owner : Owner
  tag : Tag
  kind : GrantKind
  coarse : Option Int
  seq : Bool
  capture : Bool
  deriving DecidableEq, Repr

/-- The Burst Planner's state (chapter 4, table at its head); `framerPlan` is the plan last issued on the plan
interface (log 17). -/
structure Planner where
  built : Option Plan
  shots : List OneShot
  sweep : Nat
  slotWanted : Bool
  overruns : Nat
  lastOverrun : Option CycleNo
  framerPlan : Option Plan
  deriving DecidableEq, Repr

/-! ## Burst Intake (chapter 5) -/

/-- The quality of a matched burst (R89). -/
inductive Quality where
  | clean | corrupt | overlong
  deriving DecidableEq, Repr

/-- The state of a grant's window (R86, R88). -/
inductive WindowState where
  | opened | matched | closed
  deriving DecidableEq, Repr

/-- A grant in the plan store with its window (R86). -/
structure Window where
  grant : Grant
  state : WindowState
  quality : Option Quality
  garble : Bool
  sighted : Bool
  deriving DecidableEq, Repr

/-- A plan in the store (R86). -/
structure StoredPlan where
  cycle : CycleNo
  start : Tick
  len : Nat
  slot : Option Slot
  windows : List Window
  deriving DecidableEq, Repr

/-- The Burst Intake's state (chapter 5, table at its head); the store is written oldest plan first. -/
structure Intake where
  store : List StoredPlan
  strays : BitVec 32
  deriving DecidableEq, Repr

/-- The burst kinds (R84). -/
inductive BurstKind where
  | censusReply | tagAck | echo | trimAck | ret | standing | unknown
  deriving DecidableEq, Repr

/-- The address a burst declares (R84, R192). -/
inductive Address where
  | serial (s : Serial)
  | tag (b : Byte)
  deriving DecidableEq, Repr

/-- A burst report (R84). -/
structure Report where
  arrival : Tick
  length : Nat
  check : Bool
  overlap : Bool
  kind : BurstKind
  address : Address
  seq : Bool
  powerFailing : Bool
  rxLow : Bool
  serialEcho : Option Serial
  deriving DecidableEq, Repr

/-- A burst result (R90). -/
structure BurstResult where
  grant : Grant
  cycle : CycleNo
  position : Nat
  length : Nat
  quality : Quality
  kind : BurstKind
  seq : Bool
  serialEcho : Option Serial
  flagsValid : Bool
  powerFailing : Bool
  rxLow : Bool
  captureAsked : Bool
  deriving DecidableEq, Repr

/-- The outcome that a window close delivers (R96). -/
inductive CloseOutcome where
  | quality (q : Quality)
  | miss (sighted : Bool)
  deriving DecidableEq, Repr

/-- The converter's answer to a capture request (R91). -/
inductive CaptureAnswer where
  | level (v : Int)
  | refusal
  deriving DecidableEq, Repr

/-! ## Activation Lanes (chapter 7) -/

/-- The kind of a stage's last failure (R118). -/
inductive FailKind where
  | miss | corrupt
  deriving DecidableEq, Repr

/-- A lane's line notice (R118). -/
inductive LaneNotice where
  | absent
  | queued (body : NoticeBody)
  | waiting (body : NoticeBody)
  deriving DecidableEq, Repr

/-- A lane's one-shot (R118). -/
inductive LaneShot where
  | absent
  | queued
  | waiting (entry : OneShot)
  | placed (cycle : CycleNo) (kind : GrantKind)
  deriving DecidableEq, Repr

/-- What a lane holds of its PLACED grant until it settles (R118, R123): the burst result, the capture answer, and
the outcome of the window close when that came first (log 18). -/
structure HeldGrant where
  result : Option BurstResult
  answer : Option CaptureAnswer
  close : Option CloseOutcome
  deriving DecidableEq, Repr

/-- Nothing held (R121). -/
def HeldGrant.empty : HeldGrant := { result := none, answer := none, close := none }

/-- The fields of the PROBE stage (R118). -/
structure ProbeWork where
  count : Nat
  remaining : Nat
  extensions : Nat
  misses : Nat
  seq : Bool
  mismatches : Nat
  echoes : List Int
  levels : List Int
  deriving DecidableEq, Repr

/-- The lane's last settled TRIM CHECK (R118, R133). -/
structure SettledTrim where
  cycle : CycleNo
  outcome : CloseOutcome
  deriving DecidableEq, Repr

/-- The stage of a lane that holds a record, with the stage's own fields (R118). -/
inductive Stage where
  | offer (attempts : Nat)
  | probe (work : ProbeWork)
  | trim (attempts : Nat) (last : Option SettledTrim)
  deriving DecidableEq, Repr

/-- The work of a lane that holds a record (R118). -/
structure LaneWork where
  tag : Tag
  stage : Stage
  lastFailure : Option FailKind
  notice : LaneNotice
  shot : LaneShot
  held : HeldGrant
  deriving DecidableEq, Repr

/-- A lane; without work it is FREE (R118). -/
structure Lane where
  seizure : BitVec 8
  work : Option LaneWork
  deriving DecidableEq, Repr

/-- A FREE lane with seizure number 0 (R138). -/
def Lane.free : Lane := { seizure := 0, work := none }

/-! ## Supervisor (chapter 8) -/

/-- What the Supervisor holds in flight for one record (chapter 8, table at its head). -/
structure SupEntry where
  held : Option BurstResult
  waitReturn : Bool
  waitNudge : Option Int
  deriving DecidableEq, Repr

/-- Nothing in flight (R152). -/
def SupEntry.empty : SupEntry := { held := none, waitReturn := false, waitNudge := none }

/-! ## Level Converter (chapter 9) -/

/-- A capture record (R153). -/
structure Capture where
  owner : Owner
  tag : Tag
  cycle : CycleNo
  begun : Tick
  window : Nat
  step : Nat
  offset : Int
  discard : Bool
  deriving DecidableEq, Repr

/-- The dark sample in flight (chapter 9, table at its head); `converting` once its sample window has ended (R153). -/
structure DarkSample where
  begun : Tick
  window : Nat
  step : Nat
  converting : Bool
  deriving DecidableEq, Repr

/-- The converter state with the measurement it holds (R153). -/
inductive ConvState where
  | idle
  | sampling (c : Capture)
  | converting (c : Capture)
  | calibrating (d : DarkSample)
  deriving DecidableEq, Repr

/-- The cause of a failed attempt or calibration (R164, R165). -/
inductive CalibCause where
  | busy | light | lineDown
  deriving DecidableEq, Repr

/-- The slot of a calibration attempt: the plan's cycle number, its span and its start tick (R163). -/
structure CalibSlot where
  cycle : CycleNo
  span : Slot
  startTick : Tick
  deriving DecidableEq, Repr

/-- The phase of a calibration attempt (R163), SAMPLED with the dark code once it is held. -/
inductive CalibPhase where
  | waiting
  | placed (slot : CalibSlot)
  | sampled (slot : CalibSlot) (code : Option (BitVec 12))
  deriving DecidableEq, Repr

/-- A calibration record (R162). -/
structure Calibration where
  target : Nat
  attempts : Nat
  phase : CalibPhase
  cause : Option CalibCause
  deriving DecidableEq, Repr

/-- The last calibration result (R165): the dark code is present for DONE, the cause for FAILED. -/
structure CalibResult where
  done : Bool
  target : Nat
  attempts : Nat
  code : Option (BitVec 12)
  cause : Option CalibCause
  offset : Int
  deriving DecidableEq, Repr

/-- The Level Converter's state (chapter 9, table at its head); the window and step settings are held as their codes (R157). -/
structure Converter where
  state : ConvState
  windowCode : Fin 4
  stepCode : Fin 3
  offset : Int
  curve : Bank Int 33
  calib : Option Calibration
  lastCalib : Option CalibResult
  refused : BitVec 32
  deriving DecidableEq, Repr

/-- The default curve V[k] = -400 + 15k (R159). -/
def defaultCurve : Bank Int 33 := .tabulate fun k => -400 + 15 * (k.val : Int)

/-- The Level Converter after a power-on reset, a pin reset and FULL_RESTART (R167). -/
def Converter.reset : Converter :=
  { state := .idle, windowCode := 3, stepCode := 1, offset := 0, curve := defaultCurve, calib := none,
    lastCalib := none, refused := 0 }

/-! ## Control Link (chapter 10) -/

/-- The reset cause (R177). -/
inductive ResetCause where
  | powerOn | pin | fullRestart | lineRestart
  deriving DecidableEq, Repr

/-- The receiver with the frame in reception (R170): the running check, the length, the bytes so far, and in CHECK the
first check byte once it is held. -/
inductive Receiver where
  | hunt
  | count (crc : BitVec 16)
  | content (crc : BitVec 16) (len : Nat) (bytes : List Byte)
  | check (crc : BitVec 16) (bytes : List Byte) (first : Option Byte)
  deriving DecidableEq, Repr

/-- A request in the inbound queue (R171). -/
structure Request where
  kind : Byte
  tag : BitVec 7
  quiet : Bool
  body : List Byte
  deriving DecidableEq, Repr

/-- The result codes (R172). -/
inductive Result where
  | ok | okClamped | accepted | busy | unknown | length | range | state | conflict | full | absent
  deriving DecidableEq, Repr

/-- A reply in the outbound queue (R173). -/
structure Reply where
  kind : Byte
  tag : BitVec 7
  result : Result
  body : List Byte
  deriving DecidableEq, Repr

/-- The form of a RESTART (R187). -/
inductive RestartForm where
  | line | full
  deriving DecidableEq, Repr

/-- The request handler (R172, R178). While RESTART_WAITING, `ahead` counts the replies of the outbound queue that are
still to be chosen before the restart (those queued before the RESTART and its own reply), and `replied` says that
the RESTART has a reply (log 19). -/
inductive Handler where
  | idle
  | restartWaiting (form : RestartForm) (ahead : Nat) (replied : Bool)
  deriving DecidableEq, Repr

/-- The transmitter (R174) with the bytes of the frame being sent. -/
inductive Transmitter where
  | betweenFrames
  | sending (frame : List Byte)
  deriving DecidableEq, Repr

/-- The kind pending flags (R175). -/
structure KindFlags where
  hello : Bool
  line : Bool
  calibration : Bool
  census : Bool
  plan : Bool
  deriving DecidableEq, Repr

/-- HELLO set and every other kind clear (R179). -/
def KindFlags.reset : KindFlags := { hello := true, line := false, calibration := false, census := false, plan := false }

/-- The notice mask: true where the kind is enabled (R175). -/
structure NoticeMask where
  line : Bool
  calibration : Bool
  census : Bool
  terminal : Bool
  plan : Bool
  deriving DecidableEq, Repr

/-- Every kind enabled (R175). -/
def NoticeMask.all : NoticeMask := { line := true, calibration := true, census := true, terminal := true, plan := true }

/-- The Control Link's state (chapter 10, table at its head); the link rate is computed from the strap code (R168). -/
structure Link where
  straps : BitVec 2
  cause : ResetCause
  rx : Receiver
  inbound : List Request
  handler : Handler
  outbound : List Reply
  tx : Transmitter
  kinds : KindFlags
  recFlags : Bank Bool 128
  mask : NoticeMask
  faults : BitVec 32
  deriving DecidableEq, Repr

/-! ## The whole part -/

/-- The state of the part, block by block; the queue of commands that wait; and `free`, the model's own count of the
free values drawn so far (log 7). -/
structure State where
  line : LineTimer
  roster : Roster
  census : Census
  planner : Planner
  intake : Intake
  lanes : Bank Lane 8
  sup : Bank SupEntry 128
  conv : Converter
  link : Link
  pending : List Instr
  free : Nat
  deriving DecidableEq, Repr

/-- The Line Timer after a power-on reset, a pin reset and FULL_RESTART (R22). -/
def LineTimer.reset : LineTimer :=
  { state := .dark, prev := .dark, transitions := 0, tick := 0, cycle := none, pendingLen := 312500, warmup := 0,
    drainLeft := 0, drainCycle := false, head := none, notices := [], settings := .default, txEnable := false,
    headOut := [] }

/-- The Roster after a power-on reset, a pin reset and FULL_RESTART (R49). -/
def Roster.reset : Roster :=
  { records := .fill 128 .free, expected := [], barred := [], strangers := [], overflowed := false, mode := .openMode,
    poolLow := 1, poolHigh := 128, openProfile := 0, admission := [], profiles := .fill 8 .default, waiting := [] }

/-- The Burst Planner after a reset (R83). -/
def Planner.reset : Planner :=
  { built := none, shots := [], sweep := 0, slotWanted := false, overruns := 0, lastOverrun := none, framerPlan := none }

/-- The Burst Intake after a reset (R99). -/
def Intake.reset : Intake := { store := [], strays := 0 }

/-- The Control Link after a power-on reset with strap code 0 (R179; the strap code is log 5). -/
def Link.reset : Link :=
  { straps := 0, cause := .powerOn, rx := .hunt, inbound := [], handler := .idle, outbound := [], tx := .betweenFrames,
    kinds := .reset, recFlags := .fill 128 false, mask := .all, faults := 0 }

/-- The part right after a power-on reset (R22, R49, R83, R99, R117, R138, R152, R167, R179). The strap code 0 is the
model's own choice (log 5), as is the 0 of `free` (log 7). -/
def State.reset : State :=
  { line := .reset, roster := .reset, census := .reset, planner := .reset, intake := .reset, lanes := .fill 8 .free,
    sup := .fill 128 .empty, conv := .reset, link := .reset, pending := [], free := 0 }

end Sys2Proof.Machine
end

