-- ==== Sys2Proof/Machine/Operands.lean ====
section
/-! DEFINITION. Reading and writing values as bytes (R190), clamping, and the burst header as a burst report (R192). -/

namespace Sys2Proof.Machine

/-! ## Clamping -/

/-- A value outside `lo` to `hi` is replaced by the nearer end (spec/00 section 5, clamp). -/
def clampNat (lo hi v : Nat) : Nat := if v < lo then lo else if hi < v then hi else v

/-- The same for signed values. -/
def clampInt (lo hi v : Int) : Int := if v < lo then lo else if hi < v then hi else v

/-! ## Byte order (spec/12: most significant byte first on the link, least significant first on the line) -/

/-- The unsigned value of bytes sent most significant first. -/
def beValue (bs : List Byte) : Nat := bs.foldl (fun acc b => acc * 256 + b.toNat) 0

/-- The unsigned value of bytes sent least significant first. -/
def leValue (bs : List Byte) : Nat := bs.foldr (fun b acc => acc * 256 + b.toNat) 0

/-- The unsigned value of the `n` bytes of `bs` from `off`, most significant first. -/
def beAt (bs : List Byte) (off n : Nat) : Nat := beValue ((bs.drop off).take n)

/-- The unsigned value of the `n` bytes of `bs` from `off`, least significant first. -/
def leAt (bs : List Byte) (off n : Nat) : Nat := leValue ((bs.drop off).take n)

/-- The signed value, two's complement, of the `n` bytes of `bs` from `off`, most significant first. -/
def beSignedAt (bs : List Byte) (off n : Nat) : Int := (BitVec.ofNat (8 * n) (beAt bs off n)).toInt

/-- A serial, pattern, mask or split set: four bytes, most significant first (R190). -/
def serialAt (bs : List Byte) (off : Nat) : Serial := BitVec.ofNat 32 (beAt bs off 4)

/-- `n` bytes of a value, least significant first. -/
def leBytes : Nat → Nat → List Byte
  | 0, _ => []
  | n + 1, v => BitVec.ofNat 8 v :: leBytes n (v / 256)

/-- `n` bytes of a value, most significant first. -/
def beBytes (n v : Nat) : List Byte := (leBytes n v).reverse

/-- `n` bytes of a signed value, two's complement, least significant first (R190). -/
def leSigned (n : Nat) (v : Int) : List Byte := leBytes n (BitVec.ofInt (8 * n) v).toNat

/-- `n` bytes of a signed value, two's complement, most significant first (R190). -/
def beSigned (n : Nat) (v : Int) : List Byte := beBytes n (BitVec.ofInt (8 * n) v).toNat

/-- A code or count in one byte. -/
def byteOf (n : Nat) : Byte := BitVec.ofNat 8 n

/-- A yes/no in one byte (R190). -/
def boolByte (b : Bool) : Byte := if b then 1 else 0

/-- The byte whose bit `i` is the `i`-th of the given bits. -/
def packBits : List Bool → Nat
  | [] => 0
  | b :: bs => (if b then 1 else 0) + 2 * packBits bs

/-! ## The burst header (spec/12, 12.7; R192) -/

/-- The burst kind of a kind code; a code outside 1 to 6 is UNKNOWN (R192). -/
def burstKindOf (code : Nat) : BurstKind :=
  match code with
  | 1 => .censusReply
  | 2 => .tagAck
  | 3 => .echo
  | 4 => .trimAck
  | 5 => .ret
  | 6 => .standing
  | _ => .unknown

/-- The burst report that the receiver forms from a header, its check verdict, the overlap mark and the arrival tick
(R84, R192). A declared length of 0 gives length 1 with the check failed. -/
def reportOf (arrival : Tick) (header : List Byte) (check overlap : Bool) : Report :=
  let kind := burstKindOf (leAt header 0 1)
  let declared := leAt header 5 2
  let status := BitVec.ofNat 8 (leAt header 7 1)
  { arrival := arrival
    length := if declared = 0 then 1 else declared
    check := check && declared != 0
    overlap := overlap
    kind := kind
    address :=
      if kind = .censusReply then .serial (BitVec.ofNat 32 (leAt header 1 4)) else .tag (BitVec.ofNat 8 (leAt header 1 1))
    seq := status.getLsbD 0
    powerFailing := status.getLsbD 1
    rxLow := status.getLsbD 2
    serialEcho := if kind = .tagAck then some (BitVec.ofNat 32 (leAt header 8 4)) else none }

/-- A burst is clean when its check passed and its overlap mark is clear (R84). -/
def Report.clean (r : Report) : Bool := r.check && !r.overlap

/-- The burst declares the tag of `t` as its address. -/
def Report.fromTag (r : Report) (t : Tag) : Bool := r.address = .tag (byteOf (tagNum t))

end Sys2Proof.Machine
end

