-- ==== Sys2Proof/Machine/Arith.lean ====
section
/-! DEFINITION. The arithmetic of chapters 3 and 9: window points and starts, echoes, means, the hold-off, drift, the offset and the level curve. Every division here has a positive divisor, so `/` on integers is floor. -/

namespace Sys2Proof.Machine

/-! ## Chapter 1 -/

/-- The plan close point as a percentage of the cycle length (R10, R21). -/
def closePercent (code : Nat) : Nat :=
  match code with
  | 0 => 80
  | 1 => 85
  | 2 => 90
  | _ => 95

/-- The plan close of a cycle lies this many ticks after its start (R10, R65). -/
def closeOffset (ls : LineSettings) (len : Nat) : Nat := len * closePercent ls.closeCode / 100

/-! ## Chapter 3 -/

/-- The length G of a census gap (R50, R69). -/
def gapLength (ls : LineSettings) : Nat := (ls.ref - ls.eMin) + 256 + ls.wu

/-- The length of the bursts that grants other than CENSUS and STANDING ask for (R67). -/
def shotLength : Nat := 192

/-- The length of the occupancy of a one-shot of this kind (R50, R74). -/
def shotOccupancy (ls : LineSettings) (kind : GrantKind) : Nat :=
  match kind with
  | .offerReply | .probe => shotLength + 2 * ls.wu
  | _ => shotLength + 2 * ls.wt

/-- The coarse echo of a census reply at frame position `p`, clamped to [E_min, Ref] (R52). -/
def coarseEcho (ls : LineSettings) (p gapStart : Nat) : Int :=
  clampInt ls.eMin ls.ref ((p : Int) - gapStart + ls.eMin)

/-- The echo of a probe burst at frame position `p` answering a grant with start `start` (R53). -/
def echoOf (ls : LineSettings) (p : Nat) (start : Int) : Int := (p : Int) + ls.ref - start

/-- The mean of a list, to the nearest integer with halves to the greater (R54, R131). -/
def meanOf (xs : List Int) : Int := (xs.sum + (xs.length / 2 : Nat)) / (xs.length : Int)

/-- The greatest of a list minus the least (R55). -/
def spreadOf (xs : List Int) : Int :=
  match xs with
  | [] => 0
  | x :: rest => rest.foldl max x - rest.foldl min x

/-- The deviation of a trimmed burst from its window point (R58). -/
def deviationOf (p : Nat) (point : Option Nat) : Int := (p : Int) - (point.getD 0 : Nat)

/-- The drift accumulator's saturation (R60). -/
def saturateDrift (v : Int) : Int := clampInt (-4096) 4095 v

/-- A deviation clamped to [-W_t, +W_t] and added to the accumulator (R60). -/
def driftAdd (ls : LineSettings) (drift d : Int) : Int :=
  saturateDrift (drift + clampInt (-(ls.wt : Int)) ls.wt d)

/-- The rounded mean deviation of a block, halves away from zero, with the sign of D (R62 step 1). -/
def driftMean (drift : Int) : Int :=
  let r := ((drift.natAbs : Int) + 4) / 8
  if drift < 0 then -r else r

/-! ## Chapter 9 -/

/-- The sample window of its code (R157). -/
def sampleWindow (code : Fin 4) : Nat :=
  match code with
  | 0 => 32
  | 1 => 64
  | 2 => 128
  | 3 => 192

/-- The step time of its code (R157). -/
def stepTime (code : Fin 3) : Nat :=
  match code with
  | 0 => 4
  | 1 => 16
  | 2 => 64

/-- An odd value is replaced by the even value next to it that is nearer zero (R158). -/
def evenTowardZero (v : Int) : Int :=
  if v % 2 = 0 then v else if 0 < v then v - 1 else v + 1

/-- Made even, then clamped to -14 to +14 (R158). -/
def offsetOf (v : Int) : Int := clampInt (-14) 14 (evenTowardZero v)

/-- The corrected code (R158), 0 to 4,095. -/
def correctedCode (raw : BitVec 12) (offset : Int) : Nat := (clampInt 0 4095 ((raw.toNat : Int) + offset)).toNat

/-- The curve point V[k]; 0 beyond the curve, where no corrected code leads. -/
def curvePoint (curve : Bank Int 33) (k : Nat) : Int := curve.cells.getD k 0

/-- The level of a corrected code, interpolated to the nearest with halves to the greater and clamped (R159). -/
def levelOf (curve : Bank Int 33) (c : Nat) : Int :=
  let k := c / 128
  let f := c % 128
  let v := curvePoint curve k
  clampInt (-600) 100 (v + ((curvePoint curve (k + 1) - v) * (f : Int) + 64) / 128)

end Sys2Proof.Machine
end

