-- ==== Sys2Proof/Machine/Formats.lean ====
section
/-! DEFINITION. The layouts of spec/12 and the bodies of chapter 11: codes, the check, control link frames, the cycle head, and the reply and notice bodies. -/

namespace Sys2Proof.Machine

/-! ## Codes (R190, 12.1 to 12.3) -/

/-- Line state codes. -/
def LineState.code : LineState → Byte
  | .dark => 0 | .warming => 1 | .running => 2 | .draining => 3

/-- Reason codes. -/
def Reason.code : Reason → Byte
  | .noReason => 0 | .host => 1 | .lost => 2 | .powerLoss => 3 | .lineDown => 4 | .noReply => 5 | .corrupt => 6
  | .overlong => 7 | .sequence => 8 | .outOfReach => 9 | .unstable => 10 | .levelLow => 11 | .levelHigh => 12
  | .levelUnknown => 13 | .trimMismatch => 14 | .released => 15

/-- Result codes (12.2). -/
def Result.code : Result → Byte
  | .ok => 0x00 | .okClamped => 0x01 | .accepted => 0x02 | .busy => 0x10 | .unknown => 0x11 | .length => 0x12
  | .range => 0x13 | .state => 0x14 | .conflict => 0x15 | .full => 0x16 | .absent => 0x17

/-- Admission mode codes. -/
def AdmissionMode.code : AdmissionMode → Byte
  | .openMode => 0 | .listed => 1 | .mixed => 2

/-- The admission mode of a code, if it names one (R47). -/
def admissionModeOf (code : Nat) : Option AdmissionMode :=
  match code with
  | 0 => some .openMode
  | 1 => some .listed
  | 2 => some .mixed
  | _ => none

/-- Census mode codes. -/
def CensusMode.code : CensusMode → Byte
  | .single => 0 | .sweep => 1

/-- The census mode of a code, if it names one (R102). -/
def censusModeOf (code : Nat) : Option CensusMode :=
  match code with
  | 0 => some .single
  | 1 => some .sweep
  | _ => none

/-- Census state codes. -/
def CensusState.code : CensusState → Byte
  | .stopped => 0 | .searching => 1 | .stopping => 2

/-- Pass end kind codes (12.5). -/
def PassEnd.code : PassEnd → Byte
  | .complete => 0 | .stopped => 1 | .lineDown => 2

/-- Stranger reason codes. -/
def StrangerReason.code : StrangerReason → Byte
  | .unlisted => 0 | .rosterFull => 1

/-- Converter state codes. -/
def ConvState.code : ConvState → Byte
  | .idle => 0 | .sampling _ => 1 | .converting _ => 2 | .calibrating _ => 3

/-- Calibration cause codes, NONE for DONE (12.5). -/
def calibCauseCode : Option CalibCause → Byte
  | none => 0 | some .busy => 1 | some .light => 2 | some .lineDown => 3

/-- Reset cause codes. -/
def ResetCause.code : ResetCause → Byte
  | .powerOn => 0 | .pin => 1 | .fullRestart => 2 | .lineRestart => 3

/-- The restart form of a code, if it names one (R187). -/
def restartFormOf (code : Nat) : Option RestartForm :=
  match code with
  | 0 => some .line
  | 1 => some .full
  | _ => none

/-- The state code of a record (R23, 12.1). -/
def recordStateCode : Option Terminal → Byte
  | none => 0
  | some h =>
    match h.phase with
    | .heard => 1
    | .engaged _ _ => 2
    | .active _ => 3
    | .silent _ _ _ => 4
    | .parked _ _ => 5

/-- Lane stage codes. -/
def laneStageCode : Option LaneWork → Byte
  | none => 0
  | some w =>
    match w.stage with
    | .offer _ => 1
    | .probe _ => 2
    | .trim _ _ => 3

/-- The record flags byte; bits 4 to 7 are 0 (DESIGN CHOICE, log 34). -/
def RecFlags.byte (f : RecFlags) : Byte := byteOf (packBits [f.levelAlarm, f.rxLow, f.driftSat, f.trimLimit])

/-- The notice mask byte; bits 5 to 7 are 0 (DESIGN CHOICE, log 34). -/
def NoticeMask.byte (m : NoticeMask) : Byte := byteOf (packBits [m.line, m.calibration, m.census, m.terminal, m.plan])

/-- The notice mask that a byte gives; bits 5 to 7 carry no enable (log 21). -/
def NoticeMask.ofByte (b : Byte) : NoticeMask :=
  { line := b.getLsbD 0, calibration := b.getLsbD 1, census := b.getLsbD 2, terminal := b.getLsbD 3, plan := b.getLsbD 4 }

/-- The five kind pending flags in one byte (12.1); HELLO is bit 5. TERMINAL has no kind flag (R175, R182), so bit 3 is
clear: DEDUCED, log 20. Bits 6 and 7 are 0 (DESIGN CHOICE, log 34). -/
def KindFlags.byte (k : KindFlags) : Byte :=
  byteOf (packBits [k.line, k.calibration, k.census, false, k.plan, k.hello])

/-- Sixteen bytes with tag n in bit (n - 1) mod 8 of byte (n - 1) div 8 (R190). -/
def tagSet (flags : List Bool) : List Byte := leBytes 16 (packBits flags)

/-! ## Absent values are sent as zeros (R190) -/

/-- An optional unsigned value in `n` bytes. -/
def optBE (n : Nat) (v : Option Nat) : List Byte := beBytes n (v.getD 0)

/-- An optional signed value in `n` bytes. -/
def optSigned (n : Nat) (v : Option Int) : List Byte := beSigned n (v.getD 0)

/-- An optional byte. -/
def optByte (v : Option Byte) : Byte := v.getD 0

/-! ## The check (R169) -/

/-- One bit into the 16-bit check, generator x^16 + x^12 + x^5 + 1. -/
def crcBit (crc : BitVec 16) (bit : Bool) : BitVec 16 :=
  if crc.getLsbD 15 != bit then (crc <<< 1) ^^^ 0x1021#16 else crc <<< 1

/-- One byte into the check, most significant bit first (R169). -/
def crcByte (crc : BitVec 16) (b : Byte) : BitVec 16 :=
  [7, 6, 5, 4, 3, 2, 1, 0].foldl (fun acc i => crcBit acc (b.getLsbD i)) crc

/-- The check's start value (R169). -/
def crcStart : BitVec 16 := 0xFFFF

/-- The check over bytes (R169). -/
def crcOf (bs : List Byte) : BitVec 16 := bs.foldl crcByte crcStart

/-! ## Control link frames (12.2) -/

/-- A frame: start byte, length, kind, request tag byte, body and check, high byte first (R169). -/
def linkFrame (kind : Byte) (tagByte : Byte) (body : List Byte) : List Byte :=
  let counted := byteOf (2 + body.length) :: kind :: tagByte :: body
  0xA5 :: counted ++ beBytes 2 (crcOf counted).toNat

/-- A kind with bit 7 set, as a reply carries it (12.2). -/
def replyKind (kind : Byte) : Byte := kind ||| 0x80

/-- A reply's frame: the quiet flag clear, the result code first in the body (R173, 12.2). -/
def Reply.frame (r : Reply) : List Byte :=
  linkFrame (replyKind r.kind) (r.tag.setWidth 8) (r.result.code :: r.body)

/-- A notice's frame: request tag 0, no result code (R176, 12.2). -/
def noticeFrame (kind : Byte) (body : List Byte) : List Byte := linkFrame kind 0 body

/-! ## The cycle head (R191) -/

/-- Grant kind codes. -/
def GrantKind.code : GrantKind → Byte
  | .census => 0 | .offerReply => 1 | .probe => 2 | .trimCheck => 3 | .ret => 4 | .standing => 5

/-- The 15-byte grant entry: unused fields are zeros; the start is in bits 0 to 19 and the sequence bit in bit 23 of
bytes 2 to 4 (R191). -/
def Grant.bytes (g : Grant) : List Byte :=
  let isCensus := g.kind = .census
  let tag := if isCensus then 255 else (g.tag.map tagNum).getD 0
  [g.kind.code, byteOf tag]
    ++ leBytes 3 (g.start.toNat % 2 ^ 20 + if g.seq then 2 ^ 23 else 0)
    ++ leBytes 2 (if g.kind = .standing then g.length else 0)
    ++ leBytes 4 (if isCensus then g.pattern.toNat else 0)
    ++ leBytes 4 (if isCensus then g.mask.toNat else 0)

/-- The 9-byte line notice entry (R191): kind, address, value. -/
def NoticeBody.bytes : NoticeBody → List Byte
  | .tagOffer serial tag => 1 :: leBytes 4 serial.toNat ++ leBytes 4 (tagNum tag)
  | .holdoff tag value => 2 :: leBytes 4 (tagNum tag) ++ leBytes 4 value.toNat
  | .nudge tag delta => 3 :: leBytes 4 (tagNum tag) ++ leSigned 4 delta
  | .standDown tag reason => 4 :: leBytes 4 ((tag.map tagNum).getD 255) ++ leBytes 4 reason.code.toNat
  | .hush serial cycles => 5 :: leBytes 4 serial.toNat ++ leBytes 4 cycles

/-- The head as it is sent: cycle number, flags, counts, grants, line notices, and the check low byte first (R191). Bit 0
of the flags byte says DRAINING; that bits 1 to 7 are 0 is DESIGN CHOICE, log 35. -/
def Head.bytes (h : Head) : List Byte :=
  let front := leBytes 2 h.cycle.toNat ++ [boolByte h.draining, byteOf h.grants.length, byteOf h.notices.length]
    ++ h.grants.flatMap Grant.bytes ++ h.notices.flatMap (fun n => n.body.bytes)
  front ++ leBytes 2 (crcOf front).toNat

/-! ## The terminal record (12.4) -/

/-- The service fields of a record, if it is ACTIVE or SILENT. -/
def Terminal.service (h : Terminal) : Option Service :=
  match h.phase with
  | .active v => some v
  | .silent v _ _ => some v
  | _ => none

/-- E and H, present in ENGAGED from the lane's TRIM stage, ACTIVE and SILENT (R23). -/
def Terminal.echoHold (h : Terminal) : Option EchoHold :=
  match h.phase with
  | .engaged _ trim => trim
  | .active v => some ⟨v.echo, v.holdoff⟩
  | .silent v _ _ => some ⟨v.echo, v.holdoff⟩
  | _ => none

/-- The park reason and hold, present in PARKED (R23). -/
def Terminal.park (h : Terminal) : Option (Reason × Nat) :=
  match h.phase with
  | .parked reason hold => some (reason, hold)
  | _ => none

/-- Silent-since cycle and grace remaining, present in SILENT (R23). -/
def Terminal.silence (h : Terminal) : Option (CycleNo × Nat) :=
  match h.phase with
  | .silent _ since grace => some (since, grace)
  | _ => none

/-- The lane, present in ENGAGED (R23). -/
def Terminal.lane (h : Terminal) : Option LaneNo :=
  match h.phase with
  | .engaged lane _ => some lane
  | _ => none

/-- Attempts left, present in OFFER and TRIM (R118). -/
def LaneWork.attempts (w : LaneWork) : Option Nat :=
  match w.stage with
  | .offer a => some a
  | .trim a _ => some a
  | .probe _ => none

/-- The PROBE fields, present in PROBE (R118). -/
def LaneWork.probing (w : LaneWork) : Option ProbeWork :=
  match w.stage with
  | .probe p => some p
  | _ => none

/-- The 57 bytes of a terminal record: `work` is the work of the lane that holds the record, if it is ENGAGED
(R184, 12.4). The presence word's bit k is the k-th of the list of presences. Its bits 28 to 31, and bits 2 to 7 of the byte
of the outstanding marks, are 0 (DESIGN CHOICE, log 34). -/
def recordBytes (t : Tag) (r : Record) (pendingFlag : Bool) (work : Option LaneWork) : List Byte :=
  let h := r.term
  let v := h.bind Terminal.service
  let eh := h.bind Terminal.echoHold
  let park := h.bind Terminal.park
  let silence := h.bind Terminal.silence
  let lane := h.bind Terminal.lane
  let level := h.bind Terminal.level
  let w := if lane.isSome then work else none
  let attempts := w.bind LaneWork.attempts
  let probing := w.bind LaneWork.probing
  let nudge := v.bind Service.nudgeCycle
  let here := h.isSome
  let served := v.isSome
  let presence : List Bool :=
    [here, here, here, here, park.isSome, park.isSome, level.isSome, eh.isSome,
     eh.isSome, served, served, served, served, served, served, served,
     nudge.isSome, here, served, lane.isSome, silence.isSome, silence.isSome, w.isSome, attempts.isSome,
     probing.isSome, probing.isSome, probing.isSome, probing.isSome]
  [byteOf (tagNum t), recordStateCode h, byteOf r.changes, (h.map fun x => x.flags.byte).getD 0]
    ++ beBytes 4 (packBits presence)
    ++ optBE 4 (h.map fun x => x.serial.toNat)
    ++ [boolByte ((h.map Terminal.listed).getD false), byteOf ((h.map fun x => x.profile.val).getD 0)]
    ++ optBE 4 (h.map fun x => x.coarse.toNat)
    ++ [(park.map fun x => x.1.code).getD 0]
    ++ optBE 2 (park.map Prod.snd)
    ++ optSigned 2 level
    ++ optBE 4 (eh.map fun x => x.holdoff.toNat)
    ++ [boolByte pendingFlag]
    ++ optBE 4 (eh.map fun x => x.echo.toNat)
    ++ [byteOf ((v.map Service.miss).getD 0)]
    ++ optSigned 2 (v.map Service.drift)
    ++ [byteOf ((v.map Service.bursts).getD 0), byteOf ((v.map Service.levelOut).getD 0),
        byteOf ((v.map Service.levelIn).getD 0), byteOf ((v.map Service.corrupt).getD 0),
        byteOf (packBits [(v.map Service.nudgeOut).getD false, (v.map Service.returnOut).getD false])]
    ++ optBE 2 (nudge.map BitVec.toNat)
    ++ optBE 2 (h.map fun x => x.heardCycle.toNat)
    ++ optBE 2 (v.map fun x => x.activeSince.toNat)
    ++ [byteOf ((lane.map Fin.val).getD 0)]
    ++ optBE 2 (silence.map fun x => x.1.toNat)
    ++ optBE 2 (silence.map Prod.snd)
    ++ [laneStageCode w, byteOf (attempts.getD 0), byteOf ((probing.map ProbeWork.remaining).getD 0),
        byteOf ((probing.map ProbeWork.extensions).getD 0), byteOf ((probing.map fun p => p.echoes.length).getD 0),
        byteOf ((probing.map fun p => p.levels.length).getD 0)]

/-! ## Reading the whole state -/

/-- The lane that a record's ENGAGED state names, with its work (R184). -/
def State.laneWorkOf (s : State) (t : Tag) : Option LaneWork :=
  ((s.roster.records.get t).term.bind Terminal.lane).bind fun i => (s.lanes.get i).work

/-- The 57 bytes that READ TERMINAL reports for a tag (R184). -/
def State.recordBytes (s : State) (t : Tag) : List Byte :=
  Machine.recordBytes t (s.roster.records.get t) (s.link.recFlags.get t) (s.laneWorkOf t)

/-- The bytes of the eight line settings, in the order of SET LINE (12.3). -/
def LineSettings.bytes (ls : LineSettings) : List Byte :=
  beBytes 4 ls.ref ++ beBytes 4 ls.eMin ++ beBytes 2 ls.guard ++ beBytes 2 ls.wt ++ beBytes 2 ls.wu
    ++ [byteOf ls.exponent, byteOf ls.closeCode] ++ beBytes 2 ls.hush

/-- The bytes of a profile's fields, in the order of SET PROFILE (12.3). -/
def Profile.bytes (p : Profile) : List Byte :=
  beBytes 2 p.length ++ [byteOf p.period] ++ beSigned 2 p.low ++ beSigned 2 p.high
    ++ [byteOf p.probes, byteOf p.spread, byteOf p.missLimit] ++ beBytes 2 p.grace
    ++ [byteOf p.interval, byteOf p.threshold] ++ beBytes 2 p.parkHold

/-- The bytes of the nine pass counters (R114). -/
def PassCounters.bytes (c : PassCounters) : List Byte :=
  [c.gaps, c.garbled, c.heard, c.admitted, c.refreshed, c.ignored, c.hushed, c.strangers, c.ties].flatMap (beBytes 2)

/-- The bytes of an expected-list entry (12.3). -/
def Expected.bytes (e : Expected) : List Byte :=
  beBytes 4 e.serial.toNat ++ [byteOf (tagNum e.tag), byteOf e.profile.val]

/-- The bytes of a stranger-list entry: serial, reason, cycle first heard (R46). -/
def Stranger.bytes (x : Stranger) : List Byte :=
  beBytes 4 x.serial.toNat ++ [x.reason.code] ++ beBytes 2 x.cycle.toNat

/-- The IDENTIFY body (R181): identity, revision, strap code, reset cause. -/
def State.identityBody (s : State) : List Byte :=
  beBytes 2 Config.identityCode ++ [byteOf Config.revisionCode, byteOf s.link.straps.toNat, s.link.cause.code]

/-- The READ STATUS body (R182, 12.4): 189 bytes. -/
def State.statusBody (s : State) : List Byte :=
  let l := s.line
  let cyc := if l.state = .dark then none else l.cycle
  let r := s.roster
  let c := s.census
  let p := s.planner
  let v := s.conv
  let k := s.link
  [l.state.code, l.prev.code, byteOf l.transitions] ++ optBE 2 (cyc.map fun x => x.num.toNat) ++ optBE 4 (cyc.map Cycle.len)
    ++ beBytes 4 l.pendingLen ++ l.settings.bytes
    ++ [byteOf l.notices.length, byteOf p.shots.length, byteOf r.admission.length, byteOf k.inbound.length, byteOf k.outbound.length]
    ++ [byteOf r.expected.length, byteOf r.barred.length, byteOf r.strangers.length, boolByte r.overflowed, r.mode.code,
        byteOf r.poolLow, byteOf r.poolHigh, byteOf r.openProfile.val]
    ++ ((r.barred.map BitVec.toNat ++ List.replicate 16 0).take 16).flatMap (beBytes 4)
    ++ s.lanes.cells.flatMap (fun x => [laneStageCode x.work, byteOf ((x.work.map fun w => tagNum w.tag).getD 0)])
    ++ [c.state.code, c.mode.code, byteOf c.interval, byteOf c.stack.length, boolByte c.outstanding.isSome, byteOf c.wait]
    ++ c.counters.bytes
    ++ beBytes 2 p.overruns ++ [boolByte p.lastOverrun.isSome] ++ optBE 2 (p.lastOverrun.map BitVec.toNat)
    ++ beBytes 4 s.intake.strays.toNat
    ++ [v.state.code, byteOf v.windowCode.val, byteOf v.stepCode.val] ++ beSigned 1 v.offset
    ++ [boolByte v.calib.isSome, byteOf ((v.calib.map Calibration.attempts).getD 0)] ++ beBytes 4 v.refused.toNat
    ++ beBytes 4 k.faults.toNat ++ [k.mask.byte, k.kinds.byte] ++ tagSet k.recFlags.cells

/-! ## Notice bodies (12.5) -/

/-- The HELLO body (R177). -/
def State.helloBody (s : State) : List Byte :=
  [s.link.cause.code, byteOf s.link.straps.toNat] ++ beBytes 2 Config.identityCode ++ [byteOf Config.revisionCode]

/-- The LINE body (R7). -/
def State.lineBody (s : State) : List Byte := [s.line.state.code, s.line.prev.code, byteOf s.line.transitions]

/-- The CALIBRATION body (R165). -/
def State.calibrationBody (s : State) : List Byte :=
  let x := s.conv.lastCalib
  [boolByte ((x.map fun y => !y.done).getD false)] ++ optBE 2 (x.map CalibResult.target)
    ++ [byteOf ((x.map CalibResult.attempts).getD 0)] ++ optBE 2 ((x.bind CalibResult.code).map BitVec.toNat)
    ++ [calibCauseCode (x.bind CalibResult.cause)] ++ optSigned 1 (x.map CalibResult.offset)

/-- The CENSUS body (R115). -/
def State.censusBody (s : State) : List Byte :=
  let x := s.census.lastPass
  let tie := x.bind PassRecord.tie
  [s.census.state.code, boolByte x.isSome, (x.map fun y => y.kind.code).getD 0]
    ++ optBE 2 (x.map fun y => y.cycle.toNat) ++ ((x.map PassRecord.counters).getD .zero).bytes
    ++ [boolByte tie.isSome] ++ optBE 4 (tie.map fun y => y.pattern.toNat) ++ optBE 4 (tie.map fun y => y.mask.toNat)
    ++ optBE 2 (tie.map fun y => y.cycle.toNat)
    ++ [byteOf s.census.passes, byteOf s.roster.strangers.length, boolByte s.roster.overflowed]

/-- The TERMINAL body: bytes 0 to 26 of the terminal record (12.4). -/
def State.terminalBody (s : State) (t : Tag) : List Byte := (s.recordBytes t).take 27

/-- The PLAN body (R73). -/
def State.planBody (s : State) : List Byte :=
  beBytes 2 s.planner.overruns ++ [boolByte s.planner.lastOverrun.isSome]
    ++ optBE 2 (s.planner.lastOverrun.map BitVec.toNat)

end Sys2Proof.Machine
end

