-- ==== Sys2Proof/Machine/Updates.lean ====
section
/-! DEFINITION. The named updates: each writes one field, or a pair that is written together, and leaves the rest of the state as it was. -/

namespace Sys2Proof.Machine

/-! ## Line Timer -/

/-- The tick counter stands at `x` (R8). -/
def State.setTick (s : State) (x : Tick) : State := { s with line.tick := x }

/-- The line notice queue is `l` (R13). -/
def State.setNotices (s : State) (l : List LineNotice) : State := { s with line.notices := l }

/-- The assembled head is `x` (R12). -/
def State.setHead (s : State) (x : Option Head) : State := { s with line.head := x }

/-- The cycle in progress is `x` (R9). -/
def State.setCycle (s : State) (x : Option Cycle) : State := { s with line.cycle := x }

/-- Warm-up remaining is `n` (R3). -/
def State.setWarmup (s : State) (n : Nat) : State := { s with line.warmup := n }

/-- Draining remaining is `n`, and the cycle in progress is a draining cycle or not (R6; log 13). -/
def State.setDrain (s : State) (n : Nat) (inside : Bool) : State :=
  { s with line.drainLeft := n, line.drainCycle := inside }

/-- The transmitter enable output (R1). -/
def State.setEnable (s : State) (b : Bool) : State := { s with line.txEnable := b }

/-! ## Roster -/

/-- The admission queue is `l` (R30). -/
def State.setAdmissionQueue (s : State) (l : List Tag) : State := { s with roster.admission := l }

/-- The stranger list is `l` (R45). -/
def State.setStrangers (s : State) (l : List Stranger) : State := { s with roster.strangers := l }

/-- A stranger could not be recorded (R29, R45). -/
def State.setOverflowed (s : State) : State := { s with roster.overflowed := true }

/-- The Roster's waiting postings are `l` (R13). -/
def State.setWaiting (s : State) (l : List LineNotice) : State := { s with roster.waiting := l }

/-! ## Census Unit -/

/-- The Census Unit's state is `c`. -/
def State.setCensus (s : State) (c : Census) : State := { s with census := c }

/-! ## Burst Planner -/

/-- The one-shot queue is `l` (R77). -/
def State.setShots (s : State) (l : List OneShot) : State := { s with planner.shots := l }

/-- The dark-slot request is WAITING, or NONE (R70). -/
def State.setSlotWanted (s : State) (b : Bool) : State := { s with planner.slotWanted := b }

/-- The overrun count and the last overrun cycle (R73). -/
def State.setOverruns (s : State) (n : Nat) (c : CycleNo) : State :=
  { s with planner.overruns := n, planner.lastOverrun := some c }

/-- The level sweep pointer is `n` (R75). -/
def State.setSweep (s : State) (n : Nat) : State := { s with planner.sweep := n }

/-- The built plan is `p` (R65). -/
def State.setBuilt (s : State) (p : Option Plan) : State := { s with planner.built := p }

/-- The plan last issued on the plan interface is `p` (R9; log 17). -/
def State.setFramerPlan (s : State) (p : Plan) : State := { s with planner.framerPlan := some p }

/-! ## Burst Intake -/

/-- The plan store is `l` (R86). -/
def State.setStore (s : State) (l : List StoredPlan) : State := { s with intake.store := l }

/-- A stray is counted (R95). -/
def State.countStray (s : State) : State := { s with intake.strays := s.intake.strays + 1 }

/-! ## Activation Lanes -/

/-- The eight lanes are `b`. -/
def State.setLanes (s : State) (b : Bank Lane 8) : State := { s with lanes := b }

/-- The lane's seizure number goes up by one (R118, R120). -/
def State.bumpSeizure (s : State) (i : LaneNo) : State :=
  { s with lanes := s.lanes.update i fun l => { l with seizure := l.seizure + 1 } }

/-! ## Supervisor -/

/-- What the Supervisor holds for all records is `b`. -/
def State.setSup (s : State) (b : Bank SupEntry 128) : State := { s with sup := b }

/-- What the Supervisor holds for the record of `t` becomes `f` of itself. -/
def State.updSup (s : State) (t : Tag) (f : SupEntry → SupEntry) : State := { s with sup := s.sup.update t f }

/-! ## Level Converter -/

/-- The converter state is `x` (R153). -/
def State.setConvState (s : State) (x : ConvState) : State := { s with conv.state := x }

/-- The calibration record is `c` (R162). -/
def State.setCalib (s : State) (c : Option Calibration) : State := { s with conv.calib := c }

/-- The offset is `v` (R158). -/
def State.setOffset (s : State) (v : Int) : State := { s with conv.offset := v }

/-- A refused capture is counted (R155). -/
def State.countRefused (s : State) : State := { s with conv.refused := s.conv.refused + 1 }

end Sys2Proof.Machine
end

