-- ==== Sys2Proof/Machine/Flags.lean ====
section
/-! DEFINITION. The pending flags and the counts that changes leave: kind flags, record flags with changes counts, and the line state with its transition count. -/

namespace Sys2Proof.Machine

/-! ## Kind flags (R175) -/

/-- LINE is set pending (R7). -/
def State.raiseLine (s : State) : State := { s with link.kinds.line := true }

/-- CALIBRATION is set pending (R165). -/
def State.raiseCalibration (s : State) : State := { s with link.kinds.calibration := true }

/-- CENSUS is set pending (R112). -/
def State.raiseCensus (s : State) : State := { s with link.kinds.census := true }

/-- PLAN is set pending (R73). -/
def State.raisePlan (s : State) : State := { s with link.kinds.plan := true }

/-! ## Records (R23, R24) -/

/-- The terminal that a record holds, or none where it is FREE. -/
def State.term (s : State) (t : Tag) : Option Terminal := (s.roster.records.get t).term

/-- The parts of a record whose change the host is told of: state, park reason and flags (R24). -/
structure Visible where
  state : Byte
  reason : Option Reason
  flags : RecFlags
  deriving DecidableEq, Repr

/-- What of a record is visible in the sense of R24; a FREE record has no flags. -/
def visibleOf (h : Option Terminal) : Visible :=
  { state := recordStateCode h
    reason := (h.bind Terminal.park).map Prod.fst
    flags := (h.map Terminal.flags).getD .clear }

/-- The record's pending flag is set and its changes count goes up by one, to at most 255 (R24). -/
def State.noteChange (s : State) (t : Tag) : State :=
  { s with
    link.recFlags := s.link.recFlags.set t true
    roster.records := s.roster.records.update t fun r => { r with changes := satInc 255 r.changes } }

/-- The record of `t` is given what it holds, with no change noted. -/
def State.putTerm (s : State) (t : Tag) (h : Option Terminal) : State :=
  { s with roster.records := s.roster.records.update t fun r => { r with term := h } }

/-- One event's whole effect on the record of `t`: what it holds becomes `h`, and a change of state, park reason or
flags is noted once (R24). -/
def State.changeTerm (s : State) (t : Tag) (h : Option Terminal) : State :=
  if visibleOf (s.term t) = visibleOf h then s.putTerm t h else (s.putTerm t h).noteChange t

/-! ## The line state (R7) -/

/-- A change of line state: the state left becomes the previous one, the transition is counted, LINE is pending (R7). -/
def State.enterLine (s : State) (new : LineState) : State :=
  { s with
    line.prev := s.line.state
    line.state := new
    line.transitions := satInc 255 s.line.transitions }.raiseLine

/-- The line is lit in WARMING, RUNNING and DRAINING (R1). -/
def State.lit (s : State) : Bool := s.line.state != .dark

/-- The line is RUNNING. -/
def State.running (s : State) : Bool := s.line.state = .running

/-- The current cycle number while the line is lit; 0 where no cycle runs, which no rule but R112 in DARK reads (log 6). -/
def State.cycleNo (s : State) : CycleNo := (s.line.cycle.map Cycle.num).getD 0

/-- The cycle mark output: high for the 16 ticks from a cycle start (R9). -/
def State.cycleMark (s : State) : Bool :=
  match s.line.cycle with
  | some c => tickDiff s.line.tick c.start < 16
  | none => false

/-- The link rate in baud of the latched strap code (R168). -/
def State.linkRate (s : State) : Nat :=
  match s.link.straps.toNat with
  | 0 => 115200
  | 1 => 460800
  | 2 => 921600
  | _ => 3000000

end Sys2Proof.Machine
end

