-- ==== Sys2Proof/Machine/Ops.lean ====
section
/-! DEFINITION. The operations that blocks share: posting into the line notice queue and the one-shot queue, withdrawing entries, and a lane's or the Supervisor's own fields. -/

namespace Sys2Proof.Machine

/-! ## Posting (R13, R78) -/

/-- How a posting fared: queued, not queued because the queue was full, or discarded outside RUNNING (R13, R78). -/
inductive Posting where
  | queued | full | discarded
  deriving DecidableEq, Repr

/-- A posting as the line state and the queue's fill decide it. -/
def postingOf (state : LineState) (fill cap : Nat) : Posting :=
  if state = .running then (if fill < cap then .queued else .full) else .discarded

/-- How a posting into the line notice queue of 16 entries fares now (R13). -/
def State.noticePosting (s : State) : Posting := postingOf s.line.state s.line.notices.length 16

/-- The line notice joins the tail of its queue if the queue takes it (R13). -/
def State.queueNotice (s : State) (n : LineNotice) : State :=
  match s.noticePosting with
  | .queued => s.setNotices (s.line.notices ++ [n])
  | _ => s

/-- How a posting into the one-shot queue of 8 entries fares now (R78). -/
def State.shotPosting (s : State) : Posting := postingOf s.line.state s.planner.shots.length 8

/-- The one-shot entry joins the tail of its queue if the queue takes it (R78). -/
def State.queueShot (s : State) (e : OneShot) : State :=
  match s.shotPosting with
  | .queued => s.setShots (s.planner.shots ++ [e])
  | _ => s

/-! ## The Roster as poster -/

/-- The Roster posts a HUSH or a STAND DOWN; where the queue is full it keeps the entry waiting, behind those that
already wait (R13, R26). -/
def State.rosterPost (s : State) (body : NoticeBody) : State :=
  let n : LineNotice := { body := body, poster := .roster }
  match s.noticePosting with
  | .full => s.setWaiting (s.roster.waiting ++ [n])
  | _ => s.queueNotice n

/-- A STAND DOWN to a tag (R18). -/
def State.standDown (s : State) (t : Tag) (reason : Reason) : State := s.rosterPost (.standDown (some t) reason)

/-! ## Lanes -/

/-- The lane's work becomes `w`. -/
def State.setWork (s : State) (i : LaneNo) (w : Option LaneWork) : State :=
  { s with lanes := s.lanes.update i fun l => { l with work := w } }

/-- The work of a lane. -/
def State.work (s : State) (i : LaneNo) : Option LaneWork := (s.lanes.get i).work

/-- The lane posts a line notice with its number and seizure number, and marks it QUEUED or WAITING (R13, R119, R120).
A posting discarded outside RUNNING leaves the lane without one. -/
def State.lanePostNotice (s : State) (i : LaneNo) (w : LaneWork) (body : NoticeBody) : State :=
  let n : LineNotice := { body := body, poster := .lane i (s.lanes.get i).seizure }
  let mark := match s.noticePosting with
    | .queued => LaneNotice.queued body
    | .full => .waiting body
    | .discarded => .absent
  (s.queueNotice n).setWork i (some { w with notice := mark })

/-- The lane posts a one-shot entry and marks it QUEUED or WAITING (R78, R121). -/
def State.lanePostShot (s : State) (i : LaneNo) (w : LaneWork) (e : OneShot) : State :=
  let mark := match s.shotPosting with
    | .queued => LaneShot.queued
    | .full => .waiting e
    | .discarded => .absent
  (s.queueShot e).setWork i (some { w with shot := mark })

/-- The entry that a lane posts for its tag: the record's coarse echo for the untrimmed kinds, the sequence bit and the
capture mark for PROBE (R77, R121). -/
def State.laneShot (s : State) (i : LaneNo) (tag : Tag) (kind : GrantKind) (seq : Bool) : OneShot :=
  let untrimmed := kind = .offerReply ∨ kind = .probe
  { owner := .lane i
    tag := tag
    kind := kind
    coarse := if untrimmed then (s.term tag).map Terminal.coarse else none
    seq := kind = .probe && seq
    capture := kind = .probe }

/-- The lane's queued one-shot is removed, a waiting one is dropped with the lane's other fields, a waiting line notice
likewise, and the lane becomes FREE, keeping its seizure number (R135). -/
def State.freeLane (s : State) (i : LaneNo) : State :=
  (s.setShots (s.planner.shots.filter fun e => e.owner != Owner.lane i)).setWork i none

/-! ## Supervisor -/

/-- The Supervisor's RETURN entry of the record leaves the one-shot queue (R80). -/
def State.unqueueReturn (s : State) (t : Tag) : State :=
  s.setShots (s.planner.shots.filter fun e => !(e.owner == Owner.supervisor && e.tag == t))

/-- The Supervisor withdraws the record's RETURN entry, queued or waiting, and no more (R80, R146, R147). -/
def State.withdrawReturn (s : State) (t : Tag) : State :=
  (s.unqueueReturn t).updSup t fun x => { x with waitReturn := false }

/-- The Supervisor empties the record's held result, withdraws its RETURN entry, queued or waiting, and drops a waiting
NUDGE (R80, R140, R149). -/
def State.supDrop (s : State) (t : Tag) : State := (s.unqueueReturn t).updSup t fun _ => .empty

/-! ## Profiles -/

/-- The profile that a record names (R48). -/
def State.profileOf (s : State) (h : Terminal) : Profile := s.roster.profiles.get h.profile

end Sys2Proof.Machine
end

