-- ==== Sys2Proof/Machine/Roster.lean ====
section
/-! DEFINITION. The Roster (chapter 2): hearings, the strangers, leaving service, and the parking and release of records. -/

namespace Sys2Proof.Machine

/-- The result of a hearing (R25). -/
inductive Admission where
  | admitted | refreshed | ignored | hushed | stranger
  deriving DecidableEq, Repr

/-- Every tag, in ascending order. -/
def allTags : List Tag := List.finRange 128

/-- Every lane, in lane order. -/
def allLanes : List LaneNo := List.finRange 8

/-! ## The lists -/

/-- The expected-list entry of a serial (R27). -/
def Roster.entryOf (r : Roster) (serial : Serial) : Option Expected := r.expected.find? fun e => e.serial = serial

/-- A tag is reserved when some expected-list entry holds it (R27). -/
def Roster.reserved (r : Roster) (t : Tag) : Bool := r.expected.any fun e => e.tag = t

/-- The record that holds a serial (R25 step 2): no two do. -/
def Roster.holderOf (r : Roster) (serial : Serial) : Option Tag :=
  allTags.find? fun t => (r.records.get t).term.any fun h => h.serial = serial

/-- The lowest tag from `low` to `high` whose record is FREE and which is not reserved (R27). -/
def Roster.freeTag (r : Roster) (low high : Nat) : Option Tag :=
  allTags.find? fun t =>
    low ≤ tagNum t && tagNum t ≤ high && (r.records.get t).term.isNone && !r.reserved t

/-! ## Hearings (R25 to R29) -/

/-- A HUSH for the hush length of the line settings (R25, R26, R29). -/
def State.hushLong (s : State) (serial : Serial) : State := s.rosterPost (.hush serial s.line.settings.hush)

/-- A serial refused as a stranger (R29). -/
def State.refuseStranger (s : State) (serial : Serial) (reason : StrangerReason) : State :=
  let s1 := s.hushLong serial
  if s.roster.strangers.any fun x => x.serial = serial then s1
  else if s.roster.strangers.length < 16 then
    s1.setStrangers (s.roster.strangers ++ [⟨serial, reason, s.cycleNo⟩])
  else s1.setOverflowed

/-- The record of `t` becomes HEARD for a serial and its tag joins the tail of the admission queue (R27). -/
def State.enroll (s : State) (t : Tag) (serial : Serial) (listed : Bool) (profile : ProfileNo) (coarse : Int) : State :=
  let h : Terminal :=
    { serial := serial, listed := listed, profile := profile, coarse := coarse, level := none, flags := .clear,
      heardCycle := s.cycleNo, phase := .heard }
  let s1 := s.changeTerm t (some h)
  (s1.setAdmissionQueue (s1.roster.admission ++ [t])).setStrangers
    (s1.roster.strangers.filter fun x => x.serial != serial)

/-- A new serial (R27). -/
def State.hearNew (s : State) (serial : Serial) (coarse : Int) : State × Admission :=
  let r := s.roster
  match r.entryOf serial with
  | some e => (s.enroll e.tag serial true e.profile coarse, .admitted)
  | none =>
    match r.mode with
    | .listed => (s.refuseStranger serial .unlisted, .stranger)
    | mode =>
      let found := if mode = .mixed then r.freeTag r.poolLow r.poolHigh else r.freeTag 1 128
      match found with
      | some t => (s.enroll t serial false r.openProfile coarse, .admitted)
      | none => (s.refuseStranger serial .rosterFull, .stranger)

/-- Re-admission of a PARKED record (R28). -/
def State.readmit (s : State) (t : Tag) (h : Terminal) (coarse : Int) : State :=
  let entry := s.roster.entryOf h.serial
  let h' : Terminal :=
    { h with
      coarse := coarse, heardCycle := s.cycleNo, level := none, flags := .clear, phase := .heard,
      listed := entry.isSome, profile := (entry.map Expected.profile).getD h.profile }
  let s1 := s.changeTerm t (some h')
  s1.setAdmissionQueue (s1.roster.admission ++ [t])

/-- A hearing of a serial that the record of `t` already holds (R26). -/
def State.hearHeld (s : State) (t : Tag) (h : Terminal) (coarse : Int) : State × Admission :=
  match h.phase with
  | .heard => (s.putTerm t (some { h with coarse := coarse }), .refreshed)
  | .engaged _ _ | .active _ | .silent _ _ _ => (s, .ignored)
  | .parked reason hold =>
    if reason = .host then (s.hushLong h.serial, .hushed)
    else if hold = 0 then (s.readmit t h coarse, .admitted)
    else (s.rosterPost (.hush h.serial hold), .hushed)

/-- A hearing is decided: barred, held, or new (R25). -/
def State.hear (s : State) (serial : Serial) (coarse : Int) : State × Admission :=
  if s.roster.barred.contains serial then (s.hushLong serial, .hushed)
  else
    match s.roster.holderOf serial with
    | some t =>
      match s.term t with
      | some h => s.hearHeld t h coarse
      | none => s.hearNew serial coarse
    | none => s.hearNew serial coarse

/-! ## Parking and release -/

/-- The record of `t`, holding `h`, becomes PARKED: the fields of the state it leaves become absent, the rest is kept
(R32, R34, R35, R37, R5). -/
def State.parkRecord (s : State) (t : Tag) (h : Terminal) (reason : Reason) (hold : Nat) : State :=
  s.changeTerm t (some { h with phase := .parked reason hold })

/-- What leaving its state takes from the other blocks when the host acts on a record: a HEARD record leaves the
admission queue (R30), the lane of an ENGAGED record ends HALTED (R136), the Supervisor drops what it holds for a
record in service (R149). -/
def State.detach (s : State) (t : Tag) (h : Terminal) : State :=
  match h.phase with
  | .heard => s.setAdmissionQueue (s.roster.admission.filter fun x => x != t)
  | .engaged lane _ => s.freeLane lane
  | .active _ | .silent _ _ _ => s.supDrop t
  | .parked _ _ => s

/-- The record of `t`, holding `h`, becomes FREE (R39). -/
def State.freeRecord (s : State) (t : Tag) (h : Terminal) : State := (s.detach t h).changeTerm t none

end Sys2Proof.Machine
end

