-- ==== Sys2Proof/Machine/CensusUnit.lean ====
section
/-! DEFINITION. The Census Unit (chapter 6): nodes, candidates, window closes, splits, ties and pass ends. -/

namespace Sys2Proof.Machine

/-- The root node of a pass (R100, R102). -/
def Census.root (c : Census) : Node := { pattern := c.rootPattern, mask := c.rootMask, last := 32 }

/-- A pass count goes up by one, to at most 65,535 (R114). -/
def passInc (n : Nat) : Nat := satInc 65535 n

/-- The counters after a hearing with this result (R107 steps 2 and 4). -/
def PassCounters.countHearing (c : PassCounters) (a : Admission) : PassCounters :=
  let c := { c with heard := passInc c.heard }
  match a with
  | .admitted => { c with admitted := passInc c.admitted }
  | .refreshed => { c with refreshed := passInc c.refreshed }
  | .ignored => { c with ignored := passInc c.ignored }
  | .hushed => { c with hushed := passInc c.hushed }
  | .stranger => { c with strangers := passInc c.strangers }

/-- A hearing candidate from the census window at frame position `p` (R107). -/
def State.candidate (s : State) (serial : Serial) (p gapStart : Nat) : State :=
  let (s1, a) := s.hear serial (coarseEcho s.line.settings p gapStart)
  s1.setCensus { s1.census with counters := s1.census.counters.countHearing a }

/-- The split bit: the first set bit of the effective split set from the bit below `last` downward (R109). -/
def splitBit (effective : Serial) : Nat → Option Nat
  | 0 => none
  | b + 1 => if effective.getLsbD b then some b else splitBit effective b

/-- The one-child of a node split on bit `b` (R100). -/
def Node.oneChild (n : Node) (b : Nat) : Node :=
  { pattern := n.pattern ||| BitVec.twoPow 32 b, mask := n.mask ||| BitVec.twoPow 32 b, last := b }

/-- The zero-child of a node split on bit `b` (R100): the bit of the pattern is clear. -/
def Node.zeroChild (n : Node) (b : Nat) : Node :=
  { pattern := n.pattern &&& ~~~(BitVec.twoPow 32 b), mask := n.mask ||| BitVec.twoPow 32 b, last := b }

/-- A pass ends: its record is written, a COMPLETE pass is counted, CENSUS is pending (R112). -/
def State.endPass (s : State) (kind : PassEnd) (cycle : CycleNo) : State :=
  let c := s.census
  { s with
    census.lastPass := some { kind := kind, cycle := cycle, counters := c.counters, tie := c.tie }
    census.passes := if kind = PassEnd.complete then satInc 255 c.passes else c.passes }.raiseCensus

/-- After a window close in SEARCHING the pass ends COMPLETE if the stack is empty; in SINGLE mode the census stops, in
SWEEP mode the root is pushed again with fresh counters (R112, R113). -/
def State.testPassEnd (s : State) : State :=
  if s.census.stack = [] then
    let s1 := s.endPass .complete s.cycleNo
    match s1.census.mode with
    | .single => s1.setCensus { s1.census with state := .stopped }
    | .sweep => s1.setCensus { s1.census with counters := .zero, tie := none, stack := [s1.census.root] }
  else s

/-- A garbled window is counted (R114). -/
def State.countGarbled (s : State) (garble : Bool) : State :=
  if garble then s.setCensus { s.census with counters.garbled := passInc s.census.counters.garbled } else s

/-- The node's question is settled: it is no longer outstanding, and the wait is loaded (R105, R108). -/
def State.finishNode (s : State) : State :=
  s.setCensus { s.census with outstanding := none, wait := s.census.interval }

/-- A garbled node: replaced on the stack by its two children, the zero-child on top (R109), or recorded as a tie where
no split bit is left (R110). -/
def State.splitNode (s : State) (o : Outstanding) : State :=
  match splitBit s.census.effective o.node.last with
  | some b => s.setCensus { s.census with stack := o.node.zeroChild b :: o.node.oneChild b :: s.census.stack }
  | none =>
    s.setCensus { s.census with
      counters.ties := passInc s.census.counters.ties
      tie := some { pattern := o.node.pattern, mask := o.node.mask, cycle := o.cycle } }

/-- The outstanding census window closes (R108 to R111). -/
def State.censusClose (s : State) (garble : Bool) : State :=
  match s.census.outstanding with
  | none => s
  | some o =>
    let s1 := s.countGarbled garble
    match s1.census.state with
    | .searching => ((if garble then s1.splitNode o else s1).finishNode).testPassEnd
    | .stopping =>
      let s2 := s1.finishNode
      (s2.setCensus { s2.census with state := .stopped }).endPass .stopped s1.cycleNo
    | .stopped => s1.finishNode

/-- The census stops and its stack is emptied, with the wait at 0 and no node outstanding (R104, R116). -/
def State.haltCensus (s : State) (kind : PassEnd) (cycle : CycleNo) : State :=
  (s.setCensus { s.census with stack := [], outstanding := none, wait := 0, state := .stopped }).endPass kind cycle

/-- The line-down event in the Census Unit (R116). -/
def State.censusLineDown (s : State) : State :=
  match s.census.state with
  | .stopped => s
  | _ => s.haltCensus .lineDown s.cycleNo

/-- A census gap is due at a plan close in RUNNING (R106). -/
def Census.gapDue (c : Census) : Bool :=
  c.state = .searching && !c.stack.isEmpty && c.outstanding.isNone && c.wait = 0

end Sys2Proof.Machine
end

