-- ==== Sys2Proof/Machine/Lanes.lean ====
section
/-! DEFINITION. The Activation Lanes (chapter 7): seizure, the three stages, settling, and the end of a lane. -/

namespace Sys2Proof.Machine

/-! ## The end of a lane (R135) -/

/-- The record of a lane's tag, if it is ENGAGED to that lane; a result for any other record is discarded (R36). -/
def State.engagedTo (s : State) (i : LaneNo) (t : Tag) : Option (Terminal × Option EchoHold) :=
  match s.term t with
  | some h =>
    match h.phase with
    | .engaged j trim => if j = i then some (h, trim) else none
    | _ => none
  | none => none

/-- A lane ends with a failure outcome: the record is PARKED with it and with the profile's park hold, and a STAND DOWN
with it is posted, but for POWER_LOSS (R32, R135). -/
def State.laneFail (s : State) (i : LaneNo) (w : LaneWork) (reason : Reason) : State :=
  let s1 := s.freeLane i
  match s1.engagedTo i w.tag with
  | none => s1
  | some (h, _) =>
    let s2 := s1.parkRecord w.tag h reason (s1.profileOf h).parkHold
    if reason = .powerLoss then s2 else s2.standDown w.tag reason

/-- The supervision fields at their starting values (R31). -/
def Service.start (eh : EchoHold) (since : CycleNo) : Service :=
  { echo := eh.echo, holdoff := eh.holdoff, miss := 0, drift := 0, bursts := 0, levelOut := 0, levelIn := 0,
    corrupt := 0, nudgeOut := false, returnOut := false, nudgeCycle := none, activeSince := since }

/-- A lane completes: the record becomes ACTIVE with its E and H (R31, R135). Where a TRIM stage had stored no E and H,
which no run reaches, they count as 0 (log 24). -/
def State.laneComplete (s : State) (i : LaneNo) (w : LaneWork) : State :=
  let s1 := s.freeLane i
  match s1.engagedTo i w.tag with
  | none => s1
  | some (h, trim) =>
    s1.changeTerm w.tag (some { h with phase := .active (.start (trim.getD ⟨0, 0⟩) s1.cycleNo) })

/-! ## Seizure (R30, R120) -/

/-- A FREE lane takes the head of the admission queue, and posts its TAG OFFER (R120). A tag whose record is FREE, which
the queue never holds (R30), leaves the queue and no more. -/
def State.seize (s : State) (i : LaneNo) : State :=
  match s.work i, s.roster.admission with
  | none, t :: rest =>
    let s1 := s.setAdmissionQueue rest
    match s1.term t with
    | none => s1
    | some h =>
      let s2 := s1.changeTerm t (some { h with phase := .engaged i none })
      (s2.bumpSeizure i).lanePostNotice i
        { tag := t, stage := .offer 3, lastFailure := none, notice := .absent, shot := .absent, held := .empty }
        (.tagOffer h.serial t)
  | _, _ => s

/-- Every FREE lane seizes, in lane order (R30, R66 step 1). -/
def State.seizeAll (s : State) : State := allLanes.foldl State.seize s

/-! ## Departures (R119, R124, R132) -/

/-- Some carried line notice is this lane's own: its number, its current seizure number, its kind and value (R119). -/
def laneDeparts (carried : List LineNotice) (i : LaneNo) (seizure : BitVec 8) (body : NoticeBody) : Bool :=
  carried.any fun n => n.poster == Poster.lane i seizure && n.body == body

/-- The departure of a lane's line notice: after a TAG OFFER the lane posts an OFFER REPLY (R124), after a HOLDOFF a
TRIM CHECK (R132). -/
def State.laneDeparture (s : State) (carried : List LineNotice) (i : LaneNo) : State :=
  match s.work i with
  | none => s
  | some w =>
    match w.notice with
    | .queued body =>
      if laneDeparts carried i (s.lanes.get i).seizure body then
        let w1 := { w with notice := .absent }
        match body with
        | .tagOffer _ _ => s.lanePostShot i w1 (s.laneShot i w.tag .offerReply false)
        | .holdoff _ _ => s.lanePostShot i w1 (s.laneShot i w.tag .trimCheck false)
        | _ => s.setWork i (some w1)
      else s
    | _ => s

/-- A lane whose line notice waits posts it again (R13, R120). -/
def State.laneRepostNotice (s : State) (i : LaneNo) : State :=
  match s.work i with
  | none => s
  | some w =>
    match w.notice with
    | .waiting body => s.lanePostNotice i w body
    | _ => s

/-- A lane whose one-shot waits posts it again with the same fields (R79, R121). -/
def State.laneRepostShot (s : State) (i : LaneNo) : State :=
  match s.work i with
  | none => s
  | some w =>
    match w.shot with
    | .waiting e => s.lanePostShot i w e
    | _ => s

/-- The lane is told that its entry is placed in the plan of `cycle` (R74, R119, R121). -/
def State.lanePlaced (s : State) (i : LaneNo) (cycle : CycleNo) (kind : GrantKind) : State :=
  match s.work i with
  | none => s
  | some w =>
    match w.shot with
    | .queued => s.setWork i (some { w with shot := .placed cycle kind, held := .empty })
    | _ => s

/-! ## The PROBE stage (R126 to R131) -/

/-- The lane posts a PROBE with the sequence bit as it stands (R126, R121). -/
def State.postProbe (s : State) (i : LaneNo) (w : LaneWork) (p : ProbeWork) : State :=
  s.lanePostShot i { w with stage := .probe p } (s.laneShot i w.tag .probe p.seq)

/-- Entry to PROBE (R126). -/
def State.enterProbe (s : State) (i : LaneNo) (w : LaneWork) : State :=
  let n := match s.term w.tag with
    | some h => (s.profileOf h).probes
    | none => 0
  s.postProbe i { w with lastFailure := none }
    { count := n, remaining := n, extensions := 0, misses := 0, seq := false, mismatches := 0, echoes := [], levels := [] }

/-- The outcome of the lane's computation, step by step (R131): a failing reason, or the mean echo. The level mean is
given apart, because it is stored before it is checked. -/
def computeOutcome (ls : LineSettings) (prof : Profile) (p : ProbeWork) : Except Reason Int :=
  let echo := meanOf p.echoes
  let level := meanOf p.levels
  if (prof.spread : Int) < spreadOf p.echoes then .error .unstable
  else if echo < ls.eMin ∨ (ls.ref : Int) < echo then .error .outOfReach
  else if p.levels = [] then .error .levelUnknown
  else if level < prof.low then .error .levelLow
  else if prof.high < level then .error .levelHigh
  else .ok echo

/-- Step 4 stores the level mean, if the computation reaches it (R131). -/
def levelStored (outcome : Except Reason Int) (p : ProbeWork) (old : Option Int) : Option Int :=
  match outcome with
  | .error .unstable | .error .outOfReach | .error .levelUnknown => old
  | _ => some (meanOf p.levels)

/-- The lane computes: it ends with the first failed check, or stores E and H, enters TRIM and posts a HOLDOFF (R131, R57). -/
def State.laneCompute (s : State) (i : LaneNo) (w : LaneWork) (p : ProbeWork) : State :=
  match s.engagedTo i w.tag with
  | none => s.freeLane i
  | some (h, _) =>
    let outcome := computeOutcome s.line.settings (s.profileOf h) p
    let level := levelStored outcome p h.level
    match outcome with
    | .error reason => (s.putTerm w.tag (some { h with level := level })).laneFail i w reason
    | .ok echo =>
      let hold := (s.line.settings.ref : Int) - echo
      let s1 := s.putTerm w.tag (some { h with level := level, phase := .engaged i (some ⟨echo, hold⟩) })
      s1.lanePostNotice i { w with stage := .trim 2 none, lastFailure := none } (.holdoff w.tag hold)

/-- After a probe grant has settled without ending the lane (R130). -/
def State.probeGoOn (s : State) (i : LaneNo) (w : LaneWork) (p : ProbeWork) : State :=
  if 0 < p.remaining then s.postProbe i w p
  else if p.levels = [] ∧ p.extensions < 2 then
    s.postProbe i w { p with remaining := 1, extensions := p.extensions + 1 }
  else s.laneCompute i w p

/-- The test of consecutive misses, with the failure counted (R129). -/
def State.probeFailure (s : State) (i : LaneNo) (w : LaneWork) (p : ProbeWork) (kind : FailKind) : State :=
  let p1 := { p with misses := p.misses + 1 }
  let w1 := { w with stage := .probe p1, lastFailure := some kind }
  if 3 ≤ p1.misses then s.laneFail i w1 (match kind with | .miss => .noReply | .corrupt => .corrupt)
  else s.probeGoOn i w1 p1

/-- A valid echo (R127). -/
def ProbeWork.valid (ls : LineSettings) (p : ProbeWork) (r : BurstResult) (answer : Option CaptureAnswer) : ProbeWork :=
  { p with
    echoes := p.echoes ++ [echoOf ls r.position r.grant.start]
    levels := match answer with
      | some (.level v) => p.levels ++ [v]
      | _ => p.levels
    seq := !p.seq
    remaining := p.remaining - 1
    misses := 0 }

/-- A probe grant settles (R127, R128, R129). An OVERLONG burst has ended the lane before (R122); a CLEAN close without
its burst result, which no run reaches, counts as CORRUPT (log 24). -/
def State.settleProbe (s : State) (i : LaneNo) (w : LaneWork) (p : ProbeWork) (held : HeldGrant) (outcome : CloseOutcome) : State :=
  match outcome with
  | .quality .clean =>
    match held.result with
    | some r =>
      if r.seq = p.seq then
        let p1 := p.valid s.line.settings r held.answer
        s.probeGoOn i { w with stage := .probe p1 } p1
      else
        let p1 := { p with mismatches := p.mismatches + 1 }
        if 2 ≤ p1.mismatches then s.laneFail i w .sequence else s.probeFailure i w p1 .miss
    | none => s.probeFailure i w p .corrupt
  | .quality .corrupt => s.probeFailure i w p .corrupt
  | .quality .overlong => s.laneFail i w .overlong
  | .miss _ => s.probeFailure i w p .miss

/-! ## The OFFER and TRIM stages (R125, R133) -/

/-- The reason a lane ends with when its attempts are used up (R125, R133). -/
def failReason : FailKind → Reason
  | .miss => .noReply
  | .corrupt => .corrupt

/-- A failure of the OFFER stage: another TAG OFFER, or the end of the lane (R125). -/
def State.offerFailure (s : State) (i : LaneNo) (w : LaneWork) (attempts : Nat) (kind : FailKind) : State :=
  let left := attempts - 1
  let w1 := { w with stage := .offer left, lastFailure := some kind }
  if left = 0 then s.laneFail i w1 (failReason kind)
  else
    match s.term w.tag with
    | some h => s.lanePostNotice i w1 (.tagOffer h.serial w.tag)
    | none => s.setWork i (some w1)

/-- The OFFER REPLY grant settles (R125). -/
def State.settleOffer (s : State) (i : LaneNo) (w : LaneWork) (attempts : Nat) (held : HeldGrant) (outcome : CloseOutcome) : State :=
  match outcome with
  | .quality .clean =>
    let echoed := held.result.bind BurstResult.serialEcho
    if echoed.isSome ∧ echoed = (s.term w.tag).map Terminal.serial then s.enterProbe i w
    else s.offerFailure i w attempts .corrupt
  | .quality _ => s.offerFailure i w attempts .corrupt
  | .miss _ => s.offerFailure i w attempts .miss

/-- A failure of the TRIM stage: the HOLDOFF again with the stored value, or the end of the lane (R133). -/
def State.trimFailure (s : State) (i : LaneNo) (w : LaneWork) (attempts : Nat) (last : Option SettledTrim) (kind : FailKind) : State :=
  let left := attempts - 1
  let w1 := { w with stage := .trim left last, lastFailure := some kind }
  if left = 0 then s.laneFail i w1 (failReason kind)
  else
    match s.engagedTo i w.tag with
    | some (_, some eh) => s.lanePostNotice i w1 (.holdoff w.tag eh.holdoff)
    | _ => s.setWork i (some w1)

/-- The trim test of R59 on the held burst: the deviation, unclamped, is within W_t. -/
def trimPasses (ls : LineSettings) (held : HeldGrant) : Bool :=
  match held.result with
  | some r => (deviationOf r.position r.grant.point).natAbs ≤ ls.wt
  | none => false

/-- The TRIM CHECK grant of the plan of `cycle` settles (R133, R134). -/
def State.settleTrim (s : State) (i : LaneNo) (w : LaneWork) (attempts : Nat) (cycle : CycleNo) (held : HeldGrant)
    (outcome : CloseOutcome) : State :=
  let last := some { cycle := cycle, outcome := outcome : SettledTrim }
  let w1 := { w with stage := .trim attempts last }
  match outcome with
  | .quality .clean =>
    if trimPasses s.line.settings held then s.laneComplete i w1 else s.trimFailure i w1 attempts last .corrupt
  | .quality _ => s.trimFailure i w1 attempts last .corrupt
  | .miss true => s.laneFail i w1 .trimMismatch
  | .miss false => s.trimFailure i w1 attempts last .miss

/-! ## Settling (R123) -/

/-- The held result records that a capture was requested (R119, R123). -/
def HeldGrant.captureAsked (h : HeldGrant) : Bool := h.result.any BurstResult.captureAsked

/-- What the lane holds is stored, and the PLACED grant settles once its close has been taken and, where a capture was
requested, the converter's answer too (R123). The held result is cleared and the one-shot marked none first. -/
def State.settleIfDue (s : State) (i : LaneNo) (w : LaneWork) (cycle : CycleNo) (held : HeldGrant) : State :=
  match held.close with
  | some outcome =>
    if held.captureAsked && held.answer.isNone then s.setWork i (some { w with held := held })
    else
      let w1 := { w with shot := .absent, held := .empty }
      match w.stage with
      | .offer a => s.settleOffer i w1 a held outcome
      | .probe p => s.settleProbe i w1 p held outcome
      | .trim a _ => s.settleTrim i w1 a cycle held outcome
  | none => s.setWork i (some { w with held := held })

/-- The lane's work, if it has a PLACED grant of this tag, plan cycle and kind (R119). -/
def State.placedWork (s : State) (i : LaneNo) (t : Tag) (cycle : CycleNo) (kind : GrantKind) : Option LaneWork :=
  match s.work i with
  | some w => if w.tag = t ∧ w.shot = .placed cycle kind then some w else none
  | none => none

/-- A burst result reaches the lane (R119, R122). -/
def State.laneBurst (s : State) (i : LaneNo) (t : Tag) (r : BurstResult) : State :=
  match s.placedWork i t r.cycle r.grant.kind with
  | none => s
  | some w =>
    if r.flagsValid && r.powerFailing then s.laneFail i w .powerLoss
    else
      match w.stage, r.quality with
      | .probe _, .overlong => s.laneFail i w .overlong
      | _, _ => s.settleIfDue i w r.cycle { w.held with result := some r }

/-- A window close reaches the lane (R119, R123). -/
def State.laneClose (s : State) (i : LaneNo) (t : Tag) (cycle : CycleNo) (kind : GrantKind) (outcome : CloseOutcome) : State :=
  match s.placedWork i t cycle kind with
  | none => s
  | some w => s.settleIfDue i w cycle { w.held with close := some outcome }

/-- A capture answer reaches the lane (R119, R123); captures are asked for PROBE grants alone (R76). -/
def State.laneCapture (s : State) (i : LaneNo) (t : Tag) (cycle : CycleNo) (answer : CaptureAnswer) : State :=
  match s.placedWork i t cycle .probe with
  | none => s
  | some w => if w.held.captureAsked then s.settleIfDue i w cycle { w.held with answer := some answer } else s

/-- A late sighting reaches the lane (R119, R134). -/
def State.laneSighting (s : State) (i : LaneNo) (t : Tag) (cycle : CycleNo) : State :=
  match s.work i with
  | some w =>
    match w.stage with
    | .trim _ (some last) =>
      match last.outcome with
      | .miss _ => if w.tag = t ∧ last.cycle = cycle then s.laneFail i w .trimMismatch else s
      | _ => s
    | _ => s
  | none => s

end Sys2Proof.Machine
end

