-- ==== Sys2Proof/Machine/Supervisor.lean ====
section
/-! DEFINITION. The Supervisor (chapter 8) with the drift steps of chapter 3: standing windows, SILENT records, power failing, the level sweep, nudges and the grace. -/

namespace Sys2Proof.Machine

/-! ## Leaving service -/

/-- A record in service whose terminal's power fails is parked with POWER_LOSS and the profile's park hold; the Supervisor
drops what it holds (R34, R140). -/
def State.parkPowerLoss (s : State) (t : Tag) (h : Terminal) : State :=
  (s.supDrop t).parkRecord t h .powerLoss (s.profileOf h).parkHold

/-- A SILENT record whose grace ends is parked with LOST and the profile's park hold, and STAND DOWN LOST is posted; its
RETURN entry is withdrawn (R34, R147). A NUDGE of it that waits goes on waiting (R63; DEDUCED, log 31). -/
def State.parkLost (s : State) (t : Tag) (h : Terminal) : State :=
  ((s.withdrawReturn t).parkRecord t h .lost (s.profileOf h).parkHold).standDown t .lost

/-! ## Drift (R60 to R62) -/

/-- What a drift step leaves: the service fields, the flags, and the delta of a NUDGE to post. -/
structure DriftStep where
  svc : Service
  flags : RecFlags
  nudge : Option Int
  deriving DecidableEq, Repr

/-- A burst of the grant's cycle adds to drift: no NUDGE is outstanding, and the grant is not of the cycle just before the
nudge departure cycle, modulo 65,536 (R60). -/
def addsToDrift (svc : Service) (cycle : CycleNo) : Bool :=
  !svc.nudgeOut && svc.nudgeCycle != some (cycle + 1)

/-- The correction of the hold-off at a block close that passes its test (R62). -/
def driftCorrection (ls : LineSettings) (svc : Service) (flags : RecFlags) : DriftStep :=
  let wanted := svc.holdoff - driftMean svc.drift
  let new := clampInt 0 ((ls.ref : Int) - ls.eMin) wanted
  let applied := new - svc.holdoff
  { svc := { svc with holdoff := new, nudgeOut := if applied = 0 then svc.nudgeOut else true }
    flags := { flags with trimLimit := if new = wanted then flags.trimLimit else true }
    nudge := if applied = 0 then none else some applied }

/-- The block closes: the count and D return to 0, with a correction where |D| is at least 8 times the threshold (R61). -/
def driftBlockClose (ls : LineSettings) (threshold : Nat) (svc : Service) (flags : RecFlags) : DriftStep :=
  let step :=
    if (8 * threshold : Nat) ≤ svc.drift.natAbs then driftCorrection ls svc flags
    else { svc := svc, flags := flags, nudge := none }
  { step with svc := { step.svc with drift := 0, bursts := 0 } }

/-- The drift step of a clean standing burst with deviation `d` (R60, R143). -/
def driftStep (ls : LineSettings) (threshold : Nat) (cycle : CycleNo) (d : Int) (svc : Service) (flags : RecFlags) : DriftStep :=
  if addsToDrift svc cycle then
    let drift := driftAdd ls svc.drift d
    let svc1 := { svc with drift := drift, bursts := svc.bursts + 1 }
    let flags1 := { flags with driftSat := if drift = -4096 ∨ drift = 4095 then true else flags.driftSat }
    if 8 ≤ svc1.bursts then driftBlockClose ls threshold svc1 flags1 else { svc := svc1, flags := flags1, nudge := none }
  else { svc := svc, flags := flags, nudge := none }

/-! ## Nudges (R17, R63, R143) -/

/-- The Supervisor posts a NUDGE; where the queue is full it keeps it waiting (R143). That it takes the place of a NUDGE that
waits from an earlier time in service is DESIGN CHOICE, log 36. -/
def State.postNudge (s : State) (t : Tag) (delta : Int) : State :=
  let n : LineNotice := { body := .nudge t delta, poster := .supervisor }
  match s.noticePosting with
  | .full => s.updSup t fun x => { x with waitNudge := some delta }
  | _ => s.queueNotice n

/-- A waiting NUDGE is posted again with the same delta (R63, R143). -/
def State.repostNudge (s : State) (t : Tag) : State :=
  match (s.sup.get t).waitNudge with
  | none => s
  | some delta => (s.updSup t fun x => { x with waitNudge := none }).postNudge t delta

/-- The service fields after a NUDGE has departed in the head of `cycle` (R63). -/
def Service.nudged (v : Service) (cycle : CycleNo) : Service :=
  if v.nudgeOut then { v with nudgeOut := false, nudgeCycle := some cycle } else v

/-- A NUDGE for the tag departs in the head of `cycle` (R63). -/
def State.nudgeDeparture (s : State) (cycle : CycleNo) (t : Tag) : State :=
  match s.term t with
  | some h =>
    match h.phase with
    | .active v => s.putTerm t (some { h with phase := .active (v.nudged cycle) })
    | .silent v since grace => s.putTerm t (some { h with phase := .silent (v.nudged cycle) since grace })
    | _ => s
  | none => s

/-! ## Standing windows (R141 to R143) -/

/-- A standing window with a failed or missing burst: the miss count goes up, and at the profile's limit the record
becomes SILENT with the profile's grace (R141, R142, R33). -/
def State.standingMiss (s : State) (t : Tag) (h : Terminal) (svc : Service) : State :=
  let prof := s.profileOf h
  let svc1 := { svc with miss := svc.miss + 1 }
  let phase : Phase :=
    if prof.missLimit ≤ svc1.miss then .silent { svc1 with returnOut := false } s.cycleNo prof.grace else .active svc1
  s.changeTerm t (some { h with phase := phase })

/-- A standing window with a clean burst: the miss count is cleared, RX_LOW mirrored, and the drift step made (R141, R143). -/
def State.standingClean (s : State) (t : Tag) (h : Terminal) (svc : Service) (r : BurstResult) : State :=
  let step := driftStep s.line.settings (s.profileOf h).threshold r.cycle (deviationOf r.position r.grant.point)
    { svc with miss := 0 } { h.flags with rxLow := r.rxLow }
  let s1 := s.changeTerm t (some { h with flags := step.flags, phase := .active step.svc })
  match step.nudge with
  | some delta => s1.postNudge t delta
  | none => s1

/-- The close of a STANDING window reaches the Supervisor (R139, R141). The held result is emptied in every case. A
CLEAN close without its held result, which no run reaches, clears the miss count alone (log 24). -/
def State.standingClose (s : State) (t : Tag) (outcome : CloseOutcome) : State :=
  let held := (s.sup.get t).held
  let s1 := s.updSup t fun x => { x with held := none }
  match s1.term t with
  | some h =>
    match h.phase with
    | .active svc =>
      match outcome, held with
      | .quality .clean, some r => s1.standingClean t h svc r
      | .quality .clean, none => s1.changeTerm t (some { h with phase := .active { svc with miss := 0 } })
      | .quality .corrupt, _ => s1.standingMiss t h { svc with corrupt := satInc 255 svc.corrupt }
      | _, _ => s1.standingMiss t h svc
    | _ => s1
  | none => s1

/-! ## Burst results (R139, R140, R146) -/

/-- A clean RETURN brings a SILENT record back to ACTIVE; its RETURN entry is withdrawn (R146, R33), and outstanding
return with it (log 12). -/
def State.returnClean (s : State) (t : Tag) (h : Terminal) (svc : Service) : State :=
  (s.withdrawReturn t).changeTerm t (some { h with phase := .active { svc with miss := 0, drift := 0, bursts := 0, returnOut := false } })

/-- A burst result for a STANDING or RETURN grant of the tag reaches the Supervisor (R139, R140, R146). -/
def State.supBurst (s : State) (t : Tag) (r : BurstResult) : State :=
  match s.term t with
  | some h =>
    match h.phase with
    | .active _ =>
      if r.flagsValid && r.powerFailing then s.parkPowerLoss t h
      else if r.grant.kind = .standing then s.updSup t fun x => { x with held := some r }
      else s
    | .silent svc since grace =>
      if r.flagsValid && r.powerFailing then s.parkPowerLoss t h
      else if r.grant.kind = .ret then
        match r.quality with
        | .clean => s.returnClean t h svc
        | .corrupt =>
          s.changeTerm t (some { h with phase := .silent { svc with corrupt := satInc 255 svc.corrupt } since grace })
        | .overlong => s
      else s
    | _ => s
  | none => s

/-- The Planner places the tag's RETURN entry: outstanding return becomes no (R139, R145). -/
def State.returnPlaced (s : State) (t : Tag) : State :=
  match s.term t with
  | some h =>
    match h.phase with
    | .silent svc since grace =>
      if svc.returnOut then s.putTerm t (some { h with phase := .silent { svc with returnOut := false } since grace }) else s
    | _ => s
  | none => s

/-! ## The level sweep (R144) -/

/-- The runs and the alarm after a sample that is in the window or out of it (R144). -/
def levelRuns (inside : Bool) (svc : Service) (flags : RecFlags) : Service × RecFlags :=
  if inside then
    let run := satInc 3 svc.levelIn
    ({ svc with levelIn := run, levelOut := 0 }, { flags with levelAlarm := if run = 3 then false else flags.levelAlarm })
  else
    let run := satInc 3 svc.levelOut
    ({ svc with levelOut := run, levelIn := 0 }, { flags with levelAlarm := if run = 3 then true else flags.levelAlarm })

/-- A capture answer for a swept STANDING grant reaches the Supervisor (R139, R144). -/
def State.supCapture (s : State) (t : Tag) (answer : CaptureAnswer) : State :=
  match s.term t, answer with
  | some h, .level v =>
    match h.phase with
    | .active svc =>
      let prof := s.profileOf h
      let (svc1, flags) := levelRuns (prof.low ≤ v && v ≤ prof.high) svc h.flags
      s.changeTerm t (some { h with level := some v, flags := flags, phase := .active svc1 })
    | _ => s
  | _, _ => s

/-! ## SILENT records (R145, R147) -/

/-- The entry of a RETURN (R77, R145). -/
def returnShot (t : Tag) : OneShot :=
  { owner := .supervisor, tag := t, kind := .ret, coarse := none, seq := false, capture := false }

/-- The Supervisor posts a RETURN entry; where the queue is full it keeps it waiting (R78, R145). -/
def State.postReturn (s : State) (t : Tag) : State :=
  match s.shotPosting with
  | .full => s.updSup t fun x => { x with waitReturn := true }
  | _ => s.queueShot (returnShot t)

/-- A waiting RETURN entry is posted again (R79). -/
def State.repostReturn (s : State) (t : Tag) : State :=
  if (s.sup.get t).waitReturn then
    (s.updSup t fun x => { x with waitReturn := false }).postReturn t
  else s

/-- The grace countdown of a SILENT record at a cycle start; at 0 the record is parked LOST (R147). -/
def State.graceTick (s : State) (t : Tag) : State :=
  match s.term t with
  | some h =>
    match h.phase with
    | .silent svc since grace =>
      let left := grace - 1
      if left = 0 then s.parkLost t h
      else s.putTerm t (some { h with phase := .silent svc since left })
    | _ => s
  | none => s

/-- The cycle is a due point: its distance from the silent-since cycle, modulo 65,536, is a positive multiple of the
return interval (R145). -/
def duePoint (cycle since : CycleNo) (interval : Nat) : Bool :=
  let d := (cycle - since).toNat
  0 < d && d % interval = 0

/-- The due point of a SILENT record at a cycle start (R145). -/
def State.returnDue (s : State) (t : Tag) : State :=
  match s.term t with
  | some h =>
    match h.phase with
    | .silent svc since grace =>
      if duePoint s.cycleNo since (s.profileOf h).interval && !svc.returnOut then
        (s.putTerm t (some { h with phase := .silent { svc with returnOut := true } since grace })).postReturn t
      else s
    | _ => s
  | none => s

end Sys2Proof.Machine
end

