-- ==== Sys2Proof/Machine/ConverterUnit.lean ====
section
/-! DEFINITION. The Level Converter (chapter 9): capture requests, conversions, and the calibration's attempts and end. -/

namespace Sys2Proof.Machine

/-! ## Captures (R153 to R156) -/

/-- The converter's answer goes to the owner of the grant (R155, R156). -/
def State.answerCapture (s : State) (owner : Owner) (t : Tag) (cycle : CycleNo) (answer : CaptureAnswer) : State :=
  match owner with
  | .lane i => s.laneCapture i t cycle answer
  | .supervisor => s.supCapture t answer
  | .census => s

/-- A capture request is refused, as busy or as late (R154, R155). -/
def State.refuseCapture (s : State) (owner : Owner) (t : Tag) (cycle : CycleNo) : State :=
  s.countRefused.answerCapture owner t cycle .refusal

/-- A capture request for a burst whose first bit came at `begun` reaches the converter now (R154, R155). -/
def State.requestCapture (s : State) (owner : Owner) (t : Tag) (cycle : CycleNo) (begun : Tick) : State :=
  let window := sampleWindow s.conv.windowCode
  match s.conv.state with
  | .idle =>
    if tickDiff s.line.tick begun < window then
      s.setConvState (.sampling
          { owner := owner, tag := t, cycle := cycle, begun := begun, window := window,
            step := stepTime s.conv.stepCode, offset := s.conv.offset, discard := false })
    else s.refuseCapture owner t cycle
  | _ => s.refuseCapture owner t cycle

/-- The tick at which a sample window ends (R156). -/
def windowEnds (begun : Tick) (window : Nat) : Tick := begun + BitVec.ofNat 32 window

/-- The tick at which a conversion ends (R156). -/
def conversionEnds (begun : Tick) (window step : Nat) : Tick := begun + BitVec.ofNat 32 (window + 16 * step)

/-! ## Calibration (R162 to R165) -/

/-- The slot of the attempt in progress, if one is PLACED or SAMPLED (R163). -/
def CalibPhase.slot : CalibPhase → Option CalibSlot
  | .waiting => none
  | .placed slot => some slot
  | .sampled slot _ => some slot

/-- A calibration ends: its result is written, the record removed, the dark-slot request NONE, CALIBRATION pending (R165). -/
def State.endCalibration (s : State) (result : CalibResult) : State :=
  { s with
    conv.lastCalib := some result
    conv.calib := none
    planner.slotWanted := false }.raiseCalibration

/-- A calibration ends FAILED with its last cause; the offset stays (R165, R166). -/
def State.failCalibration (s : State) (c : Calibration) (cause : CalibCause) : State :=
  s.endCalibration
    { done := false, target := c.target, attempts := c.attempts, code := none, cause := some cause, offset := s.conv.offset }

/-- An attempt fails: below five attempts the next slot is wanted, at five the calibration ends FAILED (R164). -/
def State.failAttempt (s : State) (c : Calibration) (cause : CalibCause) : State :=
  if c.attempts < 5 then
    (s.setCalib (some { c with phase := .waiting, cause := some cause })).setSlotWanted true
  else s.failCalibration c cause

/-- An attempt succeeds with its dark code: the offset is computed and the calibration ends DONE (R164). -/
def State.succeedAttempt (s : State) (c : Calibration) (code : BitVec 12) : State :=
  let offset := offsetOf ((c.target : Int) - code.toNat)
  (s.setOffset offset).endCalibration
    { done := true, target := c.target, attempts := c.attempts, code := some code, cause := none, offset := offset }

/-- An intrusion naming the plan of `cycle` (R163). -/
def State.intrude (s : State) (cycle : CycleNo) : State :=
  match s.conv.calib with
  | none => s
  | some c =>
    match c.phase.slot with
    | some slot => if slot.cycle = cycle then s.failAttempt c .light else s
    | none => s

/-- The end of the frame of `cycle` (R163): an attempt of that plan that holds its dark code succeeds. -/
def State.calibFrameEnd (s : State) (cycle : CycleNo) : State :=
  match s.conv.calib with
  | none => s
  | some c =>
    match c.phase with
    | .sampled slot (some code) => if slot.cycle = cycle then s.succeedAttempt c code else s
    | _ => s

/-- A plan with a dark slot is issued at its cycle start: the attempt is counted and PLACED (R163). -/
def State.issueSlot (s : State) (cycle : CycleNo) (start : Tick) (slot : Option Slot) : State :=
  match s.conv.calib, slot with
  | some c, some span =>
    match c.phase with
    | .waiting =>
      s.setCalib (some { c with
        attempts := c.attempts + 1
        phase := .placed
          { cycle := cycle, span := span, startTick := start + BitVec.ofNat 32 (s.line.settings.ref + span.first) } })
    | _ => s
  | _, _ => s

/-- The raw code of a dark sample is held for the attempt that is SAMPLED, and discarded where there is none (R163, R166). -/
def State.holdDarkCode (s : State) (code : BitVec 12) : State :=
  match s.conv.calib with
  | some c =>
    match c.phase with
    | .sampled slot none => s.setCalib (some { c with phase := .sampled slot (some code) })
    | _ => s
  | none => s

/-- The line-down event in the converter (R166). -/
def State.converterLineDown (s : State) : State :=
  let conv := match s.conv.state with
    | .sampling c => ConvState.sampling { c with discard := true }
    | .converting c => .converting { c with discard := true }
    | other => other
  let s1 := (s.setConvState conv).setSlotWanted false
  match s1.conv.calib with
  | some c => s1.failCalibration c .lineDown
  | none => s1

end Sys2Proof.Machine
end

