-- ==== Sys2Proof/Machine/BurstIntake.lean ====
section
/-! DEFINITION. The Burst Intake (chapter 5): the plan store, the judgement of a report, sightings and intrusions, window closes and frame ends. -/

namespace Sys2Proof.Machine

/-! ## The plan store (R86) -/

/-- A window as it enters the store (R86). -/
def Window.entering (g : Grant) : Window :=
  { grant := g, state := .opened, quality := none, garble := false, sighted := false }

/-- A plan as it enters the store at the start of its cycle (R86). -/
def Plan.stored (p : Plan) (start : Tick) : StoredPlan :=
  { cycle := p.cycle, start := start, len := p.len, slot := p.slot, windows := p.grants.map Window.entering }

/-- The stored plan at place `k` becomes `f` of itself. -/
def State.updatePlan (s : State) (k : Nat) (f : StoredPlan → StoredPlan) : State :=
  s.setStore (s.intake.store.modify k f)

/-- The window at place `j` of a stored plan becomes `f` of itself. -/
def StoredPlan.updateWindow (p : StoredPlan) (j : Nat) (f : Window → Window) : StoredPlan :=
  { p with windows := p.windows.modify j f }

/-- The distance of an arrival tick from the opening of a plan's frame, modulo 2^32 (R87). -/
def StoredPlan.position (p : StoredPlan) (ref : Nat) (t : Tick) : Nat := tickDiff t (p.start + BitVec.ofNat 32 ref)

/-- The arrival tick lies in the plan's frame (R87). -/
def StoredPlan.holds (p : StoredPlan) (ref : Nat) (t : Tick) : Bool := p.position ref t < p.len

/-- The occupancy of a grant contains a frame position (R87). -/
def Grant.contains (g : Grant) (p : Nat) : Bool := g.first ≤ p && p < g.stop

/-! ## Quality (R89) -/

/-- The burst kind that a grant asks for (R67, R89). -/
def GrantKind.burst : GrantKind → BurstKind
  | .census => .censusReply
  | .offerReply => .tagAck
  | .probe => .echo
  | .trimCheck => .trimAck
  | .ret => .ret
  | .standing => .standing

/-- The burst declares the grant's tag. -/
def Report.addressed (r : Report) (g : Grant) : Bool := g.tag.any r.fromTag

/-- The quality of a matched burst at frame position `p` (R89). -/
def qualityOf (r : Report) (g : Grant) (p : Nat) : Quality :=
  if !r.clean then .corrupt
  else if r.kind ≠ g.kind.burst ∨ !r.addressed g then .corrupt
  else if g.stop < p + r.length then .overlong
  else .clean

/-- A burst is tag-true: clean, and its address is the grant's tag (R89). -/
def tagTrue (r : Report) (g : Grant) : Bool := r.clean && r.addressed g

/-- The burst result that goes to the grant's owner (R90). -/
def resultOf (r : Report) (g : Grant) (cycle : CycleNo) (p : Nat) : BurstResult :=
  let q := qualityOf r g p
  { grant := g, cycle := cycle, position := p, length := r.length, quality := q, kind := r.kind, seq := r.seq,
    serialEcho := r.serialEcho, flagsValid := tagTrue r g, powerFailing := r.powerFailing, rxLow := r.rxLow,
    captureAsked := q = .clean && g.capture }

/-! ## Delivery to owners (R90, R91, R96, R97) -/

/-- A burst result goes to the grant's owner (R90). -/
def State.deliverBurst (s : State) (g : Grant) (r : BurstResult) : State :=
  match g.owner, g.tag with
  | .lane i, some t => s.laneBurst i t r
  | .supervisor, some t => s.supBurst t r
  | _, _ => s

/-- A window close goes to the grant's owner (R96). -/
def State.deliverClose (s : State) (g : Grant) (cycle : CycleNo) (garble : Bool) (outcome : CloseOutcome) : State :=
  match g.owner, g.tag with
  | .census, _ => s.censusClose garble
  | .lane i, some t => s.laneClose i t cycle g.kind outcome
  | .supervisor, some t => if g.kind = .standing then s.standingClose t outcome else s
  | _, none => s

/-- A late sighting goes to the grant's owner (R97). -/
def State.deliverSighting (s : State) (g : Grant) (cycle : CycleNo) : State :=
  match g.owner, g.tag with
  | .lane i, some t => s.laneSighting i t cycle
  | _, _ => s

/-! ## Strays and sightings (R95, R97) -/

/-- The window of a TRIM CHECK that a clean TRIM ACK of its tag sights (R97). -/
def sightedWindow (r : Report) (w : Window) : Bool :=
  w.grant.kind = .trimCheck && r.clean && r.kind = .trimAck && r.addressed w.grant

/-- A stray in the frame of the plan at place `k` is looked at for a sighting (R97). -/
def State.sight (s : State) (k : Nat) (plan : StoredPlan) (r : Report) : State :=
  match plan.windows.findIdx? (sightedWindow r) with
  | none => s
  | some j =>
    match plan.windows[j]? with
    | none => s
    | some w =>
      match w.state, w.quality with
      | .opened, _ => s.updatePlan k fun p => p.updateWindow j fun x => { x with sighted := true }
      | .closed, none => s.deliverSighting w.grant plan.cycle
      | _, _ => s

/-- A stray of the plan at place `k`: counted, and delivered to no owner but as a sighting (R95, R97). -/
def State.stray (s : State) (k : Nat) (plan : StoredPlan) (r : Report) : State := s.countStray.sight k plan r

/-! ## Judging a report (R85 to R94) -/

/-- A burst in an open census window (R92). -/
def State.censusBurst (s : State) (k j : Nat) (plan : StoredPlan) (g : Grant) (r : Report) (p : Nat) : State :=
  if !r.clean then s.updatePlan k fun x => x.updateWindow j fun w => { w with garble := true }
  else
    match r.kind, r.address with
    | .censusReply, .serial serial =>
      if serial &&& g.mask = g.pattern then s.candidate serial p g.first else s.stray k plan r
    | _, _ => s.stray k plan r

/-- A burst in an open tagged window is matched: its result is delivered, and a capture requested for a CLEAN burst of a
marked grant (R88 to R91). -/
def State.matchBurst (s : State) (k j : Nat) (plan : StoredPlan) (g : Grant) (r : Report) (p : Nat) : State :=
  let res := resultOf r g plan.cycle p
  let s1 := s.updatePlan k fun x => x.updateWindow j fun w => { w with state := .matched, quality := some res.quality }
  let s2 := s1.deliverBurst g res
  match res.captureAsked, g.tag with
  | true, some t => s2.requestCapture g.owner t plan.cycle r.arrival
  | _, _ => s2

/-- A burst whose frame's plan is at place `k`, at frame position `p` (R87). -/
def State.placeBurst (s : State) (k : Nat) (plan : StoredPlan) (r : Report) (p : Nat) : State :=
  match plan.windows.findIdx? (fun w => w.grant.contains p) with
  | none => s.stray k plan r
  | some j =>
    match plan.windows[j]? with
    | none => s.stray k plan r
    | some w =>
      match w.state with
      | .opened =>
        if w.grant.kind = .census then s.censusBurst k j plan w.grant r p else s.matchBurst k j plan w.grant r p
      | _ => s.stray k plan r

/-- The burst's span meets the dark slot of its plan (R94). -/
def meetsSlot (slot : Option Slot) (p length : Nat) : Bool := slot.any fun x => p < x.stop && x.first < p + length

/-- A report taken in RUNNING is judged against the plan store (R87, R94). -/
def State.judge (s : State) (r : Report) : State :=
  let ref := s.line.settings.ref
  match s.intake.store.findIdx? (fun p => p.holds ref r.arrival) with
  | none => s.countStray
  | some k =>
    match s.intake.store[k]? with
    | none => s.countStray
    | some plan =>
      let p := plan.position ref r.arrival
      let s1 := s.placeBurst k plan r p
      if meetsSlot plan.slot p r.length then s1.intrude plan.cycle else s1

/-! ## Window closes and frame ends (R96, R98) -/

/-- The outcome that a window's close delivers (R96). -/
def Window.outcome (w : Window) : CloseOutcome :=
  match w.state, w.quality with
  | .matched, some q => .quality q
  | _, _ => .miss w.sighted

/-- The place of the next window to close: the first in placement order that is not CLOSED (R96). -/
def StoredPlan.nextWindow (p : StoredPlan) : Option Nat := p.windows.findIdx? fun w => w.state != .closed

/-- The next window of the earliest plan in the store closes at its occupancy end, and its outcome is delivered (R96). -/
def State.closeNext (s : State) : State :=
  match s.intake.store with
  | [] => s
  | plan :: _ =>
    match plan.nextWindow with
    | none => s
    | some j =>
      match plan.windows[j]? with
      | none => s
      | some w =>
        let ends := plan.start + BitVec.ofNat 32 (s.line.settings.ref + w.grant.stop)
        let s1 := (s.setTick ends).updatePlan 0 fun p => p.updateWindow j fun x => { x with state := .closed }
        s1.deliverClose w.grant plan.cycle w.garble w.outcome

/-- Up to `n` windows of the earliest plan close, in placement order. -/
def State.closeMany : Nat → State → State
  | 0, s => s
  | n + 1, s => State.closeMany n s.closeNext

/-- The earliest frame of the store ends: the windows still open close, an attempt of its dark slot that holds its code
succeeds, and the plan leaves the store (R98, R163). A frame ends only after the next cycle has started, that is with
two plans in the store (R86). -/
def State.endFrame (s : State) : State :=
  match s.intake.store with
  | plan :: _ :: _ =>
    let s1 := s.closeMany plan.windows.length
    let ends := plan.start + BitVec.ofNat 32 (plan.len + s.line.settings.ref)
    let s2 := (s1.setTick ends).calibFrameEnd plan.cycle
    s2.setStore s2.intake.store.tail
  | _ => s

end Sys2Proof.Machine
end

