-- ==== Sys2Proof/Machine/BurstPlanner.lean ====
section
/-! DEFINITION. The Burst Planner (chapter 4): placement of the four groups, the level sweep mark, the re-postings, and the plan that a plan close builds. -/

namespace Sys2Proof.Machine

/-! ## Placement (R68) -/

/-- The grants placed so far and the position at which the next item begins. -/
structure Placing where
  grants : List Grant
  pos : Nat
  deriving DecidableEq, Repr

/-- An occupancy of this size, begun at the next position, ends at or before the frame length (R68). -/
def Placing.room (p : Placing) (len size : Nat) : Bool := p.pos + size ≤ len

/-- A grant with an occupancy of this size can be placed: there is room and fewer than 64 grants are held (R68). -/
def Placing.fits (p : Placing) (len size : Nat) : Bool := p.room len size && p.grants.length < 64

/-- The grant is placed; the next item begins at its end plus the guard (R68). -/
def Placing.add (p : Placing) (guard : Nat) (g : Grant) : Placing :=
  { grants := p.grants ++ [g], pos := g.stop + guard }

/-! ## The grants (R50, R67) -/

/-- The census grant of a node, its gap at the next position, which is 0 (R69). -/
def gapGrant (ls : LineSettings) (n : Node) (o : Nat) : Grant :=
  { kind := .census, owner := .census, tag := none, pattern := n.pattern, mask := n.mask, first := o,
    stop := o + gapLength ls, point := none, start := (o : Int) + ((ls.ref : Int) - ls.eMin), length := 256,
    seq := false, capture := false, coarse := none }

/-- A STANDING grant (R72). -/
def standingGrant (ls : LineSettings) (t : Tag) (length o : Nat) : Grant :=
  { kind := .standing, owner := .supervisor, tag := some t, pattern := 0, mask := 0, first := o,
    stop := o + length + 2 * ls.wt, point := some (o + ls.wt), start := (o + ls.wt : Nat), length := length,
    seq := false, capture := false, coarse := none }

/-- The grant of a one-shot entry: an untrimmed start is shifted by Ref less the entry's coarse echo (R74, R76). -/
def shotGrant (ls : LineSettings) (e : OneShot) (o : Nat) : Grant :=
  let untrimmed : Bool := e.kind = .offerReply ∨ e.kind = .probe
  let a := o + (if untrimmed then ls.wu else ls.wt)
  { kind := e.kind, owner := e.owner, tag := some e.tag, pattern := 0, mask := 0, first := o,
    stop := o + shotOccupancy ls e.kind, point := some a,
    start := (a : Int) + (if untrimmed then (ls.ref : Int) - e.coarse.getD ls.ref else 0),
    length := shotLength, seq := e.seq, capture := e.capture, coarse := e.coarse }

/-! ## The groups (R69 to R74) -/

/-- A record is due a standing grant in the plan of `cycle` (R71). -/
def standingDue (cycle : CycleNo) (t : Tag) (period : Nat) : Bool := cycle.toNat % period = tagNum t % period

/-- The standing length of a record that is ACTIVE and due, read now (R71, R72). -/
def State.dueLength (s : State) (cycle : CycleNo) (t : Tag) : Option Nat :=
  match s.term t with
  | some h =>
    match h.phase with
    | .active _ =>
      let prof := s.profileOf h
      if standingDue cycle t prof.period then some prof.length else none
    | _ => none
  | none => none

/-- The due records with their standing lengths, in ascending tag order (R72). -/
def State.dueList (s : State) (cycle : CycleNo) : List (Tag × Nat) :=
  allTags.filterMap fun t => (s.dueLength cycle t).map fun n => (t, n)

/-- The due records are placed or skipped, each tried at the same position after a skip; the flag says that one was
skipped (R72, R73). -/
def placeStanding (ls : LineSettings) (len : Nat) : List (Tag × Nat) → Placing → Placing × Bool
  | [], p => (p, false)
  | (t, n) :: rest, p =>
    if p.fits len (n + 2 * ls.wt) then placeStanding ls len rest (p.add ls.guard (standingGrant ls t n p.pos))
    else ((placeStanding ls len rest p).1, true)

/-- One-shot entries are placed from the head of the queue until one does not fit; the second part is the entries that
stay (R74). -/
def placeShots (ls : LineSettings) (len : Nat) : List OneShot → Placing → Placing × List OneShot
  | [], p => (p, [])
  | e :: rest, p =>
    if p.fits len (shotOccupancy ls e.kind) then placeShots ls len rest (p.add ls.guard (shotGrant ls e p.pos))
    else (p, e :: rest)

/-! ## The level sweep (R75) -/

/-- The tags of the placed STANDING grants, in placement order. -/
def standingTags (grants : List Grant) : List Nat :=
  grants.filterMap fun g => if g.kind = .standing then g.tag.map tagNum else none

/-- The tag to mark: the lowest above the pointer, else the lowest of all (R75). -/
def sweepTarget (grants : List Grant) (pointer : Nat) : Option Nat :=
  let tags := standingTags grants
  match (tags.filter fun t => pointer < t).min? with
  | some t => some t
  | none => tags.min?

/-- The STANDING grant of the target tag carries the capture mark (R75). -/
def markSweep (grants : List Grant) (target : Option Nat) : List Grant :=
  grants.map fun g =>
    if g.kind = .standing ∧ target.isSome ∧ g.tag.map tagNum = target then { g with capture := true } else g

/-! ## Building the plan (R66) -/

/-- The owner of a placed one-shot entry is told (R74). -/
def State.tellPlaced (cycle : CycleNo) (s : State) (e : OneShot) : State :=
  match e.owner with
  | .lane i => s.lanePlaced i cycle e.kind
  | .supervisor => s.returnPlaced e.tag
  | .census => s

/-- The census gap is placed first where one is due: the top node is popped and is outstanding (R69, R106). -/
def State.placeGap (s : State) (cycle : CycleNo) (len : Nat) (p : Placing) : State × Placing :=
  let ls := s.line.settings
  match s.census.gapDue, s.census.stack with
  | true, n :: rest =>
    if p.fits len (gapLength ls) then
      (s.setCensus { s.census with
          stack := rest
          outstanding := some { node := n, gapStart := p.pos, cycle := cycle }
          counters.gaps := passInc s.census.counters.gaps },
        p.add ls.guard (gapGrant ls n p.pos))
    else (s, p)
  | _, _ => (s, p)

/-- A wanted dark slot is placed, as long as the converter's sample window now; the request becomes NONE (R70). -/
def State.placeSlot (s : State) (len : Nat) (p : Placing) : State × Placing × Option Slot :=
  let size := sampleWindow s.conv.windowCode
  if s.planner.slotWanted && p.room len size then
    (s.setSlotWanted false, { p with pos := p.pos + size + s.line.settings.guard },
      some { first := p.pos, stop := p.pos + size })
  else (s, p, none)

/-- A plan in which a standing grant was skipped is an overrun (R73). -/
def State.countOverrun (s : State) (cycle : CycleNo) (skipped : Bool) : State :=
  if skipped then
    (s.setOverruns (satInc 65535 s.planner.overruns) cycle).raisePlan
  else s

/-- Waiting one-shot entries are posted again: lanes in lane order, then RETURN entries in ascending tag order (R79). -/
def State.repostShots (s : State) : State := allTags.foldl State.repostReturn (allLanes.foldl State.laneRepostShot s)

/-- Full placement: the plan for `cycle` against a frame of `len` ticks, after the lanes have seized (R66 to R79). -/
def State.buildPlan (s : State) (cycle : CycleNo) (len : Nat) : State :=
  let ls := s.line.settings
  let (s1, p1) := s.placeGap cycle len { grants := [], pos := 0 }
  let (s2, p2, slot) := s1.placeSlot len p1
  let (p3, skipped) := placeStanding ls len (s2.dueList cycle) p2
  let (p4, left) := placeShots ls len s2.planner.shots p3
  let placed := s2.planner.shots.take (s2.planner.shots.length - left.length)
  let target := sweepTarget p4.grants s2.planner.sweep
  let s3 := (s2.setShots left).countOverrun cycle skipped
  let s4 := placed.foldl (State.tellPlaced cycle) s3
  let s5 := (s4.setSweep (target.getD s4.planner.sweep)).setBuilt
    (some { cycle := cycle, len := len, slot := slot, grants := markSweep p4.grants target })
  s5.repostShots

end Sys2Proof.Machine
end

