-- ==== Sys2Proof/Machine/LineUnit.lean ====
section
/-! DEFINITION. The Line Timer (chapter 1): heads, plan closes, cycle starts, the lighting, the darkening and the line-down event. -/

namespace Sys2Proof.Machine

/-! ## Heads and empty plans (R6, R12, R65) -/

/-- A plan with no grants and no dark slot (R65). -/
def emptyPlan (cycle : CycleNo) (len : Nat) : Plan := { cycle := cycle, len := len, slot := none, grants := [] }

/-- A warming head (R12). -/
def warmingHead (cycle : CycleNo) : Head := { cycle := cycle, draining := false, grants := [], notices := [] }

/-- The broadcast STAND DOWN that the Line Timer itself places in a draining head (R6). -/
def broadcast : LineNotice := { body := .standDown none .lineDown, poster := .lineTimer }

/-- A draining head (R6, R12). -/
def drainingHead (cycle : CycleNo) : Head := { cycle := cycle, draining := true, grants := [], notices := [broadcast] }

/-! ## The plan close (R65, R66) -/

/-- The fourth draining cycle is in progress (R6). -/
def State.lastDraining (s : State) : Bool := s.line.state = .draining && s.line.drainCycle && s.line.drainLeft ≤ 1

/-- The head and the plan of the next cycle (R12). -/
def State.setNext (s : State) (head : Option Head) (built : Option Plan) : State :=
  (s.setHead head).setBuilt built

/-- A plan close in RUNNING: up to 8 line notices are taken, the lanes seize, the plan is built, the head assembled from
both (R14, R66, R12). The notices leave the queue before the seizures post (log 10). -/
def State.closeRunning (s : State) (cycle : CycleNo) (len : Nat) : State :=
  let taken := s.line.notices.take 8
  let s1 := s.setNotices (s.line.notices.drop 8)
  let s2 := s1.seizeAll.buildPlan cycle len
  s2.setHead (some
    { cycle := cycle, draining := false, grants := (s2.planner.built.map Plan.grants).getD [], notices := taken })

/-- The plan close of cycle `c`, once in each lit cycle: the pending length is latched as the next one, and the plan and
head for the next cycle are built as the line state asks (R10, R65). -/
def State.closePlan (s : State) : State :=
  match s.line.cycle with
  | none => s
  | some c =>
    match c.next with
    | some _ => s
    | none =>
      let len := s.line.pendingLen
      let num := c.num + 1
      let s1 := (s.setTick (c.start + BitVec.ofNat 32 (closeOffset s.line.settings c.len))).setCycle
        (some { c with next := some len })
      match s.line.state with
      | .dark => s
      | .warming => s1.setNext (some (warmingHead num)) (some (emptyPlan num len))
      | .running => s1.closeRunning num len
      | .draining =>
        if s.lastDraining then s1.setNext none none
        else s1.setNext (some (drainingHead num)) (some (emptyPlan num len))

/-! ## The cycle start (R9) -/

/-- The plan is issued to the framer and to the Intake, and to the converter its dark slot (R9, R86, R163). -/
def State.issuePlan (s : State) (p : Plan) (start : Tick) : State :=
  (((s.setBuilt none).setFramerPlan p).setStore (s.intake.store ++ [p.stored start])).issueSlot p.cycle start p.slot

/-- A head is sent on the head data pin (R9, R191). -/
def State.sendHead (s : State) (h : Head) : State := { s with line.head := none, line.headOut := h.bytes }

/-- The tags whose NUDGE departs among the carried notices. -/
def nudgedTags (carried : List LineNotice) : List Tag :=
  carried.filterMap fun n =>
    match n.poster, n.body with
    | .supervisor, .nudge t _ => some t
    | _, _ => none

/-- The departures of a head's line notices: the lanes' in lane order, then the NUDGEs (R14, R78). -/
def State.departures (s : State) (carried : List LineNotice) : State :=
  let s1 := allLanes.foldl (fun x i => x.laneDeparture carried i) s
  (nudgedTags carried).foldl (fun x t => x.nudgeDeparture s.cycleNo t) s1

/-- A park hold above 0 goes down by one (R35). -/
def Record.holdTick (r : Record) : Record :=
  match r.term with
  | some h =>
    match h.phase with
    | .parked reason hold => { r with term := some { h with phase := .parked reason (hold - 1) } }
    | _ => r
  | none => r

/-- The countdowns of every cycle start: park holds (R35) and the census wait (R105). -/
def State.countdowns (s : State) : State :=
  { s with roster.records := s.roster.records.map Record.holdTick, census.wait := s.census.wait - 1 }

/-- The Roster's waiting postings are posted again in their order; those that find the queue full wait again (R13). -/
def State.repostRoster (s : State) : State :=
  s.roster.waiting.foldl (fun x n => x.rosterPost n.body) (s.setWaiting [])

/-- The work of a cycle start on SILENT records and on waiting line notices, in the order of R13: the Roster's waiting
entries, the grace countdowns with their STAND DOWNs, the lanes' line notices, the NUDGEs, and then the RETURNs due. That
every grace countdown comes before every RETURN's due point (R145, R147) is DESIGN CHOICE, log 33. -/
def State.cycleStartPostings (s : State) : State :=
  let s1 := s.repostRoster
  let s2 := allTags.foldl State.graceTick s1
  let s3 := allLanes.foldl State.laneRepostNotice s2
  let s4 := allTags.foldl State.repostNudge s3
  allTags.foldl State.returnDue s4

/-- The line's own counts at the start of cycle c+1: the cycle, the warm-up with its end, the draining (R3, R6, R9). -/
def State.advanceCycle (s : State) (c : Cycle) (len : Nat) : State :=
  let start := c.start + BitVec.ofNat 32 c.len
  let s1 := (s.setTick start).setCycle (some { num := c.num + 1, start := start, len := len, next := none })
  match s.line.state with
  | .warming =>
    let left := s.line.warmup - 1
    let s2 := s1.setWarmup left
    if left = 0 then s2.enterLine .running else s2
  | .draining =>
    s1.setDrain (if s.line.drainCycle then s.line.drainLeft - 1 else s.line.drainLeft) true
  | _ => s1

/-- A cycle can start: the line is lit, the plan close of the cycle in progress has latched the next length, and the head
and the plan of the next cycle are there, which excludes the fourth draining cycle (R6, R9, R65). -/
def State.nextCycle (s : State) : Option (Cycle × Nat × Head × Plan) :=
  if s.lit then
    match s.line.cycle, s.line.head, s.planner.built with
    | some c, some h, some p => c.next.map fun len => (c, len, h, p)
    | _, _, _ => none
  else none

/-- The start of cycle c+1 (R9), where one can start. A frame end that the commands have not brought, and that lies
before this tick, is taken first (log 4). In RUNNING the postings of R13 and R145 follow. The lanes' one-shot postings on
departure come before the grace expiries with their withdrawals (R78, R80, R147), which R9 does not order: DESIGN CHOICE,
log 32. -/
def State.startCycle (s : State) : State :=
  match s.nextCycle with
  | none => s
  | some (c, len, h, p) =>
    let s1 := s.endFrame.advanceCycle c len
    let s2 := (s1.sendHead h).issuePlan p (c.start + BitVec.ofNat 32 c.len)
    let s3 := (s2.departures h.notices).countdowns
    if s3.running then s3.cycleStartPostings else s3

/-! ## Lighting and darkening (R2, R4, R5, R6) -/

/-- LIGHT LINE in DARK at tick `now`: the enable is asserted, cycle 0 starts with a warming head and an empty plan, and
the line enters WARMING (R2). Cycle 0's start counts down park holds and the census wait (log 11). -/
def State.light (s : State) (now : Tick) : State :=
  let len := s.line.pendingLen
  let s1 := (((((s.setEnable true).setTick now).setCycle (some { num := 0, start := now, len := len, next := none })).setWarmup
    (2 ^ s.line.settings.exponent)).setDrain 0 false).enterLine .warming
  ((s1.sendHead (warmingHead 0)).issuePlan (emptyPlan 0 len) now).countdowns

/-- The line goes DARK: the enable is deasserted, no cycle runs, no head or plan is held, and the store is emptied
(R4, R6, R86). -/
def State.goDark (s : State) : State :=
  ((((((s.setEnable false).setCycle none).setWarmup 0).setDrain 0 false).setNext none none).setStore []).enterLine .dark

/-- The line-down event parks a record in HEARD, ENGAGED, ACTIVE or SILENT with reason LINE_DOWN and hold 0 (R5). -/
def State.lineDownRecord (s : State) (t : Tag) : State :=
  match s.term t with
  | some h =>
    match h.phase with
    | .parked _ _ => s
    | _ => s.parkRecord t h .lineDown 0
  | none => s

/-- A lane after its end: FREE, with its seizure number (R135). -/
def Lane.ended (l : Lane) : Lane := { l with work := none }

/-- The line-down event in every block (R5, R82, R116, R137, R150, R166). -/
def State.lineDown (s : State) : State :=
  let s1 := allTags.foldl State.lineDownRecord s
  let s2 := ((((((s1.setAdmissionQueue []).setWaiting []).setLanes (s1.lanes.map Lane.ended)).setShots []).setNotices
    []).setStore []).setSup (.fill 128 .empty)
  s2.censusLineDown.converterLineDown

/-- Entry to DRAINING (R5): where the plan close of the cycle in progress has passed, its head and plan are replaced by a
draining head and an empty plan. -/
def State.enterDraining (s : State) : State :=
  let s1 := (s.setDrain 4 false).enterLine .draining
  let s2 := s1.lineDown
  match s.line.cycle with
  | some c =>
    match c.next with
    | some len => s2.setNext (some (drainingHead (c.num + 1))) (some (emptyPlan (c.num + 1) len))
    | none => s2.setNext none none
  | none => s2.setNext none none

/-- DARKEN LINE (R4). -/
def State.darken (s : State) : State :=
  match s.line.state with
  | .dark | .draining => s
  | .warming => s.goDark
  | .running => s.enterDraining

/-- The end of the fourth draining cycle (R6), at the tick that would have been the next cycle start. -/
def State.endDraining (s : State) : State :=
  match s.line.cycle with
  | some c =>
    if s.lastDraining then (s.setTick (c.start + BitVec.ofNat 32 c.len)).goDark else s
  | none => s

end Sys2Proof.Machine
end

