-- ==== Sys2Proof/Machine/LinkUnit.lean ====
section
/-! DEFINITION. The Control Link (chapter 10): the receiver, the inbound queue, the handler, the transmitter's choice, and the four resets. -/

namespace Sys2Proof.Machine

/-! ## Receiving (R170, R171) -/

/-- A frame fault: the frame is abandoned and counted, and the receiver hunts (R170). -/
def State.frameFault (s : State) : State := { s with link.rx := .hunt, link.faults := s.link.faults + 1 }

/-- The request that the counted bytes of a good frame hold: kind, request tag with the quiet flag in the top bit, body (R169). -/
def requestOf (bytes : List Byte) : Request :=
  let tagByte := bytes.getD 1 0
  { kind := bytes.getD 0 0, tag := tagByte.setWidth 7, quiet := tagByte.getLsbD 7, body := bytes.drop 2 }

/-- A good frame is offered to the inbound queue: queued, answered BUSY, or dropped and counted (R171). -/
def State.offerRequest (s : State) (q : Request) : State :=
  if s.link.inbound.length < 4 then { s with link.inbound := s.link.inbound ++ [q] }
  else if s.link.outbound.length < 8 then
    { s with link.outbound := s.link.outbound ++ [{ kind := q.kind, tag := q.tag, result := .busy, body := [] }] }
  else { s with link.faults := s.link.faults + 1 }

/-- The second check byte: the two bytes, high byte first, are compared with the running check (R170). -/
def State.checkFrame (s : State) (crc : BitVec 16) (bytes : List Byte) (high low : Byte) : State :=
  if high ++ low = crc then { s with link.rx := .hunt }.offerRequest (requestOf bytes) else s.frameFault

/-- The receiver takes a byte as it completes (R170). -/
def State.receiveByte (s : State) (b : Byte) (stop : Bool) : State :=
  match s.link.rx with
  | .hunt => if stop ∧ b = 0xA5 then { s with link.rx := .count crcStart } else s
  | .count crc =>
    if stop ∧ 2 ≤ b.toNat ∧ b.toNat ≤ 252 then { s with link.rx := .content (crcByte crc b) b.toNat [] }
    else s.frameFault
  | .content crc len bytes =>
    if stop then
      let bytes1 := bytes ++ [b]
      if len ≤ bytes1.length then { s with link.rx := .check (crcByte crc b) bytes1 none }
      else { s with link.rx := .content (crcByte crc b) len bytes1 }
    else s.frameFault
  | .check crc bytes first =>
    if stop then
      match first with
      | none => { s with link.rx := .check crc bytes (some b) }
      | some high => s.checkFrame crc bytes high b
    else s.frameFault

/-- The gap expires: in COUNT, CONTENT and CHECK the frame is abandoned as a frame fault; in HUNT there is no gap limit (R170). -/
def State.expireGap (s : State) : State :=
  match s.link.rx with
  | .hunt => s
  | _ => s.frameFault

/-! ## The request handler (R172, R173) -/

/-- What a request's entry answers: the state with its effect, the result, and the reply body. -/
structure Answer where
  state : State
  result : Result
  body : List Byte
  deriving DecidableEq, Repr

/-- An answer with a result and no body. -/
def Answer.plain (s : State) (r : Result) : Answer := { state := s, result := r, body := [] }

/-- A reply is offered to the outbound queue, but where the quiet flag is set and the result is OK or ACCEPTED (R173). -/
def State.offerReply (s : State) (q : Request) (r : Result) (body : List Byte) : State :=
  if q.quiet ∧ (r = .ok ∨ r = .accepted) then s
  else { s with link.outbound := s.link.outbound ++ [{ kind := q.kind, tag := q.tag, result := r, body := body }] }

/-- The request that the handler can take now: the head of the inbound queue, the handler IDLE, room for a reply (R172). -/
def State.nextRequest (s : State) : Option Request :=
  match s.link.handler with
  | .idle => if s.link.outbound.length < 8 then s.link.inbound.head? else none
  | .restartWaiting _ _ _ => none

/-- The request leaves the inbound queue (R171). -/
def State.popRequest (s : State) : State := { s with link.inbound := s.link.inbound.tail }

/-- The handler takes a request of the kind `kind` whole: a body of a length the kind does not allow is refused LENGTH,
otherwise the entry acts, and the reply is offered (R172, R173, R180). Where the handler cannot take such a request
now, the event does not arise and nothing changes (log 1). -/
def State.handle (s : State) (kind : Nat) (lengthOk : Nat → Bool) (act : Request → State → Answer) : State :=
  match s.nextRequest with
  | none => s
  | some q =>
    if q.kind.toNat = kind then
      let s1 := s.popRequest
      if lengthOk q.body.length then
        let a := act q s1
        a.state.offerReply q a.result a.body
      else s1.offerReply q .length []
    else s

/-- The kind names a request (R172, 12.3). -/
def namesRequest (kind : Byte) : Bool := 0x01 ≤ kind.toNat && kind.toNat ≤ 0x1C

/-- The handler takes a request whose kind names none and answers it UNKNOWN (R172). -/
def State.handleUnknown (s : State) : State :=
  match s.nextRequest with
  | none => s
  | some q => if namesRequest q.kind then s else s.popRequest.offerReply q .unknown []

/-! ## The transmitter (R174, R176) -/

/-- The transmitter begins a frame. -/
def State.transmit (s : State) (frame : List Byte) : State := { s with link.tx := .sending frame }

/-- The lowest tag whose record flag is set (R176). -/
def State.noticeTag (s : State) : Option Tag := allTags.find? fun t => s.link.recFlags.get t

/-- The TERMINAL notice of a tag: its flag and its changes count are cleared (R176, R24). -/
def State.sendTerminal (s : State) (t : Tag) : State :=
  { s.transmit (noticeFrame 0xF4 (s.terminalBody t)) with
    link.recFlags := s.link.recFlags.set t false
    roster.records := s.roster.records.update t fun r => { r with changes := 0 } }

/-- The PLAN notice (R73, R176). -/
def State.sendPlanNotice (s : State) : State :=
  { s.transmit (noticeFrame 0xF5 s.planBody) with link.kinds.plan := false, planner.overruns := 0 }

/-- The first pending, unmasked kind in the order of R176 is sent; its body is built and its flag and counts are cleared. -/
def State.sendNotice (s : State) : State :=
  let k := s.link.kinds
  let m := s.link.mask
  if k.hello then { s.transmit (noticeFrame 0xF0 s.helloBody) with link.kinds.hello := false }
  else if k.line && m.line then
    { s.transmit (noticeFrame 0xF1 s.lineBody) with link.kinds.line := false, line.transitions := 0 }
  else if k.calibration && m.calibration then
    { s.transmit (noticeFrame 0xF2 s.calibrationBody) with link.kinds.calibration := false }
  else if k.census && m.census then
    { s.transmit (noticeFrame 0xF3 s.censusBody) with link.kinds.census := false, census.passes := 0 }
  else
    match (if m.terminal then s.noticeTag else none) with
    | some t => s.sendTerminal t
    | none => if k.plan && m.plan then s.sendPlanNotice else s

/-- The transmitter, between frames, chooses: the head reply, else a notice, else nothing (R174). While RESTART_WAITING it
sends no notice, and no reply behind those the restart waits for (R178). -/
def State.chooseFrame (s : State) : State :=
  match s.link.handler, s.link.outbound with
  | .idle, r :: rest => { s.transmit r.frame with link.outbound := rest }
  | .idle, [] => s.sendNotice
  | .restartWaiting form (n + 1) replied, r :: rest =>
    { s.transmit r.frame with link.outbound := rest, link.handler := .restartWaiting form n replied }
  | .restartWaiting _ _ _, _ => s

/-- The transmitter ends the frame it is sending, if any, and chooses the next (R174). -/
def State.endFrameSent (s : State) : State := { s with link.tx := .betweenFrames }.chooseFrame

/-- The end of every event: a transmitter BETWEEN_FRAMES makes its choice again, so that a reply that the event queued, or
a flag that it set or released, is sent at once (R174 step 3). A frame that is being sent goes on. That the choice is
made once for the whole event, from the state as the event leaves it, is log 8. -/
def State.chooseAgain (s : State) : State :=
  match s.link.tx with
  | .betweenFrames => s.chooseFrame
  | .sending _ => s

/-- The bytes of a frame are taken one after the other, each an event of its own (R170, R174). -/
def State.receiveBytes (s : State) (bytes : List RxByte) : State :=
  bytes.foldl (fun x b => (x.receiveByte b.data b.stop).chooseAgain) s

/-! ## Resets (R22, R49, R83, R99, R117, R138, R152, R167, R179, R188, R189) -/

/-- The state after a power-on reset, a pin reset or FULL_RESTART, with the strap code and the cause it leaves; the
model's own fields are kept. -/
def State.resetTo (s : State) (straps : BitVec 2) (cause : ResetCause) : State :=
  { State.reset with link.straps := straps, link.cause := cause, pending := s.pending, free := s.free }

/-- LINE_RESTART (R188): settings and lists are kept, everything that depends on the line is cleared; what was last sent
on the head and plan pins is left as it was (log 17). -/
def State.lineRestart (s : State) : State :=
  { line :=
      { LineTimer.reset with
        tick := s.line.tick, pendingLen := s.line.pendingLen, settings := s.line.settings, headOut := s.line.headOut }
    roster :=
      { Roster.reset with
        expected := s.roster.expected, barred := s.roster.barred, mode := s.roster.mode, poolLow := s.roster.poolLow,
        poolHigh := s.roster.poolHigh, openProfile := s.roster.openProfile, profiles := s.roster.profiles }
    census := .reset
    planner := { Planner.reset with framerPlan := s.planner.framerPlan }
    intake := .reset
    lanes := .fill 8 .free
    sup := .fill 128 .empty
    conv :=
      { Converter.reset with
        windowCode := s.conv.windowCode, stepCode := s.conv.stepCode, offset := s.conv.offset, curve := s.conv.curve }
    link :=
      { Link.reset with straps := s.link.straps, cause := .lineRestart, mask := s.link.mask, faults := s.link.faults }
    pending := s.pending
    free := s.free }

/-- FULL_RESTART: the values of a pin reset, with the straps kept (R189). -/
def State.fullRestart (s : State) : State := s.resetTo s.link.straps .fullRestart

/-- A restart takes effect now: nothing that it waits for is left to choose, and the transmitter is between frames, or is
at the last check byte of the RESTART reply (R178). -/
def State.restartDue (s : State) : Option RestartForm :=
  match s.link.handler with
  | .restartWaiting form 0 replied => if s.link.tx = .betweenFrames ∨ replied then some form else none
  | _ => none

/-- The restart takes effect and leaves what its form leaves, HELLO pending among it (R178, R187); where none is due, the
event does not arise (log 1). The HELLO of a restart is chosen at the next step (log 8). -/
def State.takeRestart (s : State) : State :=
  match s.restartDue with
  | some .line => s.lineRestart
  | some .full => s.fullRestart
  | none => s.chooseAgain

end Sys2Proof.Machine
end

