-- ==== Sys2Proof/Machine/ReportRequests.lean ====
section
/-! DEFINITION. The requests on identity, status, the notice mask and the restart (11.2, 11.9). -/

namespace Sys2Proof.Machine

/-- A body of exactly `n` bytes (R180). -/
def exactly (n : Nat) : Nat → Bool := fun m => m == n

/-- The result of a request that clamps: OK_CLAMPED where a value was changed (R172). -/
def clampResult (changed : Bool) : Result := if changed then .okClamped else .ok

/-! ## IDENTIFY (R181) -/

/-- What IDENTIFY answers (R181). -/
def actIdentify (_ : Request) (s : State) : Answer := { state := s, result := .ok, body := s.identityBody }

/-- IDENTIFY (R181). -/
def execIdentify (s : State) : Host.Outcome State Fault Refusal := .next (s.handle 0x01 (exactly 0) actIdentify).chooseAgain

/-! ## READ STATUS (R182) -/

/-- What READ STATUS answers (R182). -/
def actReadStatus (_ : Request) (s : State) : Answer := { state := s, result := .ok, body := s.statusBody }

/-- READ_STATUS (R182). -/
def execReadStatus (s : State) : Host.Outcome State Fault Refusal := .next (s.handle 0x02 (exactly 0) actReadStatus).chooseAgain

/-! ## SET NOTICE MASK (R175) -/

/-- What SET NOTICE MASK does: all five enables at once (R175). -/
def actSetNoticeMask (q : Request) (s : State) : Answer :=
  .plain { s with link.mask := .ofByte (q.body.getD 0 0) } .ok

/-- SET_NOTICE_MASK (R175). -/
def execSetNoticeMask (s : State) : Host.Outcome State Fault Refusal :=
  .next (s.handle 0x1B (exactly 1) actSetNoticeMask).chooseAgain

/-! ## RESTART (R187, R178) -/

/-- What RESTART does: the handler waits; the replies that the restart waits for are those queued now and its own reply,
which a quiet RESTART has not (R178, R187; log 19). -/
def actRestart (q : Request) (s : State) : Answer :=
  match restartFormOf (beAt q.body 0 1) with
  | none => .plain s .range
  | some form =>
    let own := if q.quiet then 0 else 1
    .plain { s with link.handler := .restartWaiting form (s.link.outbound.length + own) (!q.quiet) } .ok

/-- RESTART (R187). -/
def execRestart (s : State) : Host.Outcome State Fault Refusal := .next (s.handle 0x1C (exactly 1) actRestart).chooseAgain

end Sys2Proof.Machine
end

