-- ==== Sys2Proof/Machine/CensusRequests.lean ====
section
/-! DEFINITION. The census requests: START CENSUS and STOP CENSUS (11.6). -/

namespace Sys2Proof.Machine

/-! ## START CENSUS (R102, R103) -/

/-- The census that a taken START CENSUS begins: the five values stored, the root pushed, the counts of the pass fresh;
the last pass record and the passes since the last notice are kept (R102, R103). -/
def Census.begun (c : Census) (mode : CensusMode) (interval : Nat) (split pattern mask : Serial) : Census :=
  let c1 := { c with
    state := .searching
    mode := mode
    interval := clampNat 1 255 interval
    splitSet := split
    effective := split &&& ~~~mask
    rootPattern := pattern &&& mask
    rootMask := mask
    wait := 0
    counters := .zero
    tie := none }
  { c1 with stack := c1.root :: c1.stack }

/-- The line states in which START CENSUS is taken (R102). -/
def LineState.takesCensus : LineState → Bool
  | .warming | .running => true
  | .dark | .draining => false

/-- What START CENSUS does (R102, R103). -/
def actStartCensus (q : Request) (s : State) : Answer :=
  let interval := beAt q.body 1 1
  match censusModeOf (beAt q.body 0 1) with
  | none => .plain s .range
  | some mode =>
    if !s.line.state.takesCensus then .plain s .state
    else if s.census.state ≠ .stopped then .plain s .state
    else
      .plain
        { s with census := s.census.begun mode interval (serialAt q.body 2) (serialAt q.body 6) (serialAt q.body 10) }
        (clampResult (clampNat 1 255 interval != interval))

/-- START_CENSUS (R102). -/
def execStartCensus (s : State) : Host.Outcome State Fault Refusal :=
  .next (s.handle 0x10 (exactly 14) actStartCensus).chooseAgain

/-! ## STOP CENSUS (R104) -/

/-- A search with no outstanding node stops at once. The pass end records the current cycle number; while DARK there is
none, and the value is free (R104, R112; log 6). -/
def State.stopSearch (s : State) : State :=
  if s.lit then s.haltCensus .stopped s.cycleNo
  else { s with free := s.free + 1 }.haltCensus .stopped (Config.freeCycle s.free)

/-- The stack is emptied, and the outstanding window is left to close (R104, R111). -/
def State.awaitLastWindow (s : State) : State := { s with census.stack := [], census.state := .stopping }

/-- What STOP CENSUS does (R104). -/
def actStopCensus (_ : Request) (s : State) : Answer :=
  match s.census.state, s.census.outstanding with
  | .searching, none => .plain s.stopSearch .ok
  | .searching, some _ => .plain s.awaitLastWindow .ok
  | _, _ => .plain s .ok

/-- STOP_CENSUS (R104). -/
def execStopCensus (s : State) : Host.Outcome State Fault Refusal := .next (s.handle 0x11 (exactly 0) actStopCensus).chooseAgain

end Sys2Proof.Machine
end

