-- ==== Sys2Proof/Machine/ConverterEvents.lean ====
section
/-! DEFINITION. The meanings of the converter's timed events (chapter 9). -/

namespace Sys2Proof.Machine

/-! ## The dark slot start (R163) -/

/-- The dark sample that a slot start begins, timed by the slot and the step setting as it stands (R163). -/
def Converter.darkSample (v : Converter) (slot : CalibSlot) : DarkSample :=
  { begun := slot.startTick, window := slot.span.stop - slot.span.first, step := stepTime v.stepCode,
    converting := false }

/-- The slot of the PLACED attempt starts (R163). -/
def State.startSlot (s : State) (c : Calibration) (slot : CalibSlot) : State :=
  match s.conv.state with
  | .idle =>
    { s with
      line.tick := slot.startTick
      conv.state := .calibrating (s.conv.darkSample slot)
      conv.calib := some { c with phase := .sampled slot none } }
  | .sampling _ | .converting _ => { s with line.tick := slot.startTick }.failAttempt c .busy
  | .calibrating _ => s

/-- The slot start finds an attempt at PLACED, or leaves everything as it is (R163). -/
def State.darkSlotStart (s : State) : State :=
  match s.conv.calib with
  | some c =>
    match c.phase with
    | .placed slot => s.startSlot c slot
    | _ => s
  | none => s

/-- DARK_SLOT_START (R163). -/
def execDarkSlotStart (s : State) : Host.Outcome State Fault Refusal := .next s.darkSlotStart.chooseAgain

/-! ## The sample window end (R156) -/

/-- The sample window of the capture or of the dark sample ends (R153, R156). -/
def State.endSampleWindow (s : State) : State :=
  match s.conv.state with
  | .sampling c => { s with line.tick := windowEnds c.begun c.window, conv.state := .converting c }
  | .calibrating d =>
    if d.converting then s
    else { s with line.tick := windowEnds d.begun d.window, conv.state := .calibrating { d with converting := true } }
  | _ => s

/-- SAMPLE_WINDOW_END (R156). -/
def execSampleWindowEnd (s : State) : Host.Outcome State Fault Refusal := .next s.endSampleWindow.chooseAgain

/-! ## The conversion end (R156, R163) -/

/-- The conversion of a capture ends with a raw code: the level goes to the owner, unless the discard mark is set (R156). -/
def State.endCapture (s : State) (c : Capture) (raw : BitVec 12) : State :=
  let s1 := { s with line.tick := conversionEnds c.begun c.window c.step, conv.state := .idle }
  if c.discard then s1
  else s1.answerCapture c.owner c.tag c.cycle (.level (levelOf s.conv.curve (correctedCode raw c.offset)))

/-- A conversion ends with a raw code (R156, R163). -/
def State.endConversion (s : State) (raw : BitVec 12) : State :=
  match s.conv.state with
  | .converting c => s.endCapture c raw
  | .calibrating d =>
    if d.converting then
      { s with line.tick := conversionEnds d.begun d.window d.step, conv.state := .idle }.holdDarkCode raw
    else s
  | _ => s

/-- CONVERSION_END (R156). -/
def execConversionEnd (raw : BitVec 12) (s : State) : Host.Outcome State Fault Refusal := .next (s.endConversion raw).chooseAgain

end Sys2Proof.Machine
end

