-- ==== Sys2Proof/Machine/ConverterRequests.lean ====
section
/-! DEFINITION. The requests on the level converter (11.8). -/

namespace Sys2Proof.Machine

/-! ## SET CONVERTER (R157) -/

/-- The sample window code, clamped to 3 (R157). -/
def windowCodeOf (n : Nat) : Fin 4 := ⟨clampNat 0 3 n, by unfold clampNat; split <;> (try split) <;> omega⟩

/-- The step time code, clamped to 2 (R157). -/
def stepCodeOf (n : Nat) : Fin 3 := ⟨clampNat 0 2 n, by unfold clampNat; split <;> (try split) <;> omega⟩

/-- What SET CONVERTER does (R157, R158). -/
def actSetConverter (q : Request) (s : State) : Answer :=
  let window := beAt q.body 0 1
  let step := beAt q.body 1 1
  let asked := beSignedAt q.body 2 1
  let offset := offsetOf asked
  .plain
    { s with conv.windowCode := windowCodeOf window, conv.stepCode := stepCodeOf step, conv.offset := offset }
    (clampResult ((windowCodeOf window).val != window || (stepCodeOf step).val != step || offset != asked))

/-- SET_CONVERTER (R157). -/
def execSetConverter (s : State) : Host.Outcome State Fault Refusal :=
  .next (s.handle 0x17 (exactly 3) actSetConverter).chooseAgain

/-! ## SET CURVE and READ CURVE (R160, R161) -/

/-- A body of a start index and 1 to 33 values of 2 bytes (R160, 12.3). -/
def curveLengthOk (n : Nat) : Bool := n % 2 == 1 && 3 ≤ n && n ≤ 67

/-- A curve value clamped to -600 to +100 (R160). -/
def clampPoint (v : Int) : Int := clampInt (-600) 100 v

/-- The first `n` values of a run of 2-byte signed values. -/
def curveValues : Nat → List Byte → List Int
  | 0, _ => []
  | n + 1, bs => beSignedAt bs 0 2 :: curveValues n (bs.drop 2)

/-- The values are written from `k` onward, each clamped; the write stops after V[32] (R160). -/
def writeCurve (curve : Bank Int 33) (k : Nat) : List Int → Bank Int 33
  | [] => curve
  | v :: rest => if h : k < 33 then writeCurve (curve.set ⟨k, h⟩ (clampPoint v)) (k + 1) rest else curve

/-- What SET CURVE does; a value that is not written is not clamped (R160; log 30). -/
def actSetCurve (q : Request) (s : State) : Answer :=
  let start := beAt q.body 0 1
  if 32 < start then .plain s .range
  else
    let written := (curveValues ((q.body.length - 1) / 2) (q.body.drop 1)).take (33 - start)
    { state := { s with conv.curve := writeCurve s.conv.curve start written }
      result := clampResult (written.any fun v => clampPoint v != v)
      body := [byteOf written.length] }

/-- SET_CURVE (R160). -/
def execSetCurve (s : State) : Host.Outcome State Fault Refusal := .next (s.handle 0x18 curveLengthOk actSetCurve).chooseAgain

/-- What READ CURVE answers (R161). -/
def actReadCurve (q : Request) (s : State) : Answer :=
  let start := beAt q.body 0 1
  let count := beAt q.body 1 1
  if 32 < start then .plain s .range
  else
    let points := (s.conv.curve.cells.drop start).take count
    { state := s, result := .ok, body := byteOf points.length :: points.flatMap (beSigned 2) }

/-- READ_CURVE (R161). -/
def execReadCurve (s : State) : Host.Outcome State Fault Refusal := .next (s.handle 0x19 (exactly 2) actReadCurve).chooseAgain

/-! ## CALIBRATE (R162) -/

/-- The calibration record that a taken CALIBRATE writes (R162). -/
def Calibration.begun (target : Nat) : Calibration := { target := target, attempts := 0, phase := .waiting, cause := none }

/-- What CALIBRATE does (R162). -/
def actCalibrate (q : Request) (s : State) : Answer :=
  match s.line.state, s.conv.calib with
  | .running, none =>
    .plain
      { s with conv.calib := some (.begun (clampNat 0 4095 (beAt q.body 0 2))), planner.slotWanted := true } .accepted
  | _, _ => .plain s .state

/-- CALIBRATE (R162). -/
def execCalibrate (s : State) : Host.Outcome State Fault Refusal := .next (s.handle 0x1A (exactly 2) actCalibrate).chooseAgain

end Sys2Proof.Machine
end

