-- ==== Sys2Proof/Machine/LineEvents.lean ====
section
/-! DEFINITION. The meanings of the line's own events (chapters 1, 4, 5 and 8). -/

namespace Sys2Proof.Machine

/-- CYCLE_START (R9). -/
def execCycleStart (s : State) : Host.Outcome State Fault Refusal := .next s.startCycle.chooseAgain

/-- The next cycle start is the one at which warm-up remaining reaches 0 (R3). -/
def State.warmupEnds (s : State) : Bool := s.line.state = .warming && s.line.warmup ≤ 1

/-- WARMUP_END (R3): that cycle start, whole (log 3). -/
def execWarmupEnd (s : State) : Host.Outcome State Fault Refusal :=
  .next (if s.warmupEnds then s.startCycle else s).chooseAgain

/-- DRAINING_END (R6). -/
def execDrainingEnd (s : State) : Host.Outcome State Fault Refusal := .next s.endDraining.chooseAgain

/-- The next cycle start is the one at which the grace of the SILENT record of `t` reaches 0 (R147). -/
def State.graceEnds (s : State) (t : Tag) : Bool :=
  match (s.term t).bind Terminal.silence with
  | some (_, left) => s.running && left ≤ 1
  | none => false

/-- GRACE_EXPIRY (R147): that cycle start, whole (log 3). -/
def execGraceExpiry (tag : Tag) (s : State) : Host.Outcome State Fault Refusal :=
  .next (if s.graceEnds tag then s.startCycle else s).chooseAgain

/-- PLAN_CLOSE (R65, R66). -/
def execPlanClose (s : State) : Host.Outcome State Fault Refusal := .next s.closePlan.chooseAgain

/-- BURST_REPORT (R84, R85): taken at its tick; outside RUNNING the report is discarded and counted nowhere. -/
def execBurstReport (arrival : Tick) (header : List Byte) (check overlap : Bool) (taken : Tick) (s : State) :
    Host.Outcome State Fault Refusal :=
  let s1 := { s with line.tick := taken }
  .next (if s1.running then s1.judge (reportOf arrival header check overlap) else s1).chooseAgain

/-- WINDOW_CLOSE (R96). -/
def execWindowClose (s : State) : Host.Outcome State Fault Refusal := .next s.closeNext.chooseAgain

/-- FRAME_END (R98). -/
def execFrameEnd (s : State) : Host.Outcome State Fault Refusal := .next s.endFrame.chooseAgain

end Sys2Proof.Machine
end

