-- ==== Sys2Proof/Machine/LineRequests.lean ====
section
/-! DEFINITION. The line requests: SET LINE, SET CYCLE LENGTH, LIGHT LINE and DARKEN LINE (11.3). -/

namespace Sys2Proof.Machine

/-! ## SET LINE (R21) -/

/-- The eight settings that a SET LINE body gives, before any clamp (12.3). -/
def lineSettingsAsked (bs : List Byte) : LineSettings :=
  { ref := beAt bs 0 4, eMin := beAt bs 4 4, guard := beAt bs 8 2, wt := beAt bs 10 2, wu := beAt bs 12 2,
    exponent := beAt bs 14 1, closeCode := beAt bs 15 1, hush := beAt bs 16 2 }

/-- Each setting clamped to its range in the order of the table, E_min against the new Ref (R21). -/
def LineSettings.clamped (a : LineSettings) : LineSettings :=
  let ref := clampNat 100000 262143 a.ref
  { ref := ref
    eMin := clampNat 0 (ref - 1) a.eMin
    guard := clampNat 32 1024 a.guard
    wt := clampNat 1 1023 a.wt
    wu := clampNat 16 4095 a.wu
    exponent := clampNat 4 12 a.exponent
    closeCode := clampNat 0 3 a.closeCode
    hush := clampNat 1 65535 a.hush }

/-- What SET LINE does (R21). -/
def actSetLine (q : Request) (s : State) : Answer :=
  match s.line.state with
  | .dark =>
    let asked := lineSettingsAsked q.body
    let stored := asked.clamped
    .plain { s with line.settings := stored } (clampResult (stored != asked))
  | _ => .plain s .state

/-- SET_LINE (R21). -/
def execSetLine (s : State) : Host.Outcome State Fault Refusal := .next (s.handle 0x03 (exactly 18) actSetLine).chooseAgain

/-! ## SET CYCLE LENGTH (R10) -/

/-- What SET CYCLE LENGTH does (R10). -/
def actSetCycleLength (q : Request) (s : State) : Answer :=
  let asked := beAt q.body 0 4
  let stored := clampNat 280000 400000 asked
  .plain { s with line.pendingLen := stored } (clampResult (stored != asked))

/-- SET_CYCLE_LENGTH (R10). -/
def execSetCycleLength (s : State) : Host.Outcome State Fault Refusal :=
  .next (s.handle 0x04 (exactly 4) actSetCycleLength).chooseAgain

/-! ## LIGHT LINE (R2) -/

/-- What LIGHT LINE does at tick `now` (R2). -/
def actLightLine (now : Tick) (_ : Request) (s : State) : Answer :=
  match s.line.state with
  | .dark => .plain (s.light now) .ok
  | _ => .plain s .state

/-- LIGHT_LINE (R2). -/
def execLightLine (now : Tick) (s : State) : Host.Outcome State Fault Refusal :=
  .next (s.handle 0x05 (exactly 0) (actLightLine now)).chooseAgain

/-! ## DARKEN LINE (R4) -/

/-- What DARKEN LINE does (R4, R5). -/
def actDarkenLine (_ : Request) (s : State) : Answer := .plain s.darken .ok

/-- DARKEN_LINE (R4). -/
def execDarkenLine (s : State) : Host.Outcome State Fault Refusal := .next (s.handle 0x06 (exactly 0) actDarkenLine).chooseAgain

end Sys2Proof.Machine
end

