-- ==== Sys2Proof/Machine/LinkCommands.lean ====
section
/-! DEFINITION. The meanings of the resets and of the control link's events (chapter 10). -/

namespace Sys2Proof.Machine

/-- POWER_ON_RESET (R179): every block takes its reset values and the straps are latched. -/
def execPowerOnReset (straps : BitVec 2) (s : State) : Host.Outcome State Fault Refusal :=
  .next (s.resetTo straps .powerOn)

/-- PIN_RESET (R179): as a power-on reset, with cause PIN. -/
def execPinReset (straps : BitVec 2) (s : State) : Host.Outcome State Fault Refusal :=
  .next (s.resetTo straps .pin)

/-- FRAME_RECEIVED (R170, R171): the bytes are taken one after the other. -/
def execFrameReceived (bytes : List RxByte) (s : State) : Host.Outcome State Fault Refusal :=
  .next (s.receiveBytes bytes)

/-- BYTE_RECEIVED (R170). -/
def execByteReceived (data : Byte) (stop : Bool) (s : State) : Host.Outcome State Fault Refusal :=
  .next (s.receiveByte data stop).chooseAgain

/-- GAP_EXPIRY (R170). -/
def execGapExpiry (s : State) : Host.Outcome State Fault Refusal := .next s.expireGap.chooseAgain

/-- FRAME_SENT (R174). -/
def execFrameSent (s : State) : Host.Outcome State Fault Refusal := .next s.endFrameSent

/-- RESTART_TAKES_EFFECT (R178). -/
def execRestartTakesEffect (s : State) : Host.Outcome State Fault Refusal := .next s.takeRestart

/-- UNKNOWN_REQUEST (R172). -/
def execUnknownRequest (s : State) : Host.Outcome State Fault Refusal := .next s.handleUnknown.chooseAgain

end Sys2Proof.Machine
end

