-- ==== Sys2Proof/Machine/RosterRequests.lean ====
section
/-! DEFINITION. The requests on profiles, admission and the three lists (11.4, 11.5). -/

namespace Sys2Proof.Machine

/-- The profile that a number names, if it lies from 0 to 7 (R48, R172). -/
def profileOfNum (n : Nat) : Option ProfileNo := if h : n < 8 then some ⟨n, h⟩ else none

/-! ## SET PROFILE and READ PROFILE (R48) -/

/-- The fields that a SET PROFILE body gives, before any clamp (12.3). -/
def profileAsked (bs : List Byte) : Profile :=
  { length := beAt bs 1 2, period := beAt bs 3 1, low := beSignedAt bs 4 2, high := beSignedAt bs 6 2,
    probes := beAt bs 8 1, spread := beAt bs 9 1, missLimit := beAt bs 10 1, grace := beAt bs 11 2,
    interval := beAt bs 13 1, threshold := beAt bs 14 1, parkHold := beAt bs 15 2 }

/-- Each field clamped to its range (R48). -/
def Profile.clamped (a : Profile) : Profile :=
  { length := clampNat 192 32768 a.length
    period := clampNat 1 16 a.period
    low := clampInt (-600) 100 a.low
    high := clampInt (-600) 100 a.high
    probes := clampNat 1 8 a.probes
    spread := clampNat 0 255 a.spread
    missLimit := clampNat 1 15 a.missLimit
    grace := clampNat 1 4095 a.grace
    interval := clampNat 1 255 a.interval
    threshold := clampNat 1 255 a.threshold
    parkHold := clampNat 0 65535 a.parkHold }

/-- What SET PROFILE does (R48). -/
def actSetProfile (q : Request) (s : State) : Answer :=
  match profileOfNum (beAt q.body 0 1) with
  | none => .plain s .range
  | some n =>
    let asked := profileAsked q.body
    let stored := asked.clamped
    .plain { s with roster.profiles := s.roster.profiles.set n stored } (clampResult (stored != asked))

/-- SET_PROFILE (R48). -/
def execSetProfile (s : State) : Host.Outcome State Fault Refusal := .next (s.handle 0x07 (exactly 17) actSetProfile).chooseAgain

/-- What READ PROFILE answers (R48). -/
def actReadProfile (q : Request) (s : State) : Answer :=
  match profileOfNum (beAt q.body 0 1) with
  | none => .plain s .range
  | some n => { state := s, result := .ok, body := byteOf n.val :: (s.roster.profiles.get n).bytes }

/-- READ_PROFILE (R48). -/
def execReadProfile (s : State) : Host.Outcome State Fault Refusal := .next (s.handle 0x08 (exactly 1) actReadProfile).chooseAgain

/-! ## SET ADMISSION (R47) -/

/-- Some expected-list entry's tag lies from `low` to `high` (R47). -/
def Roster.poolConflict (r : Roster) (low high : Nat) : Bool :=
  r.expected.any fun e => low ≤ tagNum e.tag && tagNum e.tag ≤ high

/-- The pool bounds are tags in order (R47). -/
def poolBoundsOk (low high : Nat) : Bool := 1 ≤ low && low ≤ high && high ≤ 128

/-- What SET ADMISSION does (R47). -/
def actSetAdmission (q : Request) (s : State) : Answer :=
  let low := beAt q.body 1 1
  let high := beAt q.body 2 1
  match admissionModeOf (beAt q.body 0 1), profileOfNum (beAt q.body 3 1) with
  | some mode, some profile =>
    if !poolBoundsOk low high then .plain s .range
    else if mode = .mixed ∧ s.roster.poolConflict low high then .plain s .conflict
    else
      .plain
        { s with
          roster.mode := mode
          roster.poolLow := low
          roster.poolHigh := high
          roster.openProfile := profile } .ok
  | _, _ => .plain s .range

/-- SET_ADMISSION (R47). -/
def execSetAdmission (s : State) : Host.Outcome State Fault Refusal :=
  .next (s.handle 0x09 (exactly 4) actSetAdmission).chooseAgain

/-! ## LOAD EXPECTED (R41) -/

/-- A body of 1 to 20 entries of 6 bytes (R41, 12.3). -/
def loadLengthOk (n : Nat) : Bool := n % 6 == 0 && 6 ≤ n && n ≤ 120

/-- The entry with its checks in order: the first that fails gives the result; otherwise the entry joins the list and the
record of its tag, where it holds the same serial, becomes listed with the entry's profile (R41). -/
def State.loadEntry (s : State) (serial : Serial) (tagByte profileByte : Nat) : State × Result :=
  let r := s.roster
  match tagOfNum tagByte, profileOfNum profileByte with
  | some t, some profile =>
    if 128 ≤ r.expected.length then (s, .full)
    else if r.expected.any (fun e => e.serial == serial) then (s, .conflict)
    else if r.reserved t then (s, .conflict)
    else if r.mode = .mixed ∧ r.poolLow ≤ tagByte ∧ tagByte ≤ r.poolHigh then (s, .conflict)
    else if (s.term t).any (fun h => h.serial != serial) then (s, .conflict)
    else if allTags.any (fun u => u != t && (s.term u).any fun h => h.serial == serial) then (s, .conflict)
    else
      let s1 := { s with roster.expected := r.expected ++ [⟨serial, t, profile⟩] }
      match s.term t with
      | some h => (s1.putTerm t (some { h with listed := true, profile := profile }), .ok)
      | none => (s1, .ok)
  | _, _ => (s, .range)

/-- The first `n` entries of a body are taken one at a time, each with a result of its own (R41). -/
def State.loadEntries : Nat → List Byte → State → State × List Byte
  | 0, _, s => (s, [])
  | n + 1, bs, s =>
    let (s1, r) := s.loadEntry (serialAt bs 0) (beAt bs 4 1) (beAt bs 5 1)
    let (s2, rest) := State.loadEntries n (bs.drop 6) s1
    (s2, r.code :: rest)

/-- What LOAD EXPECTED does (R41). -/
def actLoadExpected (q : Request) (s : State) : Answer :=
  let (s1, results) := State.loadEntries (q.body.length / 6) q.body s
  { state := s1, result := .ok, body := results }

/-- LOAD_EXPECTED (R41). -/
def execLoadExpected (s : State) : Host.Outcome State Fault Refusal := .next (s.handle 0x0A loadLengthOk actLoadExpected).chooseAgain

/-! ## DROP EXPECTED (R42) -/

/-- The record that holds the serial, if any, is no longer listed, with no change noted (R42). -/
def State.unlist (s : State) (serial : Serial) : State :=
  match s.roster.holderOf serial with
  | none => s
  | some t => s.putTerm t ((s.term t).map fun h => { h with listed := false })

/-- What DROP EXPECTED does (R42). -/
def actDropExpected (q : Request) (s : State) : Answer :=
  let serial := serialAt q.body 0
  match s.roster.entryOf serial with
  | none => .plain s .absent
  | some _ =>
    .plain ({ s with roster.expected := s.roster.expected.filter fun e => e.serial != serial }.unlist serial) .ok

/-- DROP_EXPECTED (R42). -/
def execDropExpected (s : State) : Host.Outcome State Fault Refusal :=
  .next (s.handle 0x0B (exactly 4) actDropExpected).chooseAgain

/-! ## READ EXPECTED (R183) -/

/-- What READ EXPECTED answers (R183). -/
def actReadExpected (q : Request) (s : State) : Answer :=
  let start := beAt q.body 0 1
  let count := beAt q.body 1 1
  let entries := s.roster.expected
  if 127 < start then .plain s .range
  else
    let shown := (entries.drop start).take (min count 40)
    { state := s, result := .ok,
      body := [byteOf entries.length, byteOf start, byteOf shown.length] ++ shown.flatMap Expected.bytes }

/-- READ_EXPECTED (R183). -/
def execReadExpected (s : State) : Host.Outcome State Fault Refusal :=
  .next (s.handle 0x0C (exactly 2) actReadExpected).chooseAgain

/-! ## BAR SERIAL and LIFT BAR (R43, R44) -/

/-- The record that holds a newly barred serial, if any, is released, with a STAND DOWN in every state (R43). -/
def State.expel (s : State) (serial : Serial) : State :=
  match s.roster.holderOf serial with
  | none => s
  | some t =>
    match s.term t with
    | none => s
    | some h => (s.freeRecord t h).standDown t .released

/-- What BAR SERIAL does (R43). -/
def actBarSerial (q : Request) (s : State) : Answer :=
  let serial := serialAt q.body 0
  if s.roster.barred.contains serial then .plain s .ok
  else if 16 ≤ s.roster.barred.length then .plain s .full
  else .plain ({ s with roster.barred := s.roster.barred ++ [serial] }.expel serial) .ok

/-- BAR_SERIAL (R43). -/
def execBarSerial (s : State) : Host.Outcome State Fault Refusal := .next (s.handle 0x0D (exactly 4) actBarSerial).chooseAgain

/-- What LIFT BAR does (R44). -/
def actLiftBar (q : Request) (s : State) : Answer :=
  let serial := serialAt q.body 0
  if s.roster.barred.contains serial then
    .plain { s with roster.barred := s.roster.barred.filter fun x => x != serial } .ok
  else .plain s .absent

/-- LIFT_BAR (R44). -/
def execLiftBar (s : State) : Host.Outcome State Fault Refusal := .next (s.handle 0x0E (exactly 4) actLiftBar).chooseAgain

/-! ## READ STRANGERS (R46) -/

/-- The stranger list emptied and its flag cleared (R46). -/
def State.clearStrangers (s : State) : State := { s with roster.strangers := [], roster.overflowed := false }

/-- What READ STRANGERS answers, and with option 1 clears, also where the quiet flag withholds the reply (R46, 11.5.6). -/
def actReadStrangers (q : Request) (s : State) : Answer :=
  let option := beAt q.body 0 1
  if 1 < option then .plain s .range
  else
    { state := if option = 1 then s.clearStrangers else s, result := .ok,
      body := [boolByte s.roster.overflowed, byteOf s.roster.strangers.length]
        ++ s.roster.strangers.flatMap Stranger.bytes }

/-- READ_STRANGERS (R46). -/
def execReadStrangers (s : State) : Host.Outcome State Fault Refusal :=
  .next (s.handle 0x0F (exactly 1) actReadStrangers).chooseAgain

end Sys2Proof.Machine
end

