-- ==== Sys2Proof/Machine/TerminalRequests.lean ====
section
/-! DEFINITION. The requests on terminal records (11.7). -/

namespace Sys2Proof.Machine

/-- The tag that a one-byte body names (R172). -/
def tagAsked (q : Request) : Option Tag := tagOfNum (beAt q.body 0 1)

/-! ## READ TERMINAL (R184, R185) -/

/-- DRIFT_SAT and TRIM_LIMIT cleared (R185). -/
def RecFlags.clearSticky (f : RecFlags) : RecFlags := { f with driftSat := false, trimLimit := false }

/-- A reported DRIFT_SAT or TRIM_LIMIT is cleared, which is one change of the record (R185). -/
def State.clearSticky (s : State) (t : Tag) : State :=
  s.changeTerm t ((s.term t).map fun h => { h with flags := h.flags.clearSticky })

/-- What READ TERMINAL answers; a quiet request offers no reply and clears no flag (R184, R185). -/
def actReadTerminal (q : Request) (s : State) : Answer :=
  match tagAsked q with
  | none => .plain s .range
  | some t => { state := if q.quiet then s else s.clearSticky t, result := .ok, body := s.recordBytes t }

/-- READ_TERMINAL (R184). -/
def execReadTerminal (s : State) : Host.Outcome State Fault Refusal :=
  .next (s.handle 0x12 (exactly 1) actReadTerminal).chooseAgain

/-! ## READ ROSTER (R186) -/

/-- A record's byte in READ ROSTER: the state in bits 0 to 2, the pending flag in bit 7 (R186, 12.4); bits 3 to 6 are 0
(DESIGN CHOICE, log 34). -/
def State.rosterByte (s : State) (t : Tag) : Byte :=
  recordStateCode (s.term t) + if s.link.recFlags.get t then 0x80 else 0

/-- What READ ROSTER answers (R186). -/
def actReadRoster (_ : Request) (s : State) : Answer :=
  { state := s, result := .ok, body := allTags.map s.rosterByte }

/-- READ_ROSTER (R186). -/
def execReadRoster (s : State) : Host.Outcome State Fault Refusal := .next (s.handle 0x13 (exactly 0) actReadRoster).chooseAgain

/-! ## PARK TERMINAL (R37) -/

/-- The record of `t`, holding `h`, is parked by the host, and its terminal told to stand down (R37). -/
def State.hostPark (s : State) (t : Tag) (h : Terminal) : State :=
  ((s.detach t h).parkRecord t h .host 0).standDown t .host

/-- What PARK TERMINAL does (R37). -/
def actParkTerminal (q : Request) (s : State) : Answer :=
  match tagAsked q with
  | none => .plain s .range
  | some t =>
    match s.term t with
    | none => .plain s .state
    | some h => .plain (s.hostPark t h) .ok

/-- PARK_TERMINAL (R37). -/
def execParkTerminal (s : State) : Host.Outcome State Fault Refusal :=
  .next (s.handle 0x14 (exactly 1) actParkTerminal).chooseAgain

/-! ## RESUME TERMINAL (R38) -/

/-- The reason that a resumed record keeps: HOST becomes NONE (R38). -/
def Reason.resumed : Reason → Reason
  | .host => .noReason
  | other => other

/-- What RESUME TERMINAL does (R38). -/
def actResumeTerminal (q : Request) (s : State) : Answer :=
  match tagAsked q with
  | none => .plain s .range
  | some t =>
    match s.term t with
    | some h =>
      match h.phase with
      | .parked reason _ => .plain (s.parkRecord t h reason.resumed 0) .ok
      | _ => .plain s .state
    | none => .plain s .state

/-- RESUME_TERMINAL (R38). -/
def execResumeTerminal (s : State) : Host.Outcome State Fault Refusal :=
  .next (s.handle 0x15 (exactly 1) actResumeTerminal).chooseAgain

/-! ## RELEASE TERMINAL (R39) -/

/-- A release tells the terminal to stand down where the record is ENGAGED, ACTIVE or SILENT (R39). -/
def Phase.toldOnRelease : Phase → Bool
  | .engaged _ _ | .active _ | .silent _ _ _ => true
  | .heard | .parked _ _ => false

/-- What RELEASE TERMINAL does (R39). -/
def actReleaseTerminal (q : Request) (s : State) : Answer :=
  match tagAsked q with
  | none => .plain s .range
  | some t =>
    match s.term t with
    | none => .plain s .ok
    | some h =>
      let s1 := s.freeRecord t h
      .plain (if h.phase.toldOnRelease then s1.standDown t .released else s1) .ok

/-- RELEASE_TERMINAL (R39). -/
def execReleaseTerminal (s : State) : Host.Outcome State Fault Refusal :=
  .next (s.handle 0x16 (exactly 1) actReleaseTerminal).chooseAgain

end Sys2Proof.Machine
end

