-- ==== Sys2Proof/Machine/Dispatch.lean ====
section
/-! DEFINITION. One arm for each command. -/

namespace Sys2Proof.Machine

def exec (i : Instr) (s : State) : Host.Outcome State Fault Refusal :=
  match i with
  | .powerOnReset straps => Sys2Proof.Machine.execPowerOnReset straps s
  | .pinReset straps => Sys2Proof.Machine.execPinReset straps s
  | .frameReceived bytes => Sys2Proof.Machine.execFrameReceived bytes s
  | .gapExpiry => Sys2Proof.Machine.execGapExpiry s
  | .frameSent => Sys2Proof.Machine.execFrameSent s
  | .restartTakesEffect => Sys2Proof.Machine.execRestartTakesEffect s
  | .identify => Sys2Proof.Machine.execIdentify s
  | .readStatus => Sys2Proof.Machine.execReadStatus s
  | .setLine => Sys2Proof.Machine.execSetLine s
  | .setCycleLength => Sys2Proof.Machine.execSetCycleLength s
  | .lightLine now => Sys2Proof.Machine.execLightLine now s
  | .darkenLine => Sys2Proof.Machine.execDarkenLine s
  | .setProfile => Sys2Proof.Machine.execSetProfile s
  | .readProfile => Sys2Proof.Machine.execReadProfile s
  | .setAdmission => Sys2Proof.Machine.execSetAdmission s
  | .loadExpected => Sys2Proof.Machine.execLoadExpected s
  | .dropExpected => Sys2Proof.Machine.execDropExpected s
  | .readExpected => Sys2Proof.Machine.execReadExpected s
  | .barSerial => Sys2Proof.Machine.execBarSerial s
  | .liftBar => Sys2Proof.Machine.execLiftBar s
  | .readStrangers => Sys2Proof.Machine.execReadStrangers s
  | .startCensus => Sys2Proof.Machine.execStartCensus s
  | .stopCensus => Sys2Proof.Machine.execStopCensus s
  | .readTerminal => Sys2Proof.Machine.execReadTerminal s
  | .readRoster => Sys2Proof.Machine.execReadRoster s
  | .parkTerminal => Sys2Proof.Machine.execParkTerminal s
  | .resumeTerminal => Sys2Proof.Machine.execResumeTerminal s
  | .releaseTerminal => Sys2Proof.Machine.execReleaseTerminal s
  | .setConverter => Sys2Proof.Machine.execSetConverter s
  | .setCurve => Sys2Proof.Machine.execSetCurve s
  | .readCurve => Sys2Proof.Machine.execReadCurve s
  | .calibrate => Sys2Proof.Machine.execCalibrate s
  | .setNoticeMask => Sys2Proof.Machine.execSetNoticeMask s
  | .restart => Sys2Proof.Machine.execRestart s
  | .cycleStart => Sys2Proof.Machine.execCycleStart s
  | .warmupEnd => Sys2Proof.Machine.execWarmupEnd s
  | .drainingEnd => Sys2Proof.Machine.execDrainingEnd s
  | .graceExpiry tag => Sys2Proof.Machine.execGraceExpiry tag s
  | .planClose => Sys2Proof.Machine.execPlanClose s
  | .burstReport arrival header check overlap taken => Sys2Proof.Machine.execBurstReport arrival header check overlap taken s
  | .windowClose => Sys2Proof.Machine.execWindowClose s
  | .frameEnd => Sys2Proof.Machine.execFrameEnd s
  | .darkSlotStart => Sys2Proof.Machine.execDarkSlotStart s
  | .sampleWindowEnd => Sys2Proof.Machine.execSampleWindowEnd s
  | .conversionEnd raw => Sys2Proof.Machine.execConversionEnd raw s
  | .byteReceived data stop => Sys2Proof.Machine.execByteReceived data stop s
  | .unknownRequest => Sys2Proof.Machine.execUnknownRequest s

end Sys2Proof.Machine
end

