-- ==== Sys2Proof/Machine/Step.lean ====
section
/-! DEFINITION. One step: the command at the front of the queue, or one tick where none waits. -/

namespace Sys2Proof.Machine

/-- No command waits: the tick counter goes up by one and nothing else changes (R8; log 2), but that a transmitter which
a reset has left BETWEEN_FRAMES chooses (R174, log 8). -/
def State.idleTick (s : State) : State := { s with line.tick := s.line.tick + 1 }.chooseAgain

/-- The command at the front of the queue acts on the part with the rest of the queue; with no command, one tick passes
(log 1, log 2). -/
def step (s : State) : Host.Outcome State Fault Refusal :=
  match s.pending with
  | [] => .next s.idleTick
  | c :: rest => exec c { s with pending := rest }

/-- The state with the command that a word spells put at the front of its queue; unchanged where it spells none. -/
def State.withFetchWord (s : State) (nbits w : Nat) : State :=
  match decodeTableWord nbits w with
  | some c => { s with pending := c :: s.pending }
  | none => s

end Sys2Proof.Machine
end

