-- ==== Sys2Proof/Safety.lean ====
section
/-! DEFINITION. What a sound state of the part is: the bounds and the agreements that the spec promises of its lists, its counts, its settings and its blocks. -/

namespace Sys2Proof.Machine

/-! ## Capacities -/

/-- Every queue and list is within the size the spec gives it (R13, R40, R43, R45, R67, R77, R86, R171, R174). -/
structure State.Capacities (s : State) : Prop where
  notices : s.line.notices.length ≤ 16
  shots : s.planner.shots.length ≤ 8
  inbound : s.link.inbound.length ≤ 4
  outbound : s.link.outbound.length ≤ 8
  expected : s.roster.expected.length ≤ 128
  barred : s.roster.barred.length ≤ 16
  strangers : s.roster.strangers.length ≤ 16
  store : s.intake.store.length ≤ 2
  darkStore : s.line.state = .dark → s.intake.store = []
  grants : ∀ p ∈ s.planner.built, p.grants.length ≤ 64
  head : ∀ h ∈ s.line.head, h.grants.length ≤ 64 ∧ h.notices.length ≤ 8

/-! ## The line and its next cycle -/

/-- The line, its cycle, and what is assembled for the next one agree (R1, R2, R4, R9, R12, R65, R86): the transmitter is
enabled and a cycle runs exactly while the line is lit; head and plan are held together, only after the plan close, and
for the next cycle; the newest stored plan is the plan of the cycle in progress. -/
structure State.LineShape (s : State) : Prop where
  enable : s.line.txEnable = s.lit
  cycle : s.line.cycle.isSome = s.lit
  paired : s.line.head.map Head.cycle = s.planner.built.map Plan.cycle
  next : ∀ p ∈ s.planner.built, ∃ c ∈ s.line.cycle, p.cycle = c.num + 1 ∧ c.next = some p.len
  newest : ∀ p ∈ s.intake.store.getLast?, ∃ c ∈ s.line.cycle, p.cycle = c.num ∧ p.start = c.start ∧ p.len = c.len

/-! ## Settings -/

/-- The line settings lie in their ranges (R21). -/
structure LineSettings.InRange (ls : LineSettings) : Prop where
  ref : 100000 ≤ ls.ref ∧ ls.ref ≤ 262143
  eMin : ls.eMin ≤ ls.ref - 1
  guard : 32 ≤ ls.guard ∧ ls.guard ≤ 1024
  wt : 1 ≤ ls.wt ∧ ls.wt ≤ 1023
  wu : 16 ≤ ls.wu ∧ ls.wu ≤ 4095
  exponent : 4 ≤ ls.exponent ∧ ls.exponent ≤ 12
  closeCode : ls.closeCode ≤ 3
  hush : 1 ≤ ls.hush ∧ ls.hush ≤ 65535

/-- A profile's fields lie in their ranges (R48). -/
structure Profile.InRange (p : Profile) : Prop where
  length : 192 ≤ p.length ∧ p.length ≤ 32768
  period : 1 ≤ p.period ∧ p.period ≤ 16
  low : -600 ≤ p.low ∧ p.low ≤ 100
  high : -600 ≤ p.high ∧ p.high ≤ 100
  probes : 1 ≤ p.probes ∧ p.probes ≤ 8
  spread : p.spread ≤ 255
  missLimit : 1 ≤ p.missLimit ∧ p.missLimit ≤ 15
  grace : 1 ≤ p.grace ∧ p.grace ≤ 4095
  interval : 1 ≤ p.interval ∧ p.interval ≤ 255
  threshold : 1 ≤ p.threshold ∧ p.threshold ≤ 255
  parkHold : p.parkHold ≤ 65535

/-- A cycle length lies in its range (R10). -/
def cycleLengthOk (n : Nat) : Prop := 280000 ≤ n ∧ n ≤ 400000

/-- Every setting and every value latched from one lies in its range (R3, R10, R21, R47, R48, R102, R157 to R159, R162). -/
structure State.SettingsInRange (s : State) : Prop where
  line : s.line.settings.InRange
  pendingLen : cycleLengthOk s.line.pendingLen
  cycle : ∀ c ∈ s.line.cycle, cycleLengthOk c.len ∧ ∀ n ∈ c.next, cycleLengthOk n
  warmup : s.line.warmup ≤ 4096
  profiles : ∀ n, (s.roster.profiles.get n).InRange
  pool : 1 ≤ s.roster.poolLow ∧ s.roster.poolLow ≤ s.roster.poolHigh ∧ s.roster.poolHigh ≤ 128
  interval : 1 ≤ s.census.interval ∧ s.census.interval ≤ 255
  offset : -14 ≤ s.conv.offset ∧ s.conv.offset ≤ 14 ∧ s.conv.offset % 2 = 0
  curve : ∀ k, -600 ≤ s.conv.curve.get k ∧ s.conv.curve.get k ≤ 100
  calib : ∀ c ∈ s.conv.calib, c.target ≤ 4095 ∧ c.attempts ≤ 5 ∧ (c.phase = .waiting → c.attempts < 5)

/-! ## Counts -/

/-- The nine pass counters are within their cap (R114). -/
structure PassCounters.Capped (c : PassCounters) : Prop where
  gaps : c.gaps ≤ 65535
  garbled : c.garbled ≤ 65535
  heard : c.heard ≤ 65535
  admitted : c.admitted ≤ 65535
  refreshed : c.refreshed ≤ 65535
  ignored : c.ignored ≤ 65535
  hushed : c.hushed ≤ 65535
  strangers : c.strangers ≤ 65535
  ties : c.ties ≤ 65535

/-- The supervision counts are within the ranges of R23, with `missMax` the most misses of the record's state. -/
structure Service.Capped (v : Service) (missMax : Nat) : Prop where
  miss : v.miss ≤ missMax
  drift : -4096 ≤ v.drift ∧ v.drift ≤ 4095
  bursts : v.bursts ≤ 7
  levelOut : v.levelOut ≤ 3
  levelIn : v.levelIn ≤ 3
  corrupt : v.corrupt ≤ 255

/-- The counts of a record's phase are within their ranges (R23): an ACTIVE record has at most 14 misses, since 15 are at
every miss limit; a SILENT one has at most 15, and at most 4,095 cycles of grace. -/
def Phase.Capped : Phase → Prop
  | .active v => v.Capped 14
  | .silent v _ grace => v.Capped 15 ∧ grace ≤ 4095
  | .parked _ hold => hold ≤ 65535
  | _ => True

/-- The counts and lists of a lane in PROBE are within the ranges of R118: from 1 to 8 probes remain, at most 2 of them
extensions; the misses in a row stay below the 3, the mismatches below the 2, that end the lane (R128, R129); each echo has
used up a probe, so that there are at most N + 2, and no more levels than echoes (R127). -/
structure ProbeWork.Capped (p : ProbeWork) : Prop where
  count : 1 ≤ p.count ∧ p.count ≤ 8
  remaining : 1 ≤ p.remaining ∧ p.remaining ≤ 8
  extensions : p.extensions ≤ 2
  misses : p.misses ≤ 2
  mismatches : p.mismatches ≤ 1
  echoes : p.echoes.length + p.remaining ≤ p.count + p.extensions
  levels : p.levels.length ≤ p.echoes.length

/-- A lane's counts are within the ranges of R118: 1 to 3 attempts left in OFFER and 1 to 2 in TRIM, since the lane ends when
none is left (R125, R133); and it holds at most one line notice and one one-shot between them. -/
structure LaneWork.Capped (w : LaneWork) : Prop where
  stage : match w.stage with
    | .offer left => 1 ≤ left ∧ left ≤ 3
    | .probe p => p.Capped
    | .trim left _ => 1 ≤ left ∧ left ≤ 2
  posting : w.notice = .absent ∨ w.shot = .absent

/-- Every saturating or bounded count is within its range (R6, R7, R23, R24, R73, R75, R105, R112, R114, R118). -/
structure State.CountsCapped (s : State) : Prop where
  transitions : s.line.transitions ≤ 255
  drainLeft : s.line.drainLeft ≤ 4
  overruns : s.planner.overruns ≤ 65535
  sweep : s.planner.sweep ≤ 128
  wait : s.census.wait ≤ 255
  passes : s.census.passes ≤ 255
  counters : s.census.counters.Capped
  changes : ∀ t, (s.roster.records.get t).changes ≤ 255
  phases : ∀ t, ∀ h ∈ s.term t, h.phase.Capped
  lanes : ∀ i, ∀ w ∈ s.work i, w.Capped

/-! ## Outside RUNNING -/

/-- Outside RUNNING nothing that depends on the line is in flight, and every record is FREE or PARKED (R3, R5, R13, R78,
R82, R116, R137, R150, R166). -/
structure State.Quiet (s : State) : Prop where
  notices : s.line.notices = []
  shots : s.planner.shots = []
  admission : s.roster.admission = []
  waiting : s.roster.waiting = []
  lanes : ∀ i, s.work i = none
  supervisor : ∀ t, s.sup.get t = .empty
  records : ∀ t, ∀ h ∈ s.term t, h.park.isSome
  outstanding : s.census.outstanding = none
  calib : s.conv.calib = none
  slot : s.planner.slotWanted = false

/-- The part is quiet whenever the line is not RUNNING. -/
def State.QuietOffRunning (s : State) : Prop := s.line.state ≠ .running → s.Quiet

/-! ## The census -/

/-- The nodes on the stack, top first: their last bits rise strictly below the top, the top's is not above the next one's,
and all are below 32 but for a root that stands alone (R100, R101, R109). -/
structure stackOrdered (stack : List Node) : Prop where
  rising : (stack.tail.map Node.last).Pairwise (· < ·)
  top : ∀ n ∈ stack.head?, ∀ m ∈ stack.tail, n.last ≤ m.last
  below : (∀ n ∈ stack, n.last ≤ 31) ∨ ∃ n, stack = [n] ∧ n.last = 32

/-- A node's pattern has no bit outside its mask (R100, R102). -/
def Node.Masked (n : Node) : Prop := n.pattern &&& n.mask = n.pattern

/-- The census state agrees with its stack and its outstanding node (R100 to R112), and the stack holds at most 33 nodes
(R101). -/
structure State.CensusShape (s : State) : Prop where
  stopped : s.census.state = .stopped → s.census.stack = [] ∧ s.census.outstanding = none
  stopping : s.census.state = .stopping → s.census.stack = [] ∧ s.census.outstanding.isSome
  searching : s.census.state = .searching → s.census.stack ≠ [] ∨ s.census.outstanding.isSome
  ordered : stackOrdered s.census.stack
  outstanding : ∀ o ∈ s.census.outstanding,
    o.node.last ≤ 32 ∧ (s.census.stack.map Node.last).Pairwise (· < ·) ∧
      ∀ n ∈ s.census.stack, o.node.last ≤ n.last ∧ n.last ≤ 31
  depth : s.census.stack.length ≤ 33
  root : s.census.rootPattern &&& s.census.rootMask = s.census.rootPattern
  split : s.census.effective = s.census.splitSet &&& ~~~s.census.rootMask
  masked : ∀ n ∈ s.census.stack, n.Masked
  outMasked : ∀ o ∈ s.census.outstanding, o.node.Masked

/-! ## The roster's lists and the records -/

/-- The roster's lists and its records agree: no two records hold one serial (R25); the expected list repeats no serial
and no tag, and the record of an entry's tag is FREE or holds the entry's serial (R40); listed says whether an entry
holds the record's serial (R27, R41, R42); no record holds a barred serial (R43); in MIXED mode no reserved tag lies in
the pool (R41, R47); the admission queue holds the HEARD records, each once, so that its 128 places do (R30); the lists
repeat nothing. -/
structure State.RosterShape (s : State) : Prop where
  serials : ∀ t u, ∀ h ∈ s.term t, ∀ k ∈ s.term u, h.serial = k.serial → t = u
  entrySerials : (s.roster.expected.map Expected.serial).Nodup
  entryTags : (s.roster.expected.map Expected.tag).Nodup
  entryRecords : ∀ e ∈ s.roster.expected, ∀ h ∈ s.term e.tag, h.serial = e.serial
  listed : ∀ t, ∀ h ∈ s.term t, h.listed = (s.roster.entryOf h.serial).isSome
  barredOut : ∀ t, ∀ h ∈ s.term t, h.serial ∉ s.roster.barred
  barredOnce : s.roster.barred.Nodup
  strangersOnce : (s.roster.strangers.map Stranger.serial).Nodup
  mixedPool : s.roster.mode = .mixed → s.roster.poolConflict s.roster.poolLow s.roster.poolHigh = false
  admissionOnce : s.roster.admission.Nodup
  admissionFits : s.roster.admission.length ≤ 128
  admissionHeard : ∀ t, t ∈ s.roster.admission ↔ ∃ h ∈ s.term t, h.phase = .heard

/-- A lane's work names a tag exactly where that tag's record is ENGAGED to that lane (R118, R120, R135). -/
def State.LanesAgree (s : State) : Prop :=
  ∀ i t, (∃ w ∈ s.work i, w.tag = t) ↔ ∃ h ∈ s.term t, h.lane = some i

/-! ## Measures -/

/-- A level in tenths of a dBm lies in the range of every level (R159). -/
def levelInRange (v : Int) : Prop := -600 ≤ v ∧ v ≤ 100

/-- Echoes, hold-offs and levels lie in their ranges: a coarse echo from 0 to 262,143, and from E_min to Ref but where a
PARKED record has kept it from earlier settings (R52); E from E_min to Ref and H from 0 to Ref − E_min (R56, R57, R62); a
lane in TRIM has stored both (R131); every level, in a record and in a lane, from -600 to +100 (R131, R159). -/
structure State.MeasuresInRange (s : State) : Prop where
  coarse : ∀ t, ∀ h ∈ s.term t, 0 ≤ h.coarse ∧ h.coarse ≤ 262143 ∧
    (h.park = none → s.line.settings.eMin ≤ h.coarse ∧ h.coarse ≤ s.line.settings.ref)
  echo : ∀ t, ∀ h ∈ s.term t, ∀ x ∈ h.echoHold,
    s.line.settings.eMin ≤ x.echo ∧ x.echo ≤ s.line.settings.ref ∧ 0 ≤ x.holdoff ∧
      x.holdoff ≤ (s.line.settings.ref : Int) - s.line.settings.eMin
  trimmed : ∀ i, ∀ w ∈ s.work i, (∃ left last, w.stage = .trim left last) →
    ∀ h ∈ s.term w.tag, h.lane = some i → h.echoHold.isSome
  level : ∀ t, ∀ h ∈ s.term t, ∀ v ∈ h.level, levelInRange v
  sampled : ∀ i, ∀ w ∈ s.work i, (∀ p ∈ w.probing, ∀ v ∈ p.levels, levelInRange v) ∧
    ∀ v, w.held.answer = some (.level v) → levelInRange v

/-! ## Sound states -/

/-- A sound state: everything above at once. -/
structure State.Sound (s : State) : Prop where
  capacities : s.Capacities
  line : s.LineShape
  settings : s.SettingsInRange
  counts : s.CountsCapped
  quiet : s.QuietOffRunning
  census : s.CensusShape
  roster : s.RosterShape
  lanes : s.LanesAgree
  measures : s.MeasuresInRange

end Sys2Proof.Machine
end

