-- ==== Sys2Proof/Claims.lean ====
section
/-! DEFINITION. The words in which the statements about the commands are written: what the handler is offered, what it answers, and the requests as the tables of spec/12 list them. -/

namespace Sys2Proof.Machine

/-- The handler can take the request `q` of kind `kind` now, and `rest` stands behind it (R172). -/
structure State.Offers (s : State) (kind : Nat) (q : Request) (rest : List Request) : Prop where
  idle : s.link.handler = .idle
  room : s.link.outbound.length < 8
  head : s.link.inbound = q :: rest
  kind : q.kind.toNat = kind

/-- The reply that a request gets: none where its quiet flag is set and the result is OK or ACCEPTED (R173). -/
def repliesTo (q : Request) (r : Result) (body : List Byte) : List Reply :=
  if q.quiet = true ∧ (r = .ok ∨ r = .accepted) then []
  else [{ kind := q.kind, tag := q.tag, result := r, body := body }]

/-- `s` with the request `q` taken from the inbound queue, where `rest` is left, and answered; then a transmitter that is
between frames chooses, as at the end of every event (R174, log 8). -/
def State.answered (s : State) (q : Request) (rest : List Request) (r : Result) (body : List Byte) : State :=
  { s with
    link.inbound := rest
    link.outbound := s.link.outbound ++ repliesTo q r body }.chooseAgain

/-- `s` with the frame in reception abandoned: the receiver hunts, and the frame fault count goes up by one (R170). -/
def State.frameLost (s : State) : State := { s with link.rx := .hunt, link.faults := s.link.faults + 1 }

/-- A request as 12.3 lists it: the command that is the handler taking it, its kind code, and the body lengths that the
kind allows. -/
structure RequestRow where
  command : Instr
  kind : Nat
  lengths : List Nat

/-- The 28 requests of 12.3; LIGHT LINE is taken at tick `now`. -/
def requestTable (now : Tick) : List RequestRow :=
  [⟨.identify, 0x01, [0]⟩, ⟨.readStatus, 0x02, [0]⟩, ⟨.setLine, 0x03, [18]⟩, ⟨.setCycleLength, 0x04, [4]⟩,
   ⟨.lightLine now, 0x05, [0]⟩, ⟨.darkenLine, 0x06, [0]⟩, ⟨.setProfile, 0x07, [17]⟩, ⟨.readProfile, 0x08, [1]⟩,
   ⟨.setAdmission, 0x09, [4]⟩, ⟨.loadExpected, 0x0A, (List.range 20).map fun n => 6 * (n + 1)⟩,
   ⟨.dropExpected, 0x0B, [4]⟩, ⟨.readExpected, 0x0C, [2]⟩, ⟨.barSerial, 0x0D, [4]⟩, ⟨.liftBar, 0x0E, [4]⟩,
   ⟨.readStrangers, 0x0F, [1]⟩, ⟨.startCensus, 0x10, [14]⟩, ⟨.stopCensus, 0x11, [0]⟩, ⟨.readTerminal, 0x12, [1]⟩,
   ⟨.readRoster, 0x13, [0]⟩, ⟨.parkTerminal, 0x14, [1]⟩, ⟨.resumeTerminal, 0x15, [1]⟩, ⟨.releaseTerminal, 0x16, [1]⟩,
   ⟨.setConverter, 0x17, [3]⟩, ⟨.setCurve, 0x18, (List.range 33).map fun n => 1 + 2 * (n + 1)⟩, ⟨.readCurve, 0x19, [2]⟩,
   ⟨.calibrate, 0x1A, [2]⟩, ⟨.setNoticeMask, 0x1B, [1]⟩, ⟨.restart, 0x1C, [1]⟩]

/-- The results that refuse a request (R172). -/
def refusals : List Result := [.unknown, .length, .range, .state, .conflict, .full, .absent]

/-- The settings fit the fields of a SET LINE body (12.3). -/
def LineSettings.Sendable (a : LineSettings) : Prop :=
  a.ref < 2 ^ 32 ∧ a.eMin < 2 ^ 32 ∧ a.guard < 2 ^ 16 ∧ a.wt < 2 ^ 16 ∧ a.wu < 2 ^ 16 ∧ a.exponent < 256 ∧
    a.closeCode < 256 ∧ a.hush < 2 ^ 16

/-- A value fits a signed field of two bytes. -/
def fitsTwoBytes (v : Int) : Prop := -32768 ≤ v ∧ v ≤ 32767

/-- The fields fit those of a SET PROFILE body (12.3). -/
def Profile.Sendable (a : Profile) : Prop :=
  a.length < 2 ^ 16 ∧ a.period < 256 ∧ fitsTwoBytes a.low ∧ fitsTwoBytes a.high ∧ a.probes < 256 ∧ a.spread < 256 ∧
    a.missLimit < 256 ∧ a.grace < 2 ^ 16 ∧ a.interval < 256 ∧ a.threshold < 256 ∧ a.parkHold < 2 ^ 16

/-- The even value next to `v` that is nearer zero, or `v` itself, clamped to -14 to +14 (R158). -/
def storedOffset (v : Int) : Int := max (-14) (min 14 (2 * v.tdiv 2))

/-- A change of the record of `t` was noted once between `s` and `u`: its flag is pending, its count one higher, to at
most 255 (R24). -/
def notedOnce (s u : State) (t : Tag) : Prop :=
  u.link.recFlags.get t = true ∧
    (u.roster.records.get t).changes = min 255 ((s.roster.records.get t).changes + 1)

/-- No change of the record of `t` was noted between `s` and `u`. -/
def notNoted (s u : State) (t : Tag) : Prop :=
  u.link.recFlags.get t = s.link.recFlags.get t ∧
    (u.roster.records.get t).changes = (s.roster.records.get t).changes

/-- Every record but that of `t` holds in `u` what it held in `s`, with no change noted. -/
def sameOtherRecords (s u : State) (t : Tag) : Prop := ∀ f, f ≠ t → u.term f = s.term f ∧ notNoted s u f

/-- In RUNNING one posting of the Roster's, from `s` to `u`: at the tail of a queue with room, else behind those that wait
(R13). -/
def State.RosterPosts (s u : State) (body : NoticeBody) : Prop :=
  (s.line.notices.length < 16 →
    u.line.notices = s.line.notices ++ [⟨body, .roster⟩] ∧ u.roster.waiting = s.roster.waiting) ∧
  (16 ≤ s.line.notices.length →
    u.line.notices = s.line.notices ∧ u.roster.waiting = s.roster.waiting ++ [⟨body, .roster⟩])

/-- Nothing is posted into the line notice queue from `s` to `u`, and nothing more waits for it. -/
def State.PostsNothing (s u : State) : Prop :=
  u.line.notices = s.line.notices ∧ u.roster.waiting = s.roster.waiting

/-- Everything in the link but the two queues of requests and replies, and everything outside the blocks that a request
on one record touches, is as in `s`. -/
def sameElsewhere (s u : State) : Prop :=
  u.line.state = s.line.state ∧ u.line.tick = s.line.tick ∧ u.line.cycle = s.line.cycle ∧ u.line.head = s.line.head ∧
    u.line.settings = s.line.settings ∧ u.planner.built = s.planner.built ∧ u.intake = s.intake ∧ u.census = s.census ∧
    u.conv = s.conv ∧ u.link.kinds = s.link.kinds ∧ u.link.mask = s.link.mask ∧ u.link.tx = s.link.tx ∧
    u.link.rx = s.link.rx ∧ u.link.handler = s.link.handler ∧ u.roster.profiles = s.roster.profiles ∧
    u.roster.strangers = s.roster.strangers ∧ u.pending = s.pending

/-! ## The terminal record (12.4) -/

/-- The 57 bytes of the record of `g` as the table of 12.4 lays them out, each field at its offset and of its size, zeros
where it is absent, and the presence word's bits saying which are present (R184, R190). -/
structure State.RecordLayout (s : State) (g : Tag) (b : List Byte) : Prop where
  length : b.length = 57
  front : b.take 4 =
    [byteOf (tagNum g), recordStateCode (s.term g), byteOf (s.roster.records.get g).changes,
      ((s.term g).map fun h => h.flags.byte).getD 0]
  pending : b[27]? = some (boolByte (s.link.recFlags.get g))
  free : s.term g = none → (b.drop 4).take 23 = List.replicate 23 0 ∧ b.drop 28 = List.replicate 29 0
  terminal : ∀ h, s.term g = some h →
    (b.drop 8).take 10 = beBytes 4 h.serial.toNat ++ [boolByte h.listed, byteOf h.profile.val] ++ beBytes 4 h.coarse.toNat ∧
    (b.drop 21).take 2 = (match h.level with | some v => beSigned 2 v | none => [0, 0]) ∧
    (b.drop 42).take 2 = beBytes 2 h.heardCycle.toNat
  parked : ∀ h, s.term g = some h →
    (b.drop 18).take 3 =
      match h.phase with
      | .parked reason hold => reason.code :: beBytes 2 hold
      | _ => [0, 0, 0]
  echo : ∀ h, s.term g = some h →
    (∀ eh, h.echoHold = some eh →
      (b.drop 23).take 4 = beBytes 4 eh.holdoff.toNat ∧ (b.drop 28).take 4 = beBytes 4 eh.echo.toNat) ∧
    (h.echoHold = none → (b.drop 23).take 4 = [0, 0, 0, 0] ∧ (b.drop 28).take 4 = [0, 0, 0, 0])
  service : ∀ h, s.term g = some h →
    (∀ v, h.service = some v →
      (b.drop 32).take 8 = [byteOf v.miss] ++ beSigned 2 v.drift ++
        [byteOf v.bursts, byteOf v.levelOut, byteOf v.levelIn, byteOf v.corrupt,
          byteOf ((if v.nudgeOut then 1 else 0) + (if v.returnOut then 2 else 0))] ∧
      (b.drop 40).take 2 = (match v.nudgeCycle with | some c => beBytes 2 c.toNat | none => [0, 0]) ∧
      (b.drop 44).take 2 = beBytes 2 v.activeSince.toNat) ∧
    (h.service = none → (b.drop 32).take 10 = List.replicate 10 0 ∧ (b.drop 44).take 2 = [0, 0])
  silent : ∀ h, s.term g = some h →
    (b.drop 47).take 4 =
      match h.phase with
      | .silent _ since grace => beBytes 2 since.toNat ++ beBytes 2 grace
      | _ => [0, 0, 0, 0]
  engaged : ∀ h, s.term g = some h →
    (∀ i trim, h.phase = .engaged i trim → b[46]? = some (byteOf i.val) ∧
      (∀ w, s.work i = some w →
        b.drop 51 =
          match w.stage with
          | .offer left => [1, byteOf left, 0, 0, 0, 0]
          | .probe p => [2, 0, byteOf p.remaining, byteOf p.extensions, byteOf p.echoes.length, byteOf p.levels.length]
          | .trim left _ => [3, byteOf left, 0, 0, 0, 0])) ∧
    (h.lane = none → b[46]? = some 0 ∧ b.drop 51 = [0, 0, 0, 0, 0, 0])
  presence : ∃ word : BitVec 32, (b.drop 4).take 4 = beBytes 4 word.toNat ∧ ∀ k : Fin 32,
    (word.getLsbD k.val = true ↔
      (k.val ∈ [0, 1, 2, 3, 17] ∧ (s.term g).isSome = true) ∨
      (k.val ∈ [4, 5] ∧ ∃ h, s.term g = some h ∧ h.park.isSome = true) ∨
      (k.val = 6 ∧ ∃ h, s.term g = some h ∧ h.level.isSome = true) ∨
      (k.val ∈ [7, 8] ∧ ∃ h, s.term g = some h ∧ h.echoHold.isSome = true) ∨
      (k.val ∈ [9, 10, 11, 12, 13, 14, 15, 18] ∧ ∃ h, s.term g = some h ∧ h.service.isSome = true) ∨
      (k.val = 16 ∧ ∃ h v, s.term g = some h ∧ h.service = some v ∧ v.nudgeCycle.isSome = true) ∨
      (k.val = 19 ∧ ∃ h, s.term g = some h ∧ h.lane.isSome = true) ∨
      (k.val ∈ [20, 21] ∧ ∃ h, s.term g = some h ∧ h.silence.isSome = true) ∨
      (k.val = 22 ∧ ∃ h i w, s.term g = some h ∧ h.lane = some i ∧ s.work i = some w) ∨
      (k.val = 23 ∧ ∃ h i w, s.term g = some h ∧ h.lane = some i ∧ s.work i = some w ∧ ∀ p, w.stage ≠ .probe p) ∨
      (k.val ∈ [24, 25, 26, 27] ∧ ∃ h i w p, s.term g = some h ∧ h.lane = some i ∧ s.work i = some w ∧ w.stage = .probe p))

/-! ## Notice bodies (12.5) -/

/-- The CALIBRATION body as the table of 12.5 lists it: what the last result holds, and zeros for what is absent (R165, R190). -/
def State.CalibrationLayout (s : State) (b : List Byte) : Prop :=
  (s.conv.lastCalib = none → b = [0, 0, 0, 0, 0, 0, 0, 0]) ∧
  ∀ x, s.conv.lastCalib = some x →
    b = ([if x.done then 0 else 1] : List Byte) ++ beBytes 2 x.target ++ [byteOf x.attempts] ++
      (match x.code with | some code => beBytes 2 code.toNat | none => [0, 0]) ++
      ([match x.cause with | none => 0 | some .busy => 1 | some .light => 2 | some .lineDown => 3] : List Byte) ++
      [BitVec.ofInt 8 x.offset]

/-- The CENSUS body as the table of 12.5 lists it: the census state, the last pass record with its counters, its last tie, and
the strangers, zeros for what is absent (R115, R190). -/
def State.CensusLayout (s : State) (b : List Byte) : Prop :=
  ∃ record tie : List Byte,
    b = ([match s.census.state with | .stopped => 0 | .searching => 1 | .stopping => 2] : List Byte) ++ record ++ tie ++
      [byteOf s.census.passes, byteOf s.roster.strangers.length, boolByte s.roster.overflowed] ∧
    (s.census.lastPass = none → record = List.replicate 22 0 ∧ tie = List.replicate 11 0) ∧
    ∀ x, s.census.lastPass = some x →
      record = ([1, match x.kind with | .complete => 0 | .stopped => 1 | .lineDown => 2] : List Byte) ++
        beBytes 2 x.cycle.toNat ++
        beBytes 2 x.counters.gaps ++ beBytes 2 x.counters.garbled ++ beBytes 2 x.counters.heard ++
        beBytes 2 x.counters.admitted ++ beBytes 2 x.counters.refreshed ++ beBytes 2 x.counters.ignored ++
        beBytes 2 x.counters.hushed ++ beBytes 2 x.counters.strangers ++ beBytes 2 x.counters.ties ∧
      (x.tie = none → tie = List.replicate 11 0) ∧
      ∀ y, x.tie = some y →
        tie = [1] ++ beBytes 4 y.pattern.toNat ++ beBytes 4 y.mask.toNat ++ beBytes 2 y.cycle.toNat

/-- The PLAN body as the table of 12.5 lists it (R73, R190). -/
def State.PlanLayout (s : State) (b : List Byte) : Prop :=
  b = beBytes 2 s.planner.overruns ++
    match s.planner.lastOverrun with
    | some c => 1 :: beBytes 2 c.toNat
    | none => [0, 0, 0]

/-! ## The cycle head (R191) -/

/-- The 15 bytes of a grant entry of a head, as the table of 12.6 lists them, low bytes first (R191). A start from 0 to
2^20 − 1 is what its 20 bits hold. -/
structure GrantEntry (g : Grant) (b : List Byte) : Prop where
  length : b.length = 15
  kind : b[0]? = some
    (match g.kind with
     | .census => 0 | .offerReply => 1 | .probe => 2 | .trimCheck => 3 | .ret => 4 | .standing => 5 : Byte)
  tag : (g.kind = .census → b[1]? = some 255) ∧
    ∀ t, g.kind ≠ .census → g.tag = some t → b[1]? = some (byteOf (tagNum t))
  start : 0 ≤ g.start → g.start < 2 ^ 20 →
    (b.drop 2).take 3 = leBytes 3 (g.start.toNat + if g.seq then 2 ^ 23 else 0)
  standing : (b.drop 5).take 2 = if g.kind = .standing then leBytes 2 g.length else [0, 0]
  pattern : (b.drop 7).take 4 = if g.kind = .census then leBytes 4 g.pattern.toNat else [0, 0, 0, 0]
  mask : b.drop 11 = if g.kind = .census then leBytes 4 g.mask.toNat else [0, 0, 0, 0]

/-- The 9 bytes of a line notice entry of a head, as the table of 12.6 lists them: the kind, the address and the value, low
bytes first (R191). -/
def NoticeEntry (n : NoticeBody) (b : List Byte) : Prop :=
  match n with
  | .tagOffer serial t => b = [1] ++ leBytes 4 serial.toNat ++ [byteOf (tagNum t), 0, 0, 0]
  | .holdoff t value => b = [2, byteOf (tagNum t), 0, 0, 0] ++ leBytes 4 value.toNat
  | .nudge t delta => b = [3, byteOf (tagNum t), 0, 0, 0] ++ leBytes 4 (BitVec.ofInt 32 delta).toNat
  | .standDown (some t) reason => b = [4, byteOf (tagNum t), 0, 0, 0, reason.code, 0, 0, 0]
  | .standDown none reason => b = [4, 255, 0, 0, 0, reason.code, 0, 0, 0]
  | .hush serial cycles => b = [5] ++ leBytes 4 serial.toNat ++ leBytes 4 cycles

/-- The bytes of a head as 12.6 lays them out: 7 + 15g + 9n of them, with the cycle number, the flags, the two counts, the
grants in placement order, the line notices in the order taken, and the check over all before it, low byte first (R191).
Bits 1 to 7 of the flags byte are log 35. -/
structure HeadLayout (h : Head) (b : List Byte) : Prop where
  length : b.length = 7 + 15 * h.grants.length + 9 * h.notices.length
  front : b.take 5 = leBytes 2 h.cycle.toNat ++
    [if h.draining then 1 else 0, byteOf h.grants.length, byteOf h.notices.length]
  grants : ∀ (k : Nat) g, h.grants[k]? = some g → GrantEntry g ((b.drop (5 + 15 * k)).take 15)
  notices : ∀ (k : Nat) n, h.notices[k]? = some n →
    NoticeEntry n.body ((b.drop (5 + 15 * h.grants.length + 9 * k)).take 9)
  check : b.drop (b.length - 2) = leBytes 2 (crcOf (b.take (b.length - 2))).toNat

/-! ## The expected list (R41) -/

/-- An entry of LOAD EXPECTED in conflict with what `s` holds: its serial or its tag has an entry, its tag lies in the open pool
of MIXED mode, the record of its tag holds another serial, or another record holds its serial (R41). -/
def State.EntryConflicts (s : State) (serial : Serial) (t : Tag) : Prop :=
  (∃ e ∈ s.roster.expected, e.serial = serial ∨ e.tag = t) ∨
    (s.roster.mode = .mixed ∧ s.roster.poolLow ≤ tagNum t ∧ tagNum t ≤ s.roster.poolHigh) ∨
    (∃ h, s.term t = some h ∧ h.serial ≠ serial) ∨ (∃ u h, u ≠ t ∧ s.term u = some h ∧ h.serial = serial)

/-- What an entry of LOAD EXPECTED is answered when it is judged against `s`, and the state that it leaves: the first check
that fails gives the result and nothing changes; an accepted entry joins the tail of the list, and the record of its tag, if
any, is listed with its profile (R41). -/
inductive State.EntryJudged (s : State) (serial : Serial) (tb pb : Byte) : Byte → State → Prop
  | range : tb.toNat = 0 ∨ 128 < tb.toNat ∨ 7 < pb.toNat → s.EntryJudged serial tb pb 0x13 s
  | full (t : Tag) (profile : ProfileNo) : tb = byteOf (tagNum t) → pb = byteOf profile.val →
      128 ≤ s.roster.expected.length → s.EntryJudged serial tb pb 0x16 s
  | conflict (t : Tag) (profile : ProfileNo) : tb = byteOf (tagNum t) → pb = byteOf profile.val →
      s.roster.expected.length < 128 → s.EntryConflicts serial t → s.EntryJudged serial tb pb 0x15 s
  | accepted (t : Tag) (profile : ProfileNo) (u : State) : tb = byteOf (tagNum t) → pb = byteOf profile.val →
      s.roster.expected.length < 128 → ¬s.EntryConflicts serial t →
      u.roster.expected = s.roster.expected ++ [{ serial := serial, tag := t, profile := profile }] →
      u.term t = (s.term t).map (fun h => { h with listed := true, profile := profile }) →
      (∀ g, g ≠ t → u.term g = s.term g) →
      (∀ g, (u.roster.records.get g).changes = (s.roster.records.get g).changes) →
      { u with roster.expected := s.roster.expected, roster.records := s.roster.records } = s →
      s.EntryJudged serial tb pb 0x00 u

/-- The entries of a LOAD EXPECTED are judged one after the other, each against the state that those before it leave (R41). -/
inductive EntriesJudged : State → List (Serial × Byte × Byte) → List Byte → State → Prop
  | none (s : State) : EntriesJudged s [] [] s
  | more {s u v : State} {e : Serial × Byte × Byte} {entries : List (Serial × Byte × Byte)} {r : Byte}
      {results : List Byte} : s.EntryJudged e.1 e.2.1 e.2.2 r u → EntriesJudged u entries results v →
      EntriesJudged s (e :: entries) (r :: results) v

/-! ## Windows (R86, R87, R96) -/

/-- The window `w`, at place `j` of the earliest stored plan, is the next to close: the first that is not CLOSED (R96). -/
structure State.NextToClose (s : State) (plan : StoredPlan) (rest : List StoredPlan) (j : Nat) (w : Window) : Prop where
  store : s.intake.store = plan :: rest
  window : plan.windows[j]? = some w
  unclosed : w.state ≠ .closed
  first : ∀ k v, k < j → plan.windows[k]? = some v → v.state = .closed

/-- A burst that arrives at tick `arrival` falls in the frame of the plan at place `k` of the store, at frame position
`pos`: the distance from the plan's start plus Ref, modulo 2^32, is below the plan's length (R87). -/
structure State.InFrame (s : State) (arrival : Tick) (k : Nat) (plan : StoredPlan) (pos : Nat) : Prop where
  stored : s.intake.store[k]? = some plan
  position : pos = (arrival - (plan.start + BitVec.ofNat 32 s.line.settings.ref)).toNat
  inside : pos < plan.len
  first : ∀ (i : Nat) (p : StoredPlan), i < k → s.intake.store[i]? = some p →
    p.len ≤ (arrival - (p.start + BitVec.ofNat 32 s.line.settings.ref)).toNat

/-- The position lies in the occupancy of the window's grant (R87). -/
def Window.Covers (w : Window) (pos : Nat) : Prop := w.grant.first ≤ pos ∧ pos < w.grant.stop

/-- A burst that arrives at tick `arrival` lands in the window `w`, at place `j` of that plan (R87). -/
structure State.Lands (s : State) (arrival : Tick) (k : Nat) (plan : StoredPlan) (pos j : Nat) (w : Window) : Prop where
  frame : s.InFrame arrival k plan pos
  window : plan.windows[j]? = some w
  covers : w.Covers pos
  first : ∀ i v, i < j → plan.windows[i]? = some v → ¬v.Covers pos

/-- The burst's span meets the plan's dark slot (R94). -/
def StoredPlan.slotMet (plan : StoredPlan) (pos length : Nat) : Prop :=
  ∃ x, plan.slot = some x ∧ pos < x.stop ∧ x.first < pos + length

/-- The kind that a kind code names, and UNKNOWN for every code outside 1 to 6 (R192, 12.7). -/
inductive NamesKind : Byte → BurstKind → Prop
  | censusReply : NamesKind 1 .censusReply
  | tagAck : NamesKind 2 .tagAck
  | echo : NamesKind 3 .echo
  | trimAck : NamesKind 4 .trimAck
  | ret : NamesKind 5 .ret
  | standing : NamesKind 6 .standing
  | unknown (code : Byte) : code.toNat = 0 ∨ 6 < code.toNat → NamesKind code .unknown

/-- The report `r` is what the receiver reads from the 12 bytes of a burst header, low bytes first: the kind; the serial of a
CENSUS REPLY, the tag byte of every other kind; the declared length, where 0 gives length 1 with the check failed; the three
status bits; the serial echo of a TAG ACK alone (R192, 12.7). -/
structure ReadsHeader (arrival : Tick) (code a0 a1 a2 a3 l0 l1 status e0 e1 e2 e3 : Byte) (check overlap : Bool)
    (r : Report) : Prop where
  arrival : r.arrival = arrival ∧ r.overlap = overlap
  kind : NamesKind code r.kind
  address : (code = 1 → r.address = .serial (a3 ++ a2 ++ a1 ++ a0)) ∧ (code ≠ 1 → r.address = .tag a0)
  length : (l0 = 0 → l1 = 0 → r.length = 1 ∧ r.check = false) ∧
    (l0 ≠ 0 ∨ l1 ≠ 0 → r.length = l0.toNat + 256 * l1.toNat ∧ r.check = check)
  status : r.seq = status.getLsbD 0 ∧ r.powerFailing = status.getLsbD 1 ∧ r.rxLow = status.getLsbD 2
  echoed : (code = 2 → r.serialEcho = some (e3 ++ e2 ++ e1 ++ e0)) ∧ (code ≠ 2 → r.serialEcho = none)

/-- The burst carries the grant's tag as its address (R89). -/
def Report.carriesTag (r : Report) (g : Grant) : Prop := ∃ t, g.tag = some t ∧ r.address = .tag (byteOf (tagNum t))

/-- What a matched burst is judged as: a failed check or an overlap is CORRUPT, then a kind or a tag that the grant does not
ask for, then an end behind the occupancy is OVERLONG (R89). -/
inductive Judged (r : Report) (g : Grant) (pos : Nat) : Quality → Prop
  | broken : r.check = false ∨ r.overlap = true → Judged r g pos .corrupt
  | foreign : r.check = true → r.overlap = false → (r.kind ≠ g.kind.burst ∨ ¬r.carriesTag g) → Judged r g pos .corrupt
  | long : r.check = true → r.overlap = false → r.kind = g.kind.burst → r.carriesTag g → g.stop < pos + r.length →
      Judged r g pos .overlong
  | good : r.check = true → r.overlap = false → r.kind = g.kind.burst → r.carriesTag g → pos + r.length ≤ g.stop →
      Judged r g pos .clean

/-- The burst result that the owner of the grant receives: its fields as R90 lists them; the status flags are valid where
the burst is clean and of the grant's tag, and a capture is asked for a CLEAN burst of a marked grant (R89 to R91). -/
structure ResultOf (r : Report) (g : Grant) (cycle : CycleNo) (pos : Nat) (x : BurstResult) : Prop where
  grant : x.grant = g ∧ x.cycle = cycle
  position : x.position = pos ∧ x.length = r.length
  quality : Judged r g pos x.quality
  kind : x.kind = r.kind
  echoed : x.seq = r.seq ∧ x.serialEcho = r.serialEcho
  flags : x.powerFailing = r.powerFailing ∧ x.rxLow = r.rxLow
  valid : x.flagsValid = true ↔ r.check = true ∧ r.overlap = false ∧ r.carriesTag g
  capture : x.captureAsked = true ↔ x.quality = .clean ∧ g.capture = true

/-! ## Hearings (R26 to R29, R45) -/

/-- Between `s` and `u` a new serial is given the record of `g`: HEARD, with the serial, whether an entry lists it, its
profile, the coarse echo and the current cycle number, the flags clear and no level, which is one noted change; the tag
joins the tail of the admission queue, and the serial leaves the stranger list (R27). -/
structure State.Enrolls (s u : State) (g : Tag) (serial : Serial) (listed : Bool) (profile : ProfileNo) (coarse : Int) :
    Prop where
  record : u.term g = some
    { serial := serial, listed := listed, profile := profile, coarse := coarse, level := none,
      flags := { levelAlarm := false, rxLow := false, driftSat := false, trimLimit := false },
      heardCycle := s.cycleNo, phase := .heard }
  noted : notedOnce s u g
  others : sameOtherRecords s u g
  admission : u.roster.admission = s.roster.admission ++ [g]
  strangers : u.roster.strangers = s.roster.strangers.filter fun x => x.serial != serial
  notices : u.line.notices = s.line.notices ∧ u.roster.waiting = s.roster.waiting

/-- Between `s` and `u` no record, no admission and no entry of the stranger list changes, and a HUSH for so many cycles is
posted to the serial (R25, R26). -/
structure State.Hushes (s u : State) (serial : Serial) (cycles : Nat) : Prop where
  posted : s.RosterPosts u (.hush serial cycles)
  records : ∀ g, u.term g = s.term g ∧ notNoted s u g
  admission : u.roster.admission = s.roster.admission
  strangers : u.roster.strangers = s.roster.strangers ∧ u.roster.overflowed = s.roster.overflowed

/-- Between `s` and `u` a serial is refused as a stranger: hushed for the hush length, and entered once in the stranger list
with the reason and the current cycle number, or marked as an overflow of the list (R29, R45). -/
structure State.Refuses (s u : State) (serial : Serial) (reason : StrangerReason) : Prop where
  posted : s.RosterPosts u (.hush serial s.line.settings.hush)
  records : ∀ g, u.term g = s.term g ∧ notNoted s u g
  admission : u.roster.admission = s.roster.admission
  known : (∃ x ∈ s.roster.strangers, x.serial = serial) →
    u.roster.strangers = s.roster.strangers ∧ u.roster.overflowed = s.roster.overflowed
  entered : (∀ x ∈ s.roster.strangers, x.serial ≠ serial) → s.roster.strangers.length < 16 →
    u.roster.strangers = s.roster.strangers ++ [⟨serial, reason, s.cycleNo⟩] ∧
      u.roster.overflowed = s.roster.overflowed
  overflow : (∀ x ∈ s.roster.strangers, x.serial ≠ serial) → 16 ≤ s.roster.strangers.length →
    u.roster.strangers = s.roster.strangers ∧ u.roster.overflowed = true

/-! ## The census (R100, R108 to R110) -/

/-- What the close of the outstanding census window makes of the pass counters, the stack and the tie: nothing without
the garble mark; with it, a split on the highest bit of the effective split set below the node's last bit, zero-child on
top, or, where there is none, a tie (R108 to R110, R114). -/
inductive State.NodeSettles (s : State) (o : Outstanding) : Bool → PassCounters → List Node → Option Tie → Prop
  | quiet : s.NodeSettles o false s.census.counters s.census.stack s.census.tie
  | split (b : Nat) : b < o.node.last → s.census.effective.getLsbD b = true →
      (∀ x, b < x → x < o.node.last → s.census.effective.getLsbD x = false) →
      s.NodeSettles o true
        { s.census.counters with garbled := min 65535 (s.census.counters.garbled + 1) }
        ({ pattern := o.node.pattern &&& ~~~(BitVec.twoPow 32 b), mask := o.node.mask ||| BitVec.twoPow 32 b, last := b } ::
          { pattern := o.node.pattern ||| BitVec.twoPow 32 b, mask := o.node.mask ||| BitVec.twoPow 32 b, last := b } ::
          s.census.stack)
        s.census.tie
  | tie : (∀ x, x < o.node.last → s.census.effective.getLsbD x = false) →
      s.NodeSettles o true
        { s.census.counters with
          garbled := min 65535 (s.census.counters.garbled + 1)
          ties := min 65535 (s.census.counters.ties + 1) }
        s.census.stack (some { pattern := o.node.pattern, mask := o.node.mask, cycle := o.cycle })

/-! ## The lanes (R118 to R135) -/

/-- The level of a corrected code on a curve: V[k] + floor(((V[k+1] − V[k]) × f + 64) / 128), clamped to -600 to +100,
where k and f are the code's quotient and remainder by 128 (R159). -/
def IsLevel (curve : Bank Int 33) (code : Nat) (level : Int) : Prop :=
  ∃ a b : Fin 33, a.val = code / 128 ∧ b.val = code / 128 + 1 ∧
    level = max (-600) (min 100 (curve.get a + ((curve.get b - curve.get a) * (code % 128 : Nat) + 64) / 128))

/-- The level that a raw code gives: the code with the offset added, clamped to 0 to 4,095, on the curve (R158, R159). -/
def RawLevel (curve : Bank Int 33) (offset : Int) (raw : BitVec 12) (level : Int) : Prop :=
  ∃ code : Nat, (code : Int) = max 0 (min 4095 ((raw.toNat : Int) + offset)) ∧ IsLevel curve code level

/-- One line notice posted in RUNNING, from `s` to `u`, by a lane that marks it so: QUEUED at the tail of a queue with
room, else WAITING (R13, R119, R120). -/
def State.LanePosts (s u : State) (i : LaneNo) (body : NoticeBody) (mark : LaneNotice) : Prop :=
  (s.line.notices.length < 16 →
    u.line.notices = s.line.notices ++ [⟨body, .lane i (s.lanes.get i).seizure⟩] ∧ mark = .queued body) ∧
  (16 ≤ s.line.notices.length → u.line.notices = s.line.notices ∧ mark = .waiting body)

/-- One one-shot entry posted in RUNNING, from `s` to `u`, by a lane that marks it so (R78, R121). -/
def State.ShotPosts (s u : State) (e : OneShot) (mark : LaneShot) : Prop :=
  (s.planner.shots.length < 8 → u.planner.shots = s.planner.shots ++ [e] ∧ mark = .queued) ∧
  (8 ≤ s.planner.shots.length → u.planner.shots = s.planner.shots ∧ mark = .waiting e)

/-- The PROBE entry of a lane: it carries the record's coarse echo, the sequence bit and the capture mark (R77, R121, R126). -/
def probeEntry (i : LaneNo) (t : Tag) (coarse : Int) (seq : Bool) : OneShot :=
  { owner := .lane i, tag := t, kind := .probe, coarse := some coarse, seq := seq, capture := true }

/-- Lane `i` ended between `s` and `u` with `reason`: the record of its tag, which held `h`, is PARKED with it and with its
profile's park hold, which is one noted change; the lane is FREE with its seizure number kept, none of its one-shot
entries is queued, and a STAND DOWN with the reason is posted, but for POWER_LOSS (R32, R135). -/
structure State.LaneEnds (s u : State) (i : LaneNo) (t : Tag) (h : Terminal) (reason : Reason) : Prop where
  record : u.term t = some { h with phase := .parked reason (s.roster.profiles.get h.profile).parkHold }
  noted : notedOnce s u t
  lane : u.work i = none ∧ (u.lanes.get i).seizure = (s.lanes.get i).seizure
  shots : u.planner.shots = s.planner.shots.filter fun e => e.owner != .lane i
  posted : reason ≠ .powerLoss → s.RosterPosts u (.standDown (some t) reason)
  silent : reason = .powerLoss → u.line.notices = s.line.notices ∧ u.roster.waiting = s.roster.waiting

/-- Nothing but lane `i` and the record of `t` is touched between `s` and `u` among the lanes, the records, the
Supervisor's entries, the census and the line's own state. -/
structure State.OnlyLane (s u : State) (i : LaneNo) (t : Tag) : Prop where
  lanes : ∀ j, j ≠ i → u.lanes.get j = s.lanes.get j
  records : sameOtherRecords s u t
  sup : u.sup = s.sup
  census : u.census = s.census
  admission : u.roster.admission = s.roster.admission
  line : u.line.state = s.line.state ∧ u.line.cycle = s.line.cycle ∧ u.line.head = s.line.head
  conv : u.conv.calib = s.conv.calib ∧ u.conv.offset = s.conv.offset ∧ u.conv.refused = s.conv.refused

/-- Lane `i` with work `work` is ENGAGED, in RUNNING, with the record `h` of its tag. -/
structure State.Working (s : State) (i : LaneNo) (work : LaneWork) (h : Terminal) (trim : Option EchoHold) : Prop where
  running : s.line.state = .running
  held : s.work i = some work
  record : s.term work.tag = some h
  engaged : h.phase = .engaged i trim

/-- The command settles the PLACED grant of lane `i`, of the plan of `cycle`, with the outcome of its window close and the
capture answer that it then holds: the close itself, where no capture answer is still to come, or the level answer that
comes after it (R123, R156). -/
inductive State.Settles (s : State) (i : LaneNo) (work : LaneWork) (cycle : CycleNo) :
    Instr → CloseOutcome → Option CaptureAnswer → Prop
  | close {plan rest j w o} : s.NextToClose plan rest j w → w.grant.owner = .lane i → w.grant.tag = some work.tag →
      plan.cycle = cycle → work.shot = .placed cycle w.grant.kind →
      (∀ r, work.held.result = some r → r.captureAsked = true → work.held.answer.isSome = true) →
      (∀ q, w.state = .matched → w.quality = some q → o = .quality q) → (w.state = .opened → o = .miss w.sighted) →
      (w.state = .matched → w.quality.isSome = true) →
      s.Settles i work cycle .windowClose o work.held.answer
  | answer {raw c r o level} : s.conv.state = .converting c → c.discard = false → c.owner = .lane i →
      c.tag = work.tag → c.cycle = cycle → work.shot = .placed cycle .probe → work.held.result = some r →
      r.captureAsked = true → work.held.close = some o → RawLevel s.conv.curve c.offset raw level →
      s.Settles i work cycle (.conversionEnd raw) o (some (.level level))

/-- The reason with which a lane ends when its attempts, or its misses in a row, are used up (R125, R129, R133). -/
inductive EndsFor : FailKind → Reason → Prop
  | miss : EndsFor .miss .noReply
  | corrupt : EndsFor .corrupt .corrupt

/-- The kind of failure that an OFFER REPLY outcome is, where it is one: a MISS, a burst that is not CLEAN, or a CLEAN one
whose serial echo is not the record's serial (R125). -/
inductive OfferFails (serial : Serial) (r : Option BurstResult) : CloseOutcome → FailKind → Prop
  | miss (b : Bool) : OfferFails serial r (.miss b) .miss
  | broken (q : Quality) : q ≠ .clean → OfferFails serial r (.quality q) .corrupt
  | stranger (x : BurstResult) : r = some x → x.serialEcho ≠ some serial → OfferFails serial r (.quality .clean) .corrupt

/-- What a settled PROBE grant makes of the stage's fields, with the kind of the failure where it is one: a clean ECHO with
the awaited sequence bit adds its echo p + Ref − S, and its level where one came; any other outcome adds one to the
misses in a row, and a wrong sequence bit one to the mismatches too (R53, R127 to R129). -/
inductive ProbeWork.Becomes (p : ProbeWork) (ref : Nat) (r : Option BurstResult) (a : Option CaptureAnswer) :
    CloseOutcome → ProbeWork → Option FailKind → Prop
  | echo (x : BurstResult) (levels : List Int) : r = some x → x.seq = p.seq →
      (∀ v, a = some (.level v) → levels = p.levels ++ [v]) → ((∀ v, a ≠ some (.level v)) → levels = p.levels) →
      p.Becomes ref r a (.quality .clean)
        { p with
          echoes := p.echoes ++ [(x.position : Int) + ref - x.grant.start]
          levels := levels
          seq := !p.seq
          remaining := p.remaining - 1
          misses := 0 } none
  | sequence (x : BurstResult) : r = some x → x.seq ≠ p.seq →
      p.Becomes ref r a (.quality .clean) { p with mismatches := p.mismatches + 1, misses := p.misses + 1 } (some .miss)
  | corrupt : p.Becomes ref r a (.quality .corrupt) { p with misses := p.misses + 1 } (some .corrupt)
  | miss (b : Bool) : p.Becomes ref r a (.miss b) { p with misses := p.misses + 1 } (some .miss)

/-- The kind of failure that a TRIM CHECK outcome is, where it is one: a MISS with no sighting, a burst that is not CLEAN,
or a CLEAN one farther than W_t from the window point (R59, R133). -/
inductive TrimFails (wt : Nat) (r : Option BurstResult) : CloseOutcome → FailKind → Prop
  | miss : TrimFails wt r (.miss false) .miss
  | broken (q : Quality) : q ≠ .clean → TrimFails wt r (.quality q) .corrupt
  | off (x : BurstResult) (point : Nat) : r = some x → x.grant.point = some point →
      (point + wt < x.position ∨ x.position + wt < point) → TrimFails wt r (.quality .clean) .corrupt

/-! ## Plans (R50, R67 to R75) -/

/-- Where the next item of a plan begins: behind the last item placed by at least the guard, or at 0 (R68). -/
def nextStart (guard : Nat) (slot : Option Slot) (placed : List Grant) : Nat :=
  ((slot.toList.map fun x => x.stop + guard) ++ placed.map fun g => g.stop + guard).foldl max 0

/-- A one-shot entry as a grant at `pos`, its occupancy and its start as R50 gives them for its kind: untrimmed kinds have
W_u on both sides and a start shifted by Ref less the coarse echo, the others W_t and no shift (R50, R74). -/
structure PlacedShot (ls : LineSettings) (e : OneShot) (pos : Nat) (g : Grant) : Prop where
  entry : g.kind = e.kind ∧ g.owner = e.owner ∧ g.tag = some e.tag ∧ g.seq = e.seq ∧ g.capture = e.capture ∧
    g.coarse = e.coarse ∧ g.length = 192 ∧ g.pattern = 0 ∧ g.mask = 0 ∧ g.first = pos
  untrimmed : e.kind = .offerReply ∨ e.kind = .probe →
    g.stop = pos + 192 + 2 * ls.wu ∧ g.point = some (pos + ls.wu) ∧
      ∀ c, e.coarse = some c → g.start = (pos : Int) + ls.wu + (ls.ref - c)
  trimmed : e.kind = .trimCheck ∨ e.kind = .ret →
    g.stop = pos + 192 + 2 * ls.wt ∧ g.point = some (pos + ls.wt) ∧ g.start = (pos : Int) + ls.wt

/-- The size of the occupancy that a one-shot entry needs (R50, R74). -/
def entrySize (ls : LineSettings) (e : OneShot) : Nat :=
  if e.kind = .offerReply ∨ e.kind = .probe then 192 + 2 * ls.wu else 192 + 2 * ls.wt

/-- The record of `t` is ACTIVE, with a profile whose standing period makes it due in the plan of `cycle`, and asks for
standing bursts of `length` (R71, R72). -/
def State.Due (s : State) (cycle : CycleNo) (t : Tag) (length : Nat) : Prop :=
  ∃ h svc, s.term t = some h ∧ h.phase = .active svc ∧
    cycle.toNat % (s.roster.profiles.get h.profile).period = tagNum t % (s.roster.profiles.get h.profile).period ∧
    length = (s.roster.profiles.get h.profile).length

/-! ## The postings of a cycle start (R13, R63, R78, R119, R145, R147) -/

/-- Every tag, in ascending order. -/
def tagsInOrder : List Tag := List.finRange 128

/-- Every lane, in lane order. -/
def lanesInOrder : List LaneNo := List.finRange 8

/-- The lane's own line notice is among those that a head carries: its number, its seizure number, its kind and value (R119). -/
def State.carriesOf (s : State) (carried : List LineNotice) (i : LaneNo) (w : LaneWork) : Option NoticeBody :=
  match w.notice with
  | .queued body => if ⟨body, .lane i (s.lanes.get i).seizure⟩ ∈ carried then some body else none
  | _ => none

/-- The one-shot entry that a lane posts when its line notice departs: an OFFER REPLY with the record's coarse echo after a
TAG OFFER, a TRIM CHECK after a HOLDOFF (R77, R124, R132). -/
def State.departureEntry (s : State) (carried : List LineNotice) (i : LaneNo) : Option OneShot :=
  match s.work i with
  | none => none
  | some w =>
    match s.carriesOf carried i w with
    | some (.tagOffer _ _) =>
      some { owner := .lane i, tag := w.tag, kind := .offerReply, coarse := (s.term w.tag).map Terminal.coarse,
             seq := false, capture := false }
    | some (.holdoff _ _) =>
      some { owner := .lane i, tag := w.tag, kind := .trimCheck, coarse := none, seq := false, capture := false }
    | _ => none

/-- The line notice of a lane that waits. -/
def State.waitingNotice (s : State) (i : LaneNo) : Option LineNotice :=
  match s.work i with
  | none => none
  | some w =>
    match w.notice with
    | .waiting body => some ⟨body, .lane i (s.lanes.get i).seizure⟩
    | _ => none

/-- The SILENT record of `t` comes to the end of its grace at the next cycle start (R147). -/
def State.losesGrace (s : State) (t : Tag) : Bool :=
  match s.term t with
  | some h =>
    match h.phase with
    | .silent _ _ grace => decide (grace ≤ 1)
    | _ => false
  | none => false

/-- The STAND DOWNs LOST of a cycle start, in ascending tag order (R147). -/
def State.lostNotices (s : State) : List LineNotice :=
  (tagsInOrder.filter s.losesGrace).map fun t => ⟨.standDown (some t) .lost, .roster⟩

/-- The NUDGE of `t` that waits (R63, R143). -/
def State.waitingNudge (s : State) (t : Tag) : Option LineNotice :=
  (s.sup.get t).waitNudge.map fun delta => ⟨.nudge t delta, .supervisor⟩

/-- At the start of `cycle` a RETURN is due for the SILENT record of `t`: it stays SILENT, none is outstanding, and the
distance from its silent-since cycle is a positive multiple of its profile's return interval (R145). -/
def State.returnsAt (s : State) (cycle : CycleNo) (t : Tag) : Bool :=
  match s.term t with
  | some h =>
    match h.phase with
    | .silent svc since grace =>
      decide (1 < grace) && !svc.returnOut && decide (0 < (cycle - since).toNat) &&
        decide ((cycle - since).toNat % (s.roster.profiles.get h.profile).interval = 0)
    | _ => false
  | none => false

/-- The RETURN entry of `t` (R77). -/
def returnEntry (t : Tag) : OneShot :=
  { owner := .supervisor, tag := t, kind := .ret, coarse := none, seq := false, capture := false }

end Sys2Proof.Machine
end

