-- ==== Sys2Proof/Certificates/Slice0/Obligations.lean ====
section
/-! DEFINITION. The statements about the VE128 for the provers. -/

open Sys2Proof Sys2Proof.Machine

/-! ## The machine -/

/-- A step takes the command at the front of the queue and runs it with the rest of the queue (log 1). With no command waiting
a step is one tick: the tick counter goes up by one modulo 2^32, a transmitter that is between frames chooses, and nothing
else changes (R8; the tick as the idle step is log 2, the choice log 8). -/
def Obligations.StepTakesFrontCommand : Prop :=
  (∀ (s : State) (c : Instr) (rest : List Instr),
    s.pending = c :: rest → step s = exec c { s with pending := rest }) ∧
  (∀ s : State, s.pending = [] →
    ∃ t : State, step s = .next t.chooseAgain ∧ t.line.tick.toNat = (s.line.tick.toNat + 1) % 2 ^ 32 ∧
      { t with line.tick := s.line.tick } = s)

/-- Every command answers a next state, and none touches the queue of commands that wait (95; log 1). -/
def Obligations.EveryCommandKeepsQueue : Prop :=
  ∀ (c : Instr) (s : State), ∃ t : State, exec c s = .next t ∧ t.pending = s.pending

/-! ## Resets and restarts -/

/-- A power-on reset and a pin reset leave every block at the values that the reset tables give, and differ in the reset
cause alone (R22, R49, R83, R99, R117, R138, R152, R167, R179). -/
def Obligations.ResetsLeaveSpecValues : Prop :=
  ∀ (straps : BitVec 2) (s : State), ∃ t,
    exec (.powerOnReset straps) s = .next t ∧
    exec (.pinReset straps) s = .next { t with link.cause := .pin } ∧
    (t.line.state = .dark ∧ t.line.prev = .dark ∧ t.line.transitions = 0 ∧ t.line.tick = 0 ∧ t.line.cycle = none ∧
      t.line.pendingLen = 312500 ∧ t.line.warmup = 0 ∧ t.line.drainLeft = 0 ∧ t.line.head = none ∧
      t.line.notices = [] ∧ t.line.txEnable = false ∧
      t.line.settings = { ref := 256000, eMin := 8000, guard := 64, wt := 16, wu := 256, exponent := 8, closeCode := 2, hush := 40000 }) ∧
    ((∀ g, t.roster.records.get g = { changes := 0, term := none }) ∧ t.roster.expected = [] ∧ t.roster.barred = [] ∧
      t.roster.strangers = [] ∧ t.roster.overflowed = false ∧ t.roster.mode = .openMode ∧ t.roster.poolLow = 1 ∧
      t.roster.poolHigh = 128 ∧ t.roster.openProfile = 0 ∧ t.roster.admission = [] ∧ t.roster.waiting = [] ∧
      ∀ n, t.roster.profiles.get n =
        { length := 2048, period := 1, low := -280, high := -80, probes := 4, spread := 24, missLimit := 4,
          grace := 2000, interval := 16, threshold := 3, parkHold := 4000 }) ∧
    (t.census.state = .stopped ∧ t.census.mode = .single ∧ t.census.interval = 8 ∧ t.census.splitSet = 0xFFFFFFFF ∧
      t.census.effective = 0xFFFFFFFF ∧ t.census.rootPattern = 0 ∧ t.census.rootMask = 0 ∧ t.census.stack = [] ∧
      t.census.outstanding = none ∧ t.census.wait = 0 ∧ t.census.counters = .zero ∧ t.census.tie = none ∧
      t.census.lastPass = none ∧ t.census.passes = 0) ∧
    (t.planner.built = none ∧ t.planner.shots = [] ∧ t.planner.sweep = 0 ∧ t.planner.slotWanted = false ∧
      t.planner.overruns = 0 ∧ t.planner.lastOverrun = none ∧ t.intake.store = [] ∧ t.intake.strays = 0) ∧
    ((∀ i, t.lanes.get i = { seizure := 0, work := none }) ∧
      ∀ g, t.sup.get g = { held := none, waitReturn := false, waitNudge := none }) ∧
    (t.conv.state = .idle ∧ t.conv.windowCode = 3 ∧ t.conv.stepCode = 1 ∧ t.conv.offset = 0 ∧
      (∀ k, t.conv.curve.get k = -400 + 15 * (k.val : Int)) ∧ t.conv.calib = none ∧ t.conv.lastCalib = none ∧
      t.conv.refused = 0) ∧
    (t.link.straps = straps ∧ t.link.cause = .powerOn ∧ t.link.rx = .hunt ∧ t.link.inbound = [] ∧
      t.link.handler = .idle ∧ t.link.outbound = [] ∧ t.link.tx = .betweenFrames ∧
      t.link.kinds = { hello := true, line := false, calibration := false, census := false, plan := false } ∧
      (∀ g, t.link.recFlags.get g = false) ∧
      t.link.mask = { line := true, calibration := true, census := true, terminal := true, plan := true } ∧
      t.link.faults = 0)

/-- LINE_RESTART, once its reply is sent, keeps the settings and lists that the table of R188 keeps, and clears what it
clears (R188). -/
def Obligations.LineRestartKeepsSettings : Prop :=
  ∀ (s : State) (replied : Bool), s.link.handler = .restartWaiting .line 0 replied →
    (s.link.tx = .betweenFrames ∨ replied = true) →
    ∃ t : State, exec .restartTakesEffect s = .next t ∧
      (t.line.settings = s.line.settings ∧ t.line.pendingLen = s.line.pendingLen ∧ t.line.tick = s.line.tick) ∧
      (t.roster.expected = s.roster.expected ∧ t.roster.barred = s.roster.barred ∧ t.roster.mode = s.roster.mode ∧
        t.roster.poolLow = s.roster.poolLow ∧ t.roster.poolHigh = s.roster.poolHigh ∧
        t.roster.openProfile = s.roster.openProfile ∧ t.roster.profiles = s.roster.profiles) ∧
      (t.conv.windowCode = s.conv.windowCode ∧ t.conv.stepCode = s.conv.stepCode ∧ t.conv.offset = s.conv.offset ∧
        t.conv.curve = s.conv.curve) ∧
      (t.link.straps = s.link.straps ∧ t.link.mask = s.link.mask ∧ t.link.faults = s.link.faults) ∧
      (t.line.state = .dark ∧ t.line.prev = .dark ∧ t.line.transitions = 0 ∧ t.line.txEnable = false ∧
        t.line.head = none ∧ t.line.notices = [] ∧ t.line.cycle = none) ∧
      ((∀ g, t.roster.records.get g = { changes := 0, term := none }) ∧ t.roster.admission = [] ∧
        t.roster.strangers = [] ∧ t.roster.overflowed = false) ∧
      t.census = .reset ∧
      (t.planner.built = none ∧ t.planner.shots = [] ∧ t.planner.sweep = 0 ∧ t.planner.slotWanted = false ∧
        t.planner.overruns = 0 ∧ t.planner.lastOverrun = none) ∧
      (t.intake.store = [] ∧ t.intake.strays = 0) ∧
      (∀ i, t.lanes.get i = { seizure := 0, work := none }) ∧ (∀ g, t.sup.get g = .empty) ∧
      (t.conv.state = .idle ∧ t.conv.calib = none ∧ t.conv.lastCalib = none ∧ t.conv.refused = 0) ∧
      (t.link.inbound = [] ∧ t.link.outbound = [] ∧ t.link.handler = .idle ∧ t.link.rx = .hunt ∧
        t.link.tx = .betweenFrames ∧ t.link.cause = .lineRestart ∧ (∀ g, t.link.recFlags.get g = false) ∧
        t.link.kinds = { hello := true, line := false, calibration := false, census := false, plan := false })

/-- FULL_RESTART leaves what a pin reset leaves, but for the straps, which are kept, and the reset cause (R189). -/
def Obligations.FullRestartIsPinReset : Prop :=
  ∀ (s : State) (replied : Bool), s.link.handler = .restartWaiting .full 0 replied →
    (s.link.tx = .betweenFrames ∨ replied = true) →
    ∃ t u, exec .restartTakesEffect s = .next t ∧ exec (.pinReset s.link.straps) s = .next u ∧
      t = { u with link.cause := .fullRestart } ∧ t.link.straps = s.link.straps ∧ t.line.state = .dark ∧
      t.line.tick = 0 ∧ t.link.mask = .all ∧ t.link.faults = 0

/-- A RESTART is answered and then waits: its form is kept, with the replies that must still be sent; a code above 1 is
refused RANGE (R187). While it waits, the transmitter sends those replies in order and no notice, and the restart does
not take effect before (R178). That the replies ahead are counted is log 19 (DEDUCED). The last clause is log 9 (DESIGN
CHOICE): with none left ahead, FRAME_SENT ends the frame and no more, and the restart, which R178 has at that moment, follows
as the command RESTART_TAKES_EFFECT. -/
def Obligations.RestartWaitsForReplies : Prop :=
  (∀ (s : State) (q : Request) (rest : List Request) (code : Byte), s.Offers 0x1C q rest → q.body = [code] →
    (∀ form, (code = 0 ∧ form = .line) ∨ (code = 1 ∧ form = .full) →
      exec .restart s = .next
        (({ s with
            link.handler := .restartWaiting form (s.link.outbound.length + (if q.quiet then 0 else 1)) (!q.quiet) } :
          State).answered q rest .ok [])) ∧
    (1 < code.toNat → exec .restart s = .next (s.answered q rest .range []))) ∧
  (∀ (s : State) (form : RestartForm) (n : Nat) (replied : Bool) (r : Reply) (rest : List Reply),
    s.link.handler = .restartWaiting form (n + 1) replied → s.link.outbound = r :: rest →
    exec .restartTakesEffect s = .next s.chooseAgain ∧
    exec .frameSent s = .next
      { s with
        link.tx := .sending r.frame
        link.outbound := rest
        link.handler := .restartWaiting form n replied }) ∧
  (∀ (s : State) (form : RestartForm) (replied : Bool), s.link.handler = .restartWaiting form 0 replied →
    exec .frameSent s = .next { s with link.tx := .betweenFrames })

/-! ## The control link -/

/-- A frame laid out as 12.2 gives it, received from HUNT, comes with its first byte upon a transmitter that chooses if it is
between frames (`u`; R174, log 8). With room in the inbound queue, exactly the request that the frame carries is queued, and
the receiver hunts again (R169, R170, R171). A frame that finds the inbound queue full is answered BUSY, whatever its quiet
flag, while the reply queue has room; otherwise it is dropped and the frame fault count goes up (R171). -/
def Obligations.FramesAreQueuedOrAnswered : Prop :=
  ∀ (s u : State) (kind tagByte : Byte) (body : List Byte),
    s.link.rx = .hunt → body.length ≤ 250 → u = s.chooseAgain →
    (s.link.inbound.length < 4 →
      exec (.frameReceived ((linkFrame kind tagByte body).map fun b => { data := b, stop := true })) s = .next
        { u with
          link.inbound := s.link.inbound ++
            [{ kind := kind, tag := tagByte.setWidth 7, quiet := tagByte.getLsbD 7, body := body }] }) ∧
    (s.link.inbound.length = 4 →
      (u.link.outbound.length < 8 →
        exec (.frameReceived ((linkFrame kind tagByte body).map fun b => { data := b, stop := true })) s = .next
          ({ u with
            link.outbound := u.link.outbound ++
              [{ kind := kind, tag := tagByte.setWidth 7, result := .busy, body := [] }] } : State).chooseAgain) ∧
      (u.link.outbound.length = 8 →
        exec (.frameReceived ((linkFrame kind tagByte body).map fun b => { data := b, stop := true })) s = .next
          { u with link.faults := s.link.faults + 1 }))

/-- What the receiver does with one byte in each of its states, and with the expiry of the gap (R170); at the end of each the
transmitter chooses if it is between frames (R174, log 8). -/
def Obligations.ReceiverTakesEachByte : Prop :=
  ∀ (s : State) (b : Byte) (stop : Bool),
    (s.link.rx = .hunt →
      exec (.byteReceived b stop) s = .next
        (if stop = true ∧ b = 0xA5 then ({ s with link.rx := .count 0xFFFF } : State).chooseAgain else s.chooseAgain) ∧
      exec .gapExpiry s = .next s.chooseAgain) ∧
    (∀ crc, s.link.rx = .count crc →
      exec (.byteReceived b stop) s = .next
        (if stop = true ∧ 2 ≤ b.toNat ∧ b.toNat ≤ 252 then
          ({ s with link.rx := .content (crcByte crc b) b.toNat [] } : State).chooseAgain
         else s.frameLost.chooseAgain)) ∧
    (∀ crc len bytes, s.link.rx = .content crc len bytes → stop = true →
      exec (.byteReceived b stop) s = .next
        (if bytes.length + 1 < len then
          ({ s with link.rx := .content (crcByte crc b) len (bytes ++ [b]) } : State).chooseAgain
         else ({ s with link.rx := .check (crcByte crc b) (bytes ++ [b]) none } : State).chooseAgain)) ∧
    (∀ crc bytes, s.link.rx = .check crc bytes none → stop = true →
      exec (.byteReceived b stop) s = .next ({ s with link.rx := .check crc bytes (some b) } : State).chooseAgain) ∧
    (∀ crc bytes high, s.link.rx = .check crc bytes (some high) → stop = true → high ++ b ≠ crc →
      exec (.byteReceived b stop) s = .next s.frameLost.chooseAgain) ∧
    (s.link.rx ≠ .hunt →
      (stop = false → exec (.byteReceived b stop) s = .next s.frameLost.chooseAgain) ∧
      exec .gapExpiry s = .next s.frameLost.chooseAgain)

/-- Between frames, or at the end of one, the transmitter sends the head reply first; with none it sends the first pending,
unmasked notice of the table of R176, whose body is built then as 12.4 and 12.5 lay it out and whose flag and counts are
cleared; with neither it stays between frames (R174, R176, R190). Where it stays, the choice is made again at the end of every event, from the state that the
event leaves: a frame that is being sent goes on, and FRAME_SENT between frames is that choice and no more. That it is made
once for the whole event, and after a reset by the step that follows, is log 8 (DESIGN CHOICE); that the reply leaves the
queue at the choice is log 29 (DEDUCED). So no event but a reset leaves an idle transmitter beside a reply or a notice that
it could send. -/
def Obligations.TransmitterChoosesInOrder : Prop :=
  (∀ s : State, s.link.handler = .idle →
     (∀ r rest, s.link.outbound = r :: rest →
       exec .frameSent s = .next { s with link.tx := .sending r.frame, link.outbound := rest }) ∧
     (s.link.outbound = [] →
       ∃ t : State, exec .frameSent s = .next t ∧
         (s.link.kinds.hello = true →
           t = { s with
                 link.tx := .sending (noticeFrame 0xF0
                   [s.link.cause.code, byteOf s.link.straps.toNat, 0x5E, 0x80, 0x01])
                 link.kinds.hello := false }) ∧
         (s.link.kinds.hello = false →
           (s.link.kinds.line = true ∧ s.link.mask.line = true →
             t = { s with
                   link.tx := .sending (noticeFrame 0xF1
                     [s.line.state.code, s.line.prev.code, byteOf s.line.transitions])
                   link.kinds.line := false
                   line.transitions := 0 }) ∧
           (¬(s.link.kinds.line = true ∧ s.link.mask.line = true) →
             (s.link.kinds.calibration = true ∧ s.link.mask.calibration = true →
               ∃ body, s.CalibrationLayout body ∧
                 t = { s with
                       link.tx := .sending (noticeFrame 0xF2 body)
                       link.kinds.calibration := false }) ∧
             (¬(s.link.kinds.calibration = true ∧ s.link.mask.calibration = true) →
               (s.link.kinds.census = true ∧ s.link.mask.census = true →
                 ∃ body, s.CensusLayout body ∧
                   t = { s with
                         link.tx := .sending (noticeFrame 0xF3 body)
                         link.kinds.census := false
                         census.passes := 0 }) ∧
               (¬(s.link.kinds.census = true ∧ s.link.mask.census = true) →
                 (∀ g : Tag, s.link.mask.terminal = true → s.link.recFlags.get g = true →
                   (∀ f : Tag, f < g → s.link.recFlags.get f = false) →
                   (∃ body, s.RecordLayout g body ∧ t.link.tx = .sending (noticeFrame 0xF4 (body.take 27))) ∧
                   (∀ f, t.link.recFlags.get f = if f = g then false else s.link.recFlags.get f) ∧
                   (∀ f, (t.roster.records.get f).changes = if f = g then 0 else (s.roster.records.get f).changes) ∧
                   (∀ f, t.term f = s.term f) ∧ t.link.kinds = s.link.kinds) ∧
                 ((s.link.mask.terminal = true → ∀ g, s.link.recFlags.get g = false) →
                   (s.link.kinds.plan = true ∧ s.link.mask.plan = true →
                     ∃ body, s.PlanLayout body ∧
                       t = { s with
                             link.tx := .sending (noticeFrame 0xF5 body)
                             link.kinds.plan := false
                             planner.overruns := 0 }) ∧
                   (¬(s.link.kinds.plan = true ∧ s.link.mask.plan = true) →
                     t = { s with link.tx := .betweenFrames })))))))) ∧
  (∀ (s : State) (frame : List Byte), s.link.tx = .sending frame → s.chooseAgain = s) ∧
  (∀ s : State, s.link.tx = .betweenFrames → exec .frameSent s = .next s.chooseAgain) ∧
  (∀ (c : Instr) (s t : State), (∀ straps, c ≠ .powerOnReset straps ∧ c ≠ .pinReset straps) → c ≠ .restartTakesEffect →
    c ≠ .frameReceived [] → exec c s = .next t → t.link.tx = .betweenFrames → t.link.handler = .idle →
    t.link.outbound = [] ∧ t.link.kinds.hello = false ∧ (t.link.mask.line = true → t.link.kinds.line = false) ∧
    (t.link.mask.calibration = true → t.link.kinds.calibration = false) ∧
    (t.link.mask.census = true → t.link.kinds.census = false) ∧
    (t.link.mask.terminal = true → ∀ g, t.link.recFlags.get g = false) ∧
    (t.link.mask.plan = true → t.link.kinds.plan = false))

/-! ## The request handler -/

/-- A kind that names no request is answered UNKNOWN; a body of a length that its kind does not allow is answered LENGTH;
neither has any other effect (R172, R180). The handler takes no request while it is not IDLE, while the reply queue holds 8
replies, or while no request waits: then no request command does anything, but that a transmitter between frames chooses
(R172, R174; that such a command is no event is log 1, the choice log 8). -/
def Obligations.RequestsAreTakenInTurn : Prop :=
  (∀ (s : State) (q : Request) (rest : List Request) (kind : Nat), s.Offers kind q rest → kind = 0 ∨ 0x1C < kind →
    exec .unknownRequest s = .next (s.answered q rest .unknown [])) ∧
  (∀ (s : State) (now : Tick) (row : RequestRow) (q : Request) (rest : List Request), row ∈ requestTable now →
    s.Offers row.kind q rest → q.body.length ∉ row.lengths →
    exec row.command s = .next (s.answered q rest .length [])) ∧
  (∀ (s : State) (now : Tick) (c : Instr), c ∈ Instr.unknownRequest :: (requestTable now).map RequestRow.command →
     s.link.handler ≠ .idle ∨ 8 ≤ s.link.outbound.length ∨ s.link.inbound = [] →
     exec c s = .next s.chooseAgain)

/-- Every request that the handler can take is answered with one result, in one next state. A request that is answered with a
refusal has no effect at all: it leaves the inbound queue, its reply, with no body, joins the outbound queue, and the rest of
the state is as it was (R172, R173). -/
def Obligations.RefusalsChangeNothing : Prop :=
  ∀ (s : State) (now : Tick) (row : RequestRow) (q : Request) (rest : List Request), row ∈ requestTable now →
    s.Offers row.kind q rest →
    ∃ (v : State) (r : Result) (body : List Byte), exec row.command s = .next (v.answered q rest r body) ∧
      v.link.outbound = s.link.outbound ∧ (r ∈ refusals → v = s ∧ body = [])

/-! ## Identity, status, roster -/

/-- IDENTIFY reports identity, revision, strap code and reset cause, and leaves everything else, the HELLO flag
included, as it was (R181). -/
def Obligations.IdentifyReports : Prop :=
  ∀ (s : State) (q : Request) (rest : List Request), s.Offers 0x01 q rest → q.body = [] →
    exec .identify s = .next
      (s.answered q rest .ok [0x5E, 0x80, 0x01, byteOf s.link.straps.toNat, s.link.cause.code])

/-- READ STATUS answers a body of 189 bytes with every field of R182 at the place that the sizes of 12.4 give, a barred serial,
a lane's tag, an overrun cycle and an attempt number that are absent as zeros, and changes nothing else (R182, R190, 12.4).
The fills are those that stand once the request is taken, and the kind flags byte has no TERMINAL bit (log 20); bits that
12.1 assigns to nothing are 0 (log 34). -/
def Obligations.ReadStatusReports : Prop :=
  ∀ (s : State) (q : Request) (rest : List Request), s.Offers 0x02 q rest → q.body = [] → s.roster.barred.length ≤ 16 →
    ∃ body, exec .readStatus s = .next (s.answered q rest .ok body) ∧ body.length = 189 ∧
      body.take 3 = [s.line.state.code, s.line.prev.code, byteOf s.line.transitions] ∧
      (s.line.state = .dark → (body.drop 3).take 6 = [0, 0, 0, 0, 0, 0]) ∧
      (∀ c, s.line.state ≠ .dark → s.line.cycle = some c →
        (body.drop 3).take 6 = beBytes 2 c.num.toNat ++ beBytes 4 c.len) ∧
      (body.drop 9).take 4 = beBytes 4 s.line.pendingLen ∧
      (body.drop 13).take 18 = s.line.settings.bytes ∧
      (body.drop 31).take 5 = [byteOf s.line.notices.length, byteOf s.planner.shots.length,
        byteOf s.roster.admission.length, byteOf rest.length, byteOf s.link.outbound.length] ∧
      (body.drop 36).take 8 = [byteOf s.roster.expected.length, byteOf s.roster.barred.length,
        byteOf s.roster.strangers.length, boolByte s.roster.overflowed, s.roster.mode.code, byteOf s.roster.poolLow,
        byteOf s.roster.poolHigh, byteOf s.roster.openProfile.val] ∧
      (∀ k, k < 16 → (body.drop (44 + 4 * k)).take 4 = beBytes 4 ((s.roster.barred[k]?.map BitVec.toNat).getD 0)) ∧
      (∀ i : LaneNo,
        (s.work i = none → (body.drop (108 + 2 * i.val)).take 2 = [0, 0]) ∧
        (∀ w, s.work i = some w → (body.drop (108 + 2 * i.val)).take 2 =
          [match w.stage with | .offer _ => 1 | .probe _ => 2 | .trim _ _ => 3, byteOf (tagNum w.tag)])) ∧
      (body.drop 124).take 6 = [s.census.state.code, s.census.mode.code, byteOf s.census.interval,
        byteOf s.census.stack.length, boolByte s.census.outstanding.isSome, byteOf s.census.wait] ∧
      (body.drop 130).take 18 = beBytes 2 s.census.counters.gaps ++ beBytes 2 s.census.counters.garbled ++
        beBytes 2 s.census.counters.heard ++ beBytes 2 s.census.counters.admitted ++
        beBytes 2 s.census.counters.refreshed ++ beBytes 2 s.census.counters.ignored ++
        beBytes 2 s.census.counters.hushed ++ beBytes 2 s.census.counters.strangers ++
        beBytes 2 s.census.counters.ties ∧
      (body.drop 148).take 5 = beBytes 2 s.planner.overruns ++
        (match s.planner.lastOverrun with | some c => 1 :: beBytes 2 c.toNat | none => [0, 0, 0]) ∧
      (body.drop 153).take 4 = beBytes 4 s.intake.strays.toNat ∧
      (body.drop 157).take 6 = [s.conv.state.code, byteOf s.conv.windowCode.val, byteOf s.conv.stepCode.val,
          BitVec.ofInt 8 s.conv.offset] ++
        (match s.conv.calib with | some c => [1, byteOf c.attempts] | none => [0, 0]) ∧
      (body.drop 163).take 4 = beBytes 4 s.conv.refused.toNat ∧
      (body.drop 167).take 4 = beBytes 4 s.link.faults.toNat ∧
      (∀ x, body[171]? = some x → (x.getLsbD 0 = s.link.mask.line ∧ x.getLsbD 1 = s.link.mask.calibration ∧
        x.getLsbD 2 = s.link.mask.census ∧ x.getLsbD 3 = s.link.mask.terminal ∧ x.getLsbD 4 = s.link.mask.plan ∧
        x &&& 0xE0 = 0)) ∧
      (∀ x, body[172]? = some x → (x.getLsbD 0 = s.link.kinds.line ∧ x.getLsbD 1 = s.link.kinds.calibration ∧
        x.getLsbD 2 = s.link.kinds.census ∧ x.getLsbD 4 = s.link.kinds.plan ∧ x.getLsbD 5 = s.link.kinds.hello ∧
        x &&& 0xC8 = 0)) ∧
      (∀ (g : Tag) x, body[173 + g.val / 8]? = some x → x.getLsbD (g.val % 8) = s.link.recFlags.get g)

/-- READ ROSTER answers 128 bytes in tag order, each with the record's state code in bits 0 to 2 and the notice pending flag in
bit 7, and changes nothing else (R186, 12.4). That bits 3 to 6, which 12.4 assigns to nothing, are 0 is log 34 (DESIGN
CHOICE). -/
def Obligations.ReadRosterReports : Prop :=
  ∀ (s : State) (q : Request) (rest : List Request), s.Offers 0x13 q rest → q.body = [] →
    ∃ body, exec .readRoster s = .next (s.answered q rest .ok body) ∧ body.length = 128 ∧
      ∀ g : Tag, ∃ b, body[g.val]? = some b ∧ b &&& 0x07 = recordStateCode (s.term g) ∧
        b.getLsbD 7 = s.link.recFlags.get g ∧ b &&& 0x78 = 0

/-! ## The line requests -/

/-- SET LINE in DARK stores each of the eight settings clamped to its range, E_min against the new Ref, and is answered
OK_CLAMPED where one was changed; in any other state it is refused (R21). SET CYCLE LENGTH stores the length clamped to
280,000 to 400,000 in every state (R10). LIGHT LINE in DARK asserts the enable, starts cycle 0 at its tick with the pending
cycle length, loads the warm-up, enters WARMING, and sends a warming head with an empty plan; in any other state it is
refused (R2). The seven bytes of that head are laid out as 12.6 gives them (R191); that bits 1 to 7 of its flags byte are 0 is
log 35, and that State holds the head last sent log 17 (DESIGN CHOICEs). -/
def Obligations.LineIsSetAndLit : Prop :=
  (∀ (s : State) (q : Request) (rest : List Request) (a k : LineSettings), s.Offers 0x03 q rest → a.Sendable →
    q.body = a.bytes →
    k = { ref := max 100000 (min 262143 a.ref), eMin := min (max 100000 (min 262143 a.ref) - 1) a.eMin,
          guard := max 32 (min 1024 a.guard), wt := max 1 (min 1023 a.wt), wu := max 16 (min 4095 a.wu),
          exponent := max 4 (min 12 a.exponent), closeCode := min 3 a.closeCode, hush := max 1 (min 65535 a.hush) } →
    (s.line.state = .dark →
      exec .setLine s = .next
        (({ s with line.settings := k } : State).answered q rest (if k = a then .ok else .okClamped) [])) ∧
    (s.line.state ≠ .dark → exec .setLine s = .next (s.answered q rest .state []))) ∧
  (∀ (s : State) (q : Request) (rest : List Request) (n k : Nat), s.Offers 0x04 q rest → n < 2 ^ 32 →
    q.body = beBytes 4 n → k = max 280000 (min 400000 n) →
    exec .setCycleLength s = .next
      (({ s with line.pendingLen := k } : State).answered q rest (if k = n then .ok else .okClamped) [])) ∧
  (∀ (s : State) (now : Tick) (q : Request) (rest : List Request), s.Offers 0x05 q rest → q.body = [] →
     (s.line.state ≠ .dark → exec (.lightLine now) s = .next (s.answered q rest .state [])) ∧
     (s.line.state = .dark →
       ∃ t : State, exec (.lightLine now) s = .next t.chooseAgain ∧
         t.line.state = .warming ∧ t.line.prev = .dark ∧ t.line.transitions = min 255 (s.line.transitions + 1) ∧
         t.link.kinds = { s.link.kinds with line := true } ∧
         t.line.txEnable = true ∧ t.line.tick = now ∧
         t.line.cycle = some { num := 0, start := now, len := s.line.pendingLen, next := none } ∧
         t.line.warmup = 2 ^ s.line.settings.exponent ∧ t.line.head = none ∧
         t.line.headOut = [0, 0, 0, 0, 0] ++ leBytes 2 (crcOf [0, 0, 0, 0, 0]).toNat ∧ t.cycleMark = true ∧
         t.intake.store = s.intake.store ++
           [{ cycle := 0, start := now, len := s.line.pendingLen, slot := none, windows := [] }] ∧
         t.line.notices = s.line.notices ∧ t.line.settings = s.line.settings ∧
         t.line.pendingLen = s.line.pendingLen ∧ t.planner.shots = s.planner.shots ∧ t.lanes = s.lanes ∧ t.sup = s.sup ∧
         t.conv = s.conv ∧ t.link.recFlags = s.link.recFlags ∧ t.link.inbound = rest ∧
         t.link.outbound = s.link.outbound ++ repliesTo q .ok []))

/-- DARKEN LINE: nothing in DARK and in DRAINING; from WARMING at once to DARK, touching no other block; from RUNNING to
DRAINING with four cycles left and the line-down event: every record in HEARD, ENGAGED, ACTIVE or SILENT is PARKED with
LINE_DOWN and hold 0, the queues are emptied, the lanes are FREE, a running pass ends LINE_DOWN, a calibration in progress ends
FAILED, and a capture in flight gets its discard mark. Where the plan close of the cycle in progress has passed, the head and
the plan assembled for the next cycle are replaced by a draining head, with its broadcast STAND DOWN, and an empty plan; where
it has not, there is none to replace (R4, R5, R6, R12, R82, R116, R137, R150, R166). -/
def Obligations.DarkenLineByState : Prop :=
  ∀ (s : State) (q : Request) (rest : List Request), s.Offers 0x06 q rest → q.body = [] →
    (s.line.state = .dark ∨ s.line.state = .draining →
      exec .darkenLine s = .next (s.answered q rest .ok [])) ∧
    (s.line.state = .warming →
      exec .darkenLine s = .next
        (({ s with
            line.state := .dark
            line.prev := .warming
            line.transitions := min 255 (s.line.transitions + 1)
            line.txEnable := false
            line.cycle := none
            line.warmup := 0
            line.drainLeft := 0
            line.drainCycle := false
            line.head := none
            planner.built := none
            intake.store := []
            link.kinds.line := true } : State).answered q rest .ok [])) ∧
    (s.line.state = .running →
      ∃ t : State, exec .darkenLine s = .next t.chooseAgain ∧
        t.line.state = .draining ∧ t.line.prev = .running ∧ t.line.drainLeft = 4 ∧ t.link.kinds.line = true ∧
        t.line.transitions = min 255 (s.line.transitions + 1) ∧ t.line.cycle = s.line.cycle ∧
        (∀ c len, s.line.cycle = some c → c.next = some len →
          t.line.head = some
            { cycle := c.num + 1, draining := true, grants := [],
              notices := [{ body := .standDown none .lineDown, poster := .lineTimer }] } ∧
          t.planner.built = some { cycle := c.num + 1, len := len, slot := none, grants := [] }) ∧
        (∀ c, s.line.cycle = some c → c.next = none → t.line.head = none ∧ t.planner.built = none) ∧
        (∀ x, s.conv.state = .sampling x → t.conv.state = .sampling { x with discard := true }) ∧
        (∀ x, s.conv.state = .converting x → t.conv.state = .converting { x with discard := true }) ∧
        (∀ d, s.conv.state = .idle ∨ s.conv.state = .calibrating d → t.conv.state = s.conv.state) ∧
        t.line.notices = [] ∧ t.planner.shots = [] ∧ t.roster.admission = [] ∧ t.roster.waiting = [] ∧
        t.intake.store = [] ∧ t.planner.slotWanted = false ∧
        (∀ i, (t.lanes.get i).work = none ∧ (t.lanes.get i).seizure = (s.lanes.get i).seizure) ∧
        (∀ g, t.sup.get g = .empty) ∧
        (∀ g, s.term g = none → t.term g = none ∧ notNoted s t g) ∧
        (∀ g h, s.term g = some h →
          (h.park.isSome = true → t.term g = some h ∧ notNoted s t g) ∧
          (h.park.isSome = false → t.term g = some { h with phase := .parked .lineDown 0 } ∧ notedOnce s t g)) ∧
        (s.census.state = .stopped → t.census = s.census) ∧
        (s.census.state ≠ .stopped →
          t.census.state = .stopped ∧ t.census.stack = [] ∧ t.census.outstanding = none ∧ t.census.wait = 0 ∧
          t.census.lastPass = some
            { kind := .lineDown, cycle := s.cycleNo, counters := s.census.counters, tie := s.census.tie } ∧
          t.link.kinds.census = true) ∧
        t.conv.calib = none ∧
        (∀ c, s.conv.calib = some c →
          t.conv.lastCalib = some
            { done := false, target := c.target, attempts := c.attempts, code := none, cause := some .lineDown,
              offset := s.conv.offset } ∧
          t.link.kinds.calibration = true) ∧
        t.conv.offset = s.conv.offset ∧ t.conv.curve = s.conv.curve ∧ t.line.settings = s.line.settings ∧
        t.roster.expected = s.roster.expected ∧ t.roster.barred = s.roster.barred ∧ t.roster.strangers = s.roster.strangers ∧
        t.link.inbound = rest ∧ t.link.outbound = s.link.outbound ++ repliesTo q .ok [])

/-! ## Profiles, admission and the lists -/

/-- SET PROFILE stores each field of the profile it names clamped to its range; READ PROFILE answers the number and the fields;
a number above 7 is refused RANGE in both (R48). SET ADMISSION writes mode, pool and open profile together, unchanged; what
names nothing is refused RANGE, and a MIXED pool that holds the tag of an expected-list entry is refused CONFLICT (R47). -/
def Obligations.ProfilesAndAdmission : Prop :=
  (∀ (s : State) (q : Request) (rest : List Request) (n : ProfileNo) (a k : Profile), s.Offers 0x07 q rest →
    a.Sendable → q.body = byteOf n.val :: a.bytes →
    k = { length := max 192 (min 32768 a.length), period := max 1 (min 16 a.period),
          low := max (-600) (min 100 a.low), high := max (-600) (min 100 a.high), probes := max 1 (min 8 a.probes),
          spread := a.spread, missLimit := max 1 (min 15 a.missLimit), grace := max 1 (min 4095 a.grace),
          interval := max 1 a.interval, threshold := max 1 a.threshold, parkHold := a.parkHold } →
    exec .setProfile s = .next
      (({ s with roster.profiles := s.roster.profiles.set n k } : State).answered q rest
        (if k = a then .ok else .okClamped) [])) ∧
  (∀ (s : State) (q : Request) (rest : List Request) (n : ProfileNo), s.Offers 0x08 q rest → q.body = [byteOf n.val] →
    exec .readProfile s = .next (s.answered q rest .ok (byteOf n.val :: (s.roster.profiles.get n).bytes))) ∧
  (∀ (s : State) (q : Request) (rest : List Request) (b : Byte) (bs : List Byte), 7 < b.toNat → q.body = b :: bs →
    (s.Offers 0x07 q rest → bs.length = 16 → exec .setProfile s = .next (s.answered q rest .range [])) ∧
    (s.Offers 0x08 q rest → bs = [] → exec .readProfile s = .next (s.answered q rest .range []))) ∧
  (∀ (s : State) (q : Request) (rest : List Request) (m lo hi p : Byte), s.Offers 0x09 q rest →
     q.body = [m, lo, hi, p] →
     (2 < m.toNat ∨ lo.toNat = 0 ∨ 128 < hi.toNat ∨ hi.toNat < lo.toNat ∨ 7 < p.toNat →
       exec .setAdmission s = .next (s.answered q rest .range [])) ∧
     (∀ (mode : AdmissionMode) (profile : ProfileNo), m = mode.code → p = byteOf profile.val → 1 ≤ lo.toNat →
       lo.toNat ≤ hi.toNat → hi.toNat ≤ 128 →
       (mode = .mixed ∧ (∃ e ∈ s.roster.expected, lo.toNat ≤ tagNum e.tag ∧ tagNum e.tag ≤ hi.toNat) →
         exec .setAdmission s = .next (s.answered q rest .conflict [])) ∧
       (¬(mode = .mixed ∧ ∃ e ∈ s.roster.expected, lo.toNat ≤ tagNum e.tag ∧ tagNum e.tag ≤ hi.toNat) →
         exec .setAdmission s = .next
           (({ s with
               roster.mode := mode
               roster.poolLow := lo.toNat
               roster.poolHigh := hi.toNat
               roster.openProfile := profile } : State).answered q rest .ok []))))

/-- LOAD EXPECTED with one entry: the first failing check gives the entry's result, RANGE, FULL or CONFLICT, and nothing
changes; an accepted entry joins the tail of the list, and the record of its tag, where it holds the same serial, becomes
listed with the entry's profile and no change noted. Several entries are judged one after the other, each against the list
and the records as those before it leave them, with one result each (R41). DROP EXPECTED removes the
entry of a serial and makes the record that holds the serial, if any, unlisted with no change noted; a serial that no entry
holds is refused ABSENT (R42). That one record at most holds a serial is the invariant RosterShape. -/
def Obligations.ExpectedListLoadsAndDrops : Prop :=
  (∀ (s : State) (q : Request) (rest : List Request) (serial : Serial) (tb pb : Byte), s.Offers 0x0A q rest →
    q.body = beBytes 4 serial.toNat ++ [tb, pb] → tb.toNat = 0 ∨ 128 < tb.toNat ∨ 7 < pb.toNat →
    exec .loadExpected s = .next (s.answered q rest .ok [0x13])) ∧
  (∀ (s : State) (q : Request) (rest : List Request) (serial : Serial) (t : Tag) (profile : ProfileNo),
    s.Offers 0x0A q rest → q.body = beBytes 4 serial.toNat ++ [byteOf (tagNum t), byteOf profile.val] →
    (128 ≤ s.roster.expected.length → exec .loadExpected s = .next (s.answered q rest .ok [0x16])) ∧
    (s.roster.expected.length < 128 →
      s.EntryConflicts serial t →
      exec .loadExpected s = .next (s.answered q rest .ok [0x15])) ∧
    (s.roster.expected.length < 128 → (∀ e ∈ s.roster.expected, e.serial ≠ serial ∧ e.tag ≠ t) →
      (s.roster.mode = .mixed → tagNum t < s.roster.poolLow ∨ s.roster.poolHigh < tagNum t) →
      (∀ h, s.term t = some h → h.serial = serial) → (∀ u h, u ≠ t → s.term u = some h → h.serial ≠ serial) →
      ∃ u : State, exec .loadExpected s = .next u.chooseAgain ∧
        u.roster.expected = s.roster.expected ++ [{ serial := serial, tag := t, profile := profile }] ∧
        u.term t = (s.term t).map (fun h => { h with listed := true, profile := profile }) ∧
        (∀ g, g ≠ t → u.term g = s.term g) ∧ (∀ g, notNoted s u g) ∧ sameElsewhere s u ∧ u.lanes = s.lanes ∧ u.sup = s.sup ∧
        u.link.inbound = rest ∧ u.link.outbound = s.link.outbound ++ repliesTo q .ok [0x00])) ∧
  (∀ (s : State) (q : Request) (rest : List Request) (entries : List (Serial × Byte × Byte)), s.Offers 0x0A q rest →
    1 ≤ entries.length → entries.length ≤ 20 →
    q.body = entries.flatMap (fun e => beBytes 4 e.1.toNat ++ [e.2.1, e.2.2]) →
    ∃ (v : State) (results : List Byte), EntriesJudged s entries results v ∧ results.length = entries.length ∧
      exec .loadExpected s = .next (v.answered q rest .ok results)) ∧
  (∀ (s : State) (q : Request) (rest : List Request) (serial : Serial), s.Offers 0x0B q rest → s.RosterShape →
     q.body = beBytes 4 serial.toNat →
     ((∀ e ∈ s.roster.expected, e.serial ≠ serial) → exec .dropExpected s = .next (s.answered q rest .absent [])) ∧
     ((∃ e ∈ s.roster.expected, e.serial = serial) →
       ∃ u : State, exec .dropExpected s = .next u.chooseAgain ∧
         u.roster.expected = s.roster.expected.filter (fun e => e.serial != serial) ∧
         (∀ g, u.term g = (s.term g).map fun h => if h.serial = serial then { h with listed := false } else h) ∧
         (∀ g, notNoted s u g) ∧ sameElsewhere s u ∧ u.lanes = s.lanes ∧ u.sup = s.sup ∧ u.link.inbound = rest ∧
         u.link.outbound = s.link.outbound ++ repliesTo q .ok []))

/-- READ EXPECTED answers the list fill, the start, the number of entries returned and the entries, at most 40, from the
start onward; a start above 127 is refused RANGE; the list is not changed (R183). -/
def Obligations.ReadExpectedInOrder : Prop :=
  ∀ (s : State) (q : Request) (rest : List Request) (start count : Byte), s.Offers 0x0C q rest → q.body = [start, count] →
    (127 < start.toNat → exec .readExpected s = .next (s.answered q rest .range [])) ∧
    (start.toNat ≤ 127 →
      ∃ shown : List Expected,
        shown = (s.roster.expected.drop start.toNat).take shown.length ∧
        shown.length = min count.toNat (min 40 (s.roster.expected.length - start.toNat)) ∧
        exec .readExpected s = .next
          (s.answered q rest .ok
            ([byteOf s.roster.expected.length, start, byteOf shown.length] ++
              shown.flatMap fun e => beBytes 4 e.serial.toNat ++ [byteOf (tagNum e.tag), byteOf e.profile.val])))

/-- BAR SERIAL: a serial already barred changes nothing; the seventeenth is refused FULL; otherwise the serial joins the list,
and the record that holds it, if any, becomes FREE with a STAND DOWN RELEASED posted in RUNNING. LIFT BAR removes a barred
serial, and refuses another ABSENT (R43, R44). That one record at most holds a serial is the invariant RosterShape. READ
STRANGERS answers the overflow flag, the number of entries and the entries, oldest first; with option 1 the list and the
flag are then cleared, also where a quiet flag withholds the reply; an option above 1 is refused RANGE (R46). -/
def Obligations.BarsAndStrangers : Prop :=
  (∀ (s : State) (q : Request) (rest : List Request) (serial : Serial), s.Offers 0x0D q rest → s.RosterShape →
    q.body = beBytes 4 serial.toNat →
    (serial ∈ s.roster.barred → exec .barSerial s = .next (s.answered q rest .ok [])) ∧
    (serial ∉ s.roster.barred → 16 ≤ s.roster.barred.length →
      exec .barSerial s = .next (s.answered q rest .full [])) ∧
    (serial ∉ s.roster.barred → s.roster.barred.length < 16 →
      ((∀ g h, s.term g = some h → h.serial ≠ serial) →
        exec .barSerial s = .next
          (({ s with roster.barred := s.roster.barred ++ [serial] } : State).answered q rest .ok [])) ∧
      (∀ g h, s.term g = some h → h.serial = serial →
        ∃ u : State, exec .barSerial s = .next u.chooseAgain ∧ u.roster.barred = s.roster.barred ++ [serial] ∧ u.term g = none ∧
          notedOnce s u g ∧ (∀ f, f ≠ g → u.term f = s.term f ∧ notNoted s u f) ∧ g ∉ u.roster.admission ∧
          (s.line.state = .running → s.RosterPosts u (.standDown (some g) .released)) ∧
          (s.line.state ≠ .running → s.PostsNothing u) ∧
          (∀ i, h.lane = some i → (u.lanes.get i).work = none) ∧ u.roster.expected = s.roster.expected ∧
          sameElsewhere s u ∧ u.link.inbound = rest ∧
          u.link.outbound = s.link.outbound ++ repliesTo q .ok []))) ∧
  (∀ (s : State) (q : Request) (rest : List Request) (serial : Serial), s.Offers 0x0E q rest →
    q.body = beBytes 4 serial.toNat →
    (serial ∈ s.roster.barred →
      exec .liftBar s = .next
        (({ s with roster.barred := s.roster.barred.filter (fun x => x != serial) } : State).answered q rest .ok [])) ∧
    (serial ∉ s.roster.barred → exec .liftBar s = .next (s.answered q rest .absent []))) ∧
  (∀ (s : State) (q : Request) (rest : List Request) (option : Byte), s.Offers 0x0F q rest → q.body = [option] →
     (1 < option.toNat → exec .readStrangers s = .next (s.answered q rest .range [])) ∧
     (option.toNat ≤ 1 →
       ∃ body, body = [boolByte s.roster.overflowed, byteOf s.roster.strangers.length] ++
           s.roster.strangers.flatMap (fun x => beBytes 4 x.serial.toNat ++ [x.reason.code] ++ beBytes 2 x.cycle.toNat) ∧
         (option = 0 → exec .readStrangers s = .next (s.answered q rest .ok body)) ∧
         (option = 1 → exec .readStrangers s = .next
           (({ s with roster.strangers := [], roster.overflowed := false } : State).answered q rest .ok body))))

/-! ## The census requests -/

/-- START CENSUS: a mode code that names nothing is refused RANGE; outside WARMING and RUNNING, and with a census not STOPPED, it
is refused STATE; taken, it stores the five values with the pattern masked and the interval clamped, and searches from the
root with fresh counts, keeping the last pass record (R102, R103). STOP CENSUS: nothing in STOPPED and STOPPING; with an
outstanding node the stack is emptied and the census is STOPPING; with none it is STOPPED at once and the pass ends STOPPED
(R104, R112). In DARK the cycle number of the pass end is free (log 6). -/
def Obligations.CensusStartsAndStops : Prop :=
  (∀ (s : State) (q : Request) (rest : List Request) (m iv : Byte) (split pattern mask : Serial),
     s.Offers 0x10 q rest →
     q.body = [m, iv] ++ beBytes 4 split.toNat ++ beBytes 4 pattern.toNat ++ beBytes 4 mask.toNat →
     (1 < m.toNat → exec .startCensus s = .next (s.answered q rest .range [])) ∧
     (m.toNat ≤ 1 → (s.line.state = .dark ∨ s.line.state = .draining ∨ s.census.state ≠ .stopped) →
       exec .startCensus s = .next (s.answered q rest .state [])) ∧
     (∀ mode : CensusMode, m = mode.code → (s.line.state = .warming ∨ s.line.state = .running) →
       s.census.state = .stopped →
       exec .startCensus s = .next
         (({ s with
             census :=
               { s.census with
                 state := .searching
                 mode := mode
                 interval := max 1 iv.toNat
                 splitSet := split
                 effective := split &&& ~~~mask
                 rootPattern := pattern &&& mask
                 rootMask := mask
                 stack := { pattern := pattern &&& mask, mask := mask, last := 32 } :: s.census.stack
                 wait := 0
                 counters := .zero
                 tie := none } } : State).answered q rest (if iv = 0 then .okClamped else .ok) []))) ∧
  (∀ (s : State) (q : Request) (rest : List Request), s.Offers 0x11 q rest → q.body = [] →
     (s.census.state ≠ .searching → exec .stopCensus s = .next (s.answered q rest .ok [])) ∧
     (s.census.state = .searching → s.census.outstanding.isSome = true →
       exec .stopCensus s = .next
         (({ s with census := { s.census with stack := [], state := .stopping } } : State).answered q rest .ok [])) ∧
     (s.census.state = .searching → s.census.outstanding = none →
       ∃ (t : State) (cycle : CycleNo), exec .stopCensus s = .next t.chooseAgain ∧
         t.census =
           { s.census with
             stack := []
             wait := 0
             state := .stopped
             lastPass := some { kind := .stopped, cycle := cycle, counters := s.census.counters, tie := s.census.tie } } ∧
         (s.line.state ≠ .dark → cycle = s.cycleNo) ∧
         t.link =
           { s.link with
             kinds := { s.link.kinds with census := true }
             inbound := rest
             outbound := s.link.outbound ++ repliesTo q .ok [] } ∧
         t.line = s.line ∧ t.roster = s.roster ∧ t.planner = s.planner ∧ t.intake = s.intake ∧ t.lanes = s.lanes ∧
         t.sup = s.sup ∧ t.conv = s.conv))

/-! ## The requests on terminals -/

/-- READ TERMINAL answers the 57 bytes of the record as it stands, laid out as 12.4 gives them; where the reply is sent, DRIFT_SAT
and TRIM_LIMIT are cleared, which is one change if either was set; a quiet request clears nothing; a tag outside 1 to 128 is
refused RANGE (R184, R185). That unassigned bits are 0 is log 34. -/
def Obligations.ReadTerminalReports : Prop :=
  (∀ (s : State) (q : Request) (rest : List Request) (b : Byte), s.Offers 0x12 q rest → q.body = [b] →
    b.toNat = 0 ∨ 128 < b.toNat → exec .readTerminal s = .next (s.answered q rest .range [])) ∧
  (∀ (s : State) (q : Request) (rest : List Request) (g : Tag), s.Offers 0x12 q rest → q.body = [byteOf (tagNum g)] →
    ∃ bytes, s.RecordLayout g bytes ∧
    (q.quiet = true → exec .readTerminal s = .next (s.answered q rest .ok bytes)) ∧
    (q.quiet = false →
      ∃ u : State, exec .readTerminal s = .next u.chooseAgain ∧
        u.term g = (s.term g).map
          (fun h => { h with flags := { h.flags with driftSat := false, trimLimit := false } }) ∧
        ((∃ h, s.term g = some h ∧ (h.flags.driftSat = true ∨ h.flags.trimLimit = true)) → notedOnce s u g) ∧
        ((∀ h, s.term g = some h → h.flags.driftSat = false ∧ h.flags.trimLimit = false) → notNoted s u g) ∧
        (∀ f, f ≠ g → u.term f = s.term f ∧ notNoted s u f) ∧ sameElsewhere s u ∧ u.lanes = s.lanes ∧ u.sup = s.sup ∧
        u.link.inbound = rest ∧ u.link.outbound = s.link.outbound ++ repliesTo q .ok bytes))

/-- PARK TERMINAL: a FREE record is refused STATE, a tag outside 1 to 128 RANGE; any other record becomes PARKED with HOST
and hold 0, keeping serial, coarse echo, level and flags; a STAND DOWN HOST is posted in RUNNING; a HEARD record leaves
the admission queue, an ENGAGED record's lane ends, and the Supervisor drops what it holds; the change is noted unless
the record was PARKED with HOST already (R37, R30, R136, R149). -/
def Obligations.ParkTerminalHolds : Prop :=
  (∀ (s : State) (q : Request) (rest : List Request) (b : Byte), s.Offers 0x14 q rest → q.body = [b] →
    b.toNat = 0 ∨ 128 < b.toNat → exec .parkTerminal s = .next (s.answered q rest .range [])) ∧
  (∀ (s : State) (q : Request) (rest : List Request) (g : Tag), s.Offers 0x14 q rest → q.body = [byteOf (tagNum g)] →
    (s.term g = none → exec .parkTerminal s = .next (s.answered q rest .state [])) ∧
    (∀ h, s.term g = some h →
      ∃ u : State, exec .parkTerminal s = .next u.chooseAgain ∧ u.term g = some { h with phase := .parked .host 0 } ∧
        ((∃ k, h.phase = .parked .host k) → notNoted s u g) ∧ ((∀ k, h.phase ≠ .parked .host k) → notedOnce s u g) ∧
        (∀ f, f ≠ g → u.term f = s.term f ∧ notNoted s u f) ∧
        (s.line.state = .running → s.RosterPosts u (.standDown (some g) .host)) ∧
        (s.line.state ≠ .running → s.PostsNothing u) ∧
        (h.phase = .heard → g ∉ u.roster.admission) ∧ (∀ i, h.lane = some i → (u.lanes.get i).work = none) ∧
        (h.service.isSome = true → u.sup.get g = .empty) ∧ sameElsewhere s u ∧ u.roster.expected = s.roster.expected ∧
        u.roster.barred = s.roster.barred ∧ u.link.inbound = rest ∧
        u.link.outbound = s.link.outbound ++ repliesTo q .ok []))

/-- RESUME TERMINAL: a record that is not PARKED is refused STATE, a tag outside 1 to 128 RANGE; a PARKED record stays PARKED with
hold 0, reason HOST becoming NONE, which is a noted change, and every other reason kept; no line notice is posted (R38).
RELEASE TERMINAL: a FREE record does not change; any other record becomes FREE, which is a noted change; a HEARD record
leaves the admission queue, an ENGAGED record's lane ends, the Supervisor drops what it holds; STAND DOWN RELEASED is posted
in RUNNING for ENGAGED, ACTIVE and SILENT records alone; a tag outside 1 to 128 is refused RANGE (R39). -/
def Obligations.ResumeAndRelease : Prop :=
  (∀ (s : State) (q : Request) (rest : List Request) (b : Byte), s.Offers 0x15 q rest → q.body = [b] →
    b.toNat = 0 ∨ 128 < b.toNat → exec .resumeTerminal s = .next (s.answered q rest .range [])) ∧
  (∀ (s : State) (q : Request) (rest : List Request) (g : Tag), s.Offers 0x15 q rest → q.body = [byteOf (tagNum g)] →
    ((∀ h, s.term g = some h → h.park = none) → exec .resumeTerminal s = .next (s.answered q rest .state [])) ∧
    (∀ h reason hold, s.term g = some h → h.phase = .parked reason hold →
      ∃ u : State, exec .resumeTerminal s = .next u.chooseAgain ∧
        u.term g = some { h with phase := .parked (if reason = .host then .noReason else reason) 0 } ∧
        (reason = .host → notedOnce s u g) ∧ (reason ≠ .host → notNoted s u g) ∧
        (∀ f, f ≠ g → u.term f = s.term f ∧ notNoted s u f) ∧ u.line = s.line ∧ u.roster.waiting = s.roster.waiting ∧
        u.roster.admission = s.roster.admission ∧ u.lanes = s.lanes ∧ u.sup = s.sup ∧ sameElsewhere s u ∧
        u.link.inbound = rest ∧ u.link.outbound = s.link.outbound ++ repliesTo q .ok [])) ∧
  (∀ (s : State) (q : Request) (rest : List Request) (b : Byte), s.Offers 0x16 q rest → q.body = [b] →
    b.toNat = 0 ∨ 128 < b.toNat → exec .releaseTerminal s = .next (s.answered q rest .range [])) ∧
  (∀ (s : State) (q : Request) (rest : List Request) (g : Tag), s.Offers 0x16 q rest → q.body = [byteOf (tagNum g)] →
    (s.term g = none → exec .releaseTerminal s = .next (s.answered q rest .ok [])) ∧
    (∀ h, s.term g = some h →
      ∃ u : State, exec .releaseTerminal s = .next u.chooseAgain ∧ u.term g = none ∧ notedOnce s u g ∧
        (∀ f, f ≠ g → u.term f = s.term f ∧ notNoted s u f) ∧ (h.phase = .heard → g ∉ u.roster.admission) ∧
        (∀ i, h.lane = some i → (u.lanes.get i).work = none) ∧ (h.service.isSome = true → u.sup.get g = .empty) ∧
        (s.line.state = .running → h.lane.isSome = true ∨ h.service.isSome = true →
          s.RosterPosts u (.standDown (some g) .released)) ∧
        (s.line.state ≠ .running ∨ (h.lane = none ∧ h.service = none) → s.PostsNothing u) ∧
        (h.lane = none ∧ h.service = none → u.planner = s.planner) ∧
        sameElsewhere s u ∧ u.roster.expected = s.roster.expected ∧ u.roster.barred = s.roster.barred ∧
        u.link.inbound = rest ∧ u.link.outbound = s.link.outbound ++ repliesTo q .ok []))

/-! ## The converter and notice requests -/

/-- SET CONVERTER stores the window and step codes clamped to 3 and 2, and the offset made even toward zero and clamped to -14 to
+14; where one is changed the reply is OK_CLAMPED (R157, R158). CALIBRATE in RUNNING with no calibration in progress writes a
fresh record with its target clamped to 4,095, wants a dark slot, and is answered ACCEPTED; otherwise it is refused STATE
(R162). SET NOTICE MASK writes the five enables at once from bits 0 to 4 of its byte (R175; that bits 5 to 7 are ignored is
log 21). -/
def Obligations.ConverterAndMaskRequests : Prop :=
  (∀ (s : State) (q : Request) (rest : List Request) (w st ob : Byte), s.Offers 0x17 q rest → q.body = [w, st, ob] →
     ∃ (window : Fin 4) (step : Fin 3), window.val = min 3 w.toNat ∧ step.val = min 2 st.toNat ∧
       exec .setConverter s = .next
         (({ s with conv.windowCode := window, conv.stepCode := step, conv.offset := storedOffset ob.toInt } :
           State).answered q rest
           (if w.toNat ≤ 3 ∧ st.toNat ≤ 2 ∧ storedOffset ob.toInt = ob.toInt then .ok else .okClamped) [])) ∧
  (∀ (s : State) (q : Request) (rest : List Request) (n : Nat), s.Offers 0x1A q rest → n < 2 ^ 16 → q.body = beBytes 2 n →
     (s.line.state = .running → s.conv.calib = none →
       exec .calibrate s = .next
         (({ s with
             conv.calib := some { target := min 4095 n, attempts := 0, phase := .waiting, cause := none }
             planner.slotWanted := true } : State).answered q rest .accepted [])) ∧
     (s.line.state ≠ .running ∨ s.conv.calib.isSome = true →
       exec .calibrate s = .next (s.answered q rest .state []))) ∧
  (∀ (s : State) (q : Request) (rest : List Request) (b : Byte), s.Offers 0x1B q rest → q.body = [b] →
     exec .setNoticeMask s = .next
       (({ s with
           link.mask :=
             { line := b.getLsbD 0, calibration := b.getLsbD 1, census := b.getLsbD 2, terminal := b.getLsbD 3,
               plan := b.getLsbD 4 } } : State).answered q rest .ok []))

/-- SET CURVE writes the values it carries from the start index onward, each clamped to -600 to +100, stops after V[32],
leaves every other point as it was, and answers the number written; a start above 32 is refused RANGE (R160). That a
value which is not written does not make the result OK_CLAMPED is log 30. -/
def Obligations.SetCurveWrites : Prop :=
  (∀ (s : State) (q : Request) (rest : List Request) (start : Nat) (vs : List Int), s.Offers 0x18 q rest → start ≤ 32 →
    1 ≤ vs.length → vs.length ≤ 33 → (∀ v ∈ vs, fitsTwoBytes v) → q.body = byteOf start :: vs.flatMap (beSigned 2) →
    ∃ curve : Bank Int 33,
      (∀ k : Fin 33, curve.get k =
        if start ≤ k.val then
          match vs[k.val - start]? with
          | some v => max (-600) (min 100 v)
          | none => s.conv.curve.get k
        else s.conv.curve.get k) ∧
      exec .setCurve s = .next
        (({ s with conv.curve := curve } : State).answered q rest
          (if (vs.take (33 - start)).all (fun v => -600 ≤ v && v ≤ 100) then .ok else .okClamped)
          [byteOf (min vs.length (33 - start))])) ∧
  (∀ (s : State) (q : Request) (rest : List Request) (b : Byte) (bs : List Byte), s.Offers 0x18 q rest → 32 < b.toNat →
    q.body = b :: bs → bs.length % 2 = 0 → 2 ≤ bs.length → bs.length ≤ 66 →
    exec .setCurve s = .next (s.answered q rest .range []))

/-- READ CURVE answers the number of points returned and the points from the start index on, as many as asked and as lie
up to index 32; a start above 32 is refused RANGE; the curve is not changed (R161). -/
def Obligations.ReadCurveReturns : Prop :=
  ∀ (s : State) (q : Request) (rest : List Request) (start count : Byte), s.Offers 0x19 q rest → q.body = [start, count] →
    (32 < start.toNat → exec .readCurve s = .next (s.answered q rest .range [])) ∧
    (start.toNat ≤ 32 →
      ∃ points : List Int, points.length = min count.toNat (33 - start.toNat) ∧
        (∀ (j : Nat) (k : Fin 33), k.val = start.toNat + j → j < points.length →
          points[j]? = some (s.conv.curve.get k)) ∧
        exec .readCurve s = .next
          (s.answered q rest .ok (byteOf points.length :: points.flatMap (beSigned 2))))

/-! ## The cycle -/

/-- A cycle start, where the next head and plan are there: the cycle number goes up by one modulo 65,536, the start is the last
start plus the last length, the held head goes out, laid out as 12.6 gives it, the held plan is issued and enters the store with every window OPEN, a
park hold above 0 goes down by one, warm-up remaining by one, and draining remaining by one where a draining cycle has ended
(R3, R6, R9, R35, R65, R86, R191; which cycle is a draining cycle is log 13). Where no frame end is overdue, the census wait
goes down by one, and the attempt whose dark slot the plan carries is counted and PLACED at its slot's start tick (R105,
R163). Where the store holds two plans, the frame end of the first is overdue and is taken before the cycle start (log 4). That
State holds the head last sent is log 17, that bits 1 to 7 of its flags byte are 0 log 35 (DESIGN CHOICEs). -/
def Obligations.CycleStartIssues : Prop :=
  ∀ (s : State) (c : Cycle) (len : Nat) (h : Head) (p : Plan), s.line.state ≠ .dark → s.line.cycle = some c →
    c.next = some len → s.line.head = some h → s.planner.built = some p →
    ∃ t : State, exec .cycleStart s = .next t.chooseAgain ∧
      t.line.cycle = some { num := c.num + 1, start := c.start + BitVec.ofNat 32 c.len, len := len, next := none } ∧
      t.line.tick = c.start + BitVec.ofNat 32 c.len ∧ t.cycleMark = true ∧
      t.line.headOut = h.bytes ∧ HeadLayout h t.line.headOut ∧
      t.line.head = none ∧ t.planner.built = none ∧ t.planner.framerPlan = some p ∧
      t.intake.store = (if 2 ≤ s.intake.store.length then s.intake.store.tail else s.intake.store) ++
        [{ cycle := p.cycle, start := c.start + BitVec.ofNat 32 c.len, len := p.len, slot := p.slot,
           windows := p.grants.map fun g =>
             { grant := g, state := .opened, quality := none, garble := false, sighted := false } }] ∧
      (∀ g k reason hold, s.term g = some k → k.phase = .parked reason hold →
        t.term g = some { k with phase := .parked reason (hold - 1) }) ∧
      (s.line.state = .warming → t.line.warmup = s.line.warmup - 1 ∧
        t.line.state = if s.line.warmup ≤ 1 then .running else .warming) ∧
      (s.line.state ≠ .warming → t.line.state = s.line.state) ∧
      (s.line.state = .draining → t.line.drainCycle = true ∧
        t.line.drainLeft = if s.line.drainCycle then s.line.drainLeft - 1 else s.line.drainLeft) ∧
      (s.intake.store.length < 2 → t.census.wait = s.census.wait - 1 ∧
        (∀ k span, s.conv.calib = some k → k.phase = .waiting → p.slot = some span →
          t.conv.calib = some
            { k with
              attempts := k.attempts + 1
              phase := .placed
                { cycle := p.cycle, span := span,
                  startTick := c.start + BitVec.ofNat 32 c.len +
                    BitVec.ofNat 32 (s.line.settings.ref + span.first) } }) ∧
        (s.conv.calib = none ∨ p.slot = none → t.conv.calib = s.conv.calib)) ∧
      (∀ frame, s.link.tx = .sending frame → s.intake.store.length = 2 →
        ∃ u : State, exec .frameEnd s = .next u ∧ exec .cycleStart u = exec .cycleStart s) ∧
      t.line.settings = s.line.settings ∧ t.line.pendingLen = s.line.pendingLen ∧
      t.roster.expected = s.roster.expected ∧ t.roster.barred = s.roster.barred ∧ t.link.inbound = s.link.inbound ∧
      t.link.outbound = s.link.outbound

/-- What a cycle start in RUNNING posts, where no frame end is overdue (log 4). Into the line notice queue of 16, in this
order: the Roster's waiting entries, a STAND DOWN LOST for each record whose grace ends, the lanes' waiting notices in lane
order, the waiting NUDGEs in ascending tag order; what finds the queue full waits (R13, R147). Into the one-shot queue of 8:
an OFFER REPLY or a TRIM CHECK for each lane whose TAG OFFER or HOLDOFF departs in the head, in lane order, then, less the
RETURNs of the records that lose their grace, a RETURN for each record that is due (R78, R124, R132, R145). A NUDGE that
departs is no longer outstanding, and its cycle is noted (R63). A SILENT record's grace goes down by one (R147). The order of
the lanes' postings and the withdrawals is log 32, of the grace countdowns and the RETURNs log 33 (DESIGN
CHOICEs); that a LOST record's waiting NUDGE is posted on is log 31 (DEDUCED). -/
def Obligations.CycleStartPostsInOrder : Prop :=
  ∀ (s : State) (c : Cycle) (len : Nat) (h : Head) (p : Plan) (lost queue : List OneShot)
    (posted : List LineNotice), s.line.state = .running → s.line.cycle = some c → c.next = some len →
    s.line.head = some h → s.planner.built = some p → s.intake.store.length < 2 → s.line.notices.length ≤ 16 →
    s.planner.shots.length ≤ 8 →
    posted = s.line.notices ++ s.roster.waiting ++ s.lostNotices →
    lost = (s.planner.shots ++ lanesInOrder.filterMap (s.departureEntry h.notices)).take 8 →
    queue = lost.filter (fun e => !(e.owner == .supervisor && s.losesGrace e.tag)) →
    ∃ t : State, exec .cycleStart s = .next t.chooseAgain ∧
      t.line.notices =
        (posted ++ lanesInOrder.filterMap s.waitingNotice ++ tagsInOrder.filterMap s.waitingNudge).take 16 ∧
      t.roster.waiting = (s.roster.waiting ++ s.lostNotices).drop (16 - s.line.notices.length) ∧
      t.planner.shots = (queue ++ (tagsInOrder.filter (s.returnsAt (c.num + 1))).map returnEntry).take 8 ∧
      (∀ i w e, s.work i = some w → s.departureEntry h.notices i = some e →
        t.work i = some
          { w with
            notice := .absent
            shot :=
              if s.planner.shots.length +
                  ((lanesInOrder.filter fun j => decide (j < i)).filterMap (s.departureEntry h.notices)).length < 8
              then .queued else .waiting e }) ∧
      (∀ i w body, s.work i = some w → w.notice = .waiting body →
        t.work i = some
          { w with
            notice :=
              if posted.length + ((lanesInOrder.filter fun j => decide (j < i)).filterMap s.waitingNotice).length < 16
              then .queued body else .waiting body }) ∧
      (∀ i, (t.lanes.get i).seizure = (s.lanes.get i).seizure ∧
        ((∀ w, s.work i = some w → s.carriesOf h.notices i w = none ∧ ∀ body, w.notice ≠ .waiting body) →
          t.work i = s.work i)) ∧
      (∀ g k v v', s.term g = some k →
        ((∃ d, ⟨.nudge g d, .supervisor⟩ ∈ h.notices) ∧ v.nudgeOut = true →
          v' = { v with nudgeOut := false, nudgeCycle := some (c.num + 1) }) →
        (¬((∃ d, ⟨.nudge g d, .supervisor⟩ ∈ h.notices) ∧ v.nudgeOut = true) → v' = v) →
        (k.phase = .active v → t.term g = some { k with phase := .active v' } ∧ notNoted s t g) ∧
        (∀ since grace, k.phase = .silent v since grace → 1 < grace →
          t.term g = some
            { k with
              phase := .silent (if s.returnsAt (c.num + 1) g then { v' with returnOut := true } else v') since
                (grace - 1) } ∧
          notNoted s t g)) ∧
      (∀ g, (t.sup.get g).held = (s.sup.get g).held ∧
        (t.sup.get g).waitReturn =
          (if s.losesGrace g then false
           else if s.returnsAt (c.num + 1) g ∧
              8 ≤ queue.length + (tagsInOrder.filter fun f => decide (f < g) && s.returnsAt (c.num + 1) f).length
           then true else (s.sup.get g).waitReturn) ∧
        (t.sup.get g).waitNudge =
          (if posted.length + (lanesInOrder.filterMap s.waitingNotice).length +
              ((tagsInOrder.filter fun f => decide (f < g)).filterMap s.waitingNudge).length < 16
           then none else (s.sup.get g).waitNudge))

/-- The warm-up ends at the cycle start at which warm-up remaining reaches 0: the line enters RUNNING, the change is counted, LINE
is pending; at no other moment does the command do anything of its own (R3, R7; the two commands for one event are log 3).
At the end of the fourth draining cycle the enable is deasserted, the line is DARK, draining remaining is 0, no cycle runs,
nothing more is sent, and the change of state is counted; at no other moment does the command do anything of its own (R6,
R7, R86). That a command outside its moment is no event is log 1 (DESIGN CHOICE), that the fourth draining cycle is told by
`drainCycle` log 13 (DEDUCED). -/
def Obligations.WarmupAndDrainingEnd : Prop :=
  (∀ (s : State) (c : Cycle) (len : Nat) (h : Head) (p : Plan), s.line.state = .warming → s.line.warmup = 1 →
    s.line.cycle = some c → c.next = some len → s.line.head = some h → s.planner.built = some p →
    ∃ t : State, exec .warmupEnd s = .next t.chooseAgain ∧ exec .cycleStart s = .next t.chooseAgain ∧ t.line.state = .running ∧
      t.line.prev = .warming ∧ t.line.warmup = 0 ∧ t.line.transitions = min 255 (s.line.transitions + 1) ∧
      t.link.kinds.line = true ∧ t.line.cycle.map Cycle.num = some (c.num + 1)) ∧
  (∀ s : State, s.line.state ≠ .warming ∨ 1 < s.line.warmup → exec .warmupEnd s = .next s.chooseAgain) ∧
  (∀ (s : State) (c : Cycle), s.line.state = .draining → s.line.drainCycle = true → s.line.drainLeft = 1 →
    s.line.cycle = some c →
    exec .drainingEnd s = .next
      ({ s with
        line.state := .dark
        line.prev := .draining
        line.transitions := min 255 (s.line.transitions + 1)
        line.tick := c.start + BitVec.ofNat 32 c.len
        line.txEnable := false
        line.cycle := none
        line.warmup := 0
        line.drainLeft := 0
        line.drainCycle := false
        line.head := none
        planner.built := none
        intake.store := []
        link.kinds.line := true } : State).chooseAgain) ∧
  (∀ s : State, s.line.state ≠ .draining ∨ 1 < s.line.drainLeft → exec .drainingEnd s = .next s.chooseAgain)

/-- At the cycle start at which a SILENT record's grace reaches 0 the record is PARKED with LOST and its profile's park hold, the
change is noted once, its RETURN entry is withdrawn, queued or waiting, and a STAND DOWN LOST is posted: behind the Roster's
waiting entries and the STAND DOWNs LOST of lower tags, at the tail of the queue or, where it is full, behind those that wait
(R13, R34, R147). What becomes of its waiting NUDGE is said by CycleStartPostsInOrder (R63; log 31). That the two commands are one event is log 3, that an overdue frame end comes first log 4, and that the
command at another moment is no event log 1 (DESIGN CHOICEs). -/
def Obligations.GraceExpiryParksLost : Prop :=
  (∀ (s : State) (c : Cycle) (len : Nat) (h : Head) (p : Plan) (g : Tag) (k : Terminal) (svc : Service)
    (since : CycleNo),
    s.line.state = .running → s.line.cycle = some c → c.next = some len → s.line.head = some h →
    s.planner.built = some p → s.term g = some k → k.phase = .silent svc since 1 →
    ∃ t : State, exec (.graceExpiry g) s = .next t.chooseAgain ∧ exec .cycleStart s = .next t.chooseAgain ∧
      t.term g = some { k with phase := .parked .lost (s.roster.profiles.get k.profile).parkHold } ∧ notedOnce s t g ∧
      (t.sup.get g).waitReturn = false ∧ (∀ e ∈ t.planner.shots, ¬(e.owner = .supervisor ∧ e.tag = g)) ∧
      ⟨.standDown (some g) .lost, .roster⟩ ∈ t.line.notices ++ t.roster.waiting ∧
      (s.intake.store.length < 2 → s.line.notices.length ≤ 16 →
        ⟨.standDown (some g) .lost, .roster⟩ ∈ s.lostNotices ∧
        (s.line.notices ++ s.roster.waiting ++ s.lostNotices).take 16 <+: t.line.notices ∧
        t.roster.waiting = (s.roster.waiting ++ s.lostNotices).drop (16 - s.line.notices.length))) ∧
  (∀ (s : State) (g : Tag), (∀ k, s.term g = some k → k.silence = none) → exec (.graceExpiry g) s = .next s.chooseAgain)

/-! ## The plan close -/

/-- A plan close, once in each lit cycle: it falls floor(L x f / 100) ticks after the cycle's start, latches the pending length,
and in WARMING and in the first three draining cycles builds an empty plan with its head; in the fourth draining cycle it
builds none (R6, R10, R12, R65). That a plan close with no cycle, or with the next length latched already, is no event is log
1 (DESIGN CHOICE), and which draining cycle is in progress is told by `drainCycle`, log 13 (DEDUCED). -/
def Obligations.PlanCloseLatchesLength : Prop :=
  (∀ (s : State) (c : Cycle), s.line.state ≠ .dark → s.line.cycle = some c → c.next = none →
    s.line.settings.closeCode ≤ 3 →
    ∃ t : State, exec .planClose s = .next t.chooseAgain ∧
      t.line.tick = c.start + BitVec.ofNat 32 (c.len * (80 + 5 * s.line.settings.closeCode) / 100) ∧
      t.line.cycle = some { c with next := some s.line.pendingLen } ∧ t.line.state = s.line.state ∧
      ((s.line.state = .warming ∨ (s.line.state = .draining ∧ (s.line.drainCycle = false ∨ 1 < s.line.drainLeft))) →
        t.planner.built = some { cycle := c.num + 1, len := s.line.pendingLen, slot := none, grants := [] } ∧
        t.line.head = some
          { cycle := c.num + 1, draining := s.line.state == .draining, grants := [],
            notices := if s.line.state = .draining then [{ body := .standDown none .lineDown, poster := .lineTimer }] else [] }) ∧
      (s.line.state = .draining → s.line.drainCycle = true → s.line.drainLeft ≤ 1 →
        t.planner.built = none ∧ t.line.head = none) ∧
      (s.line.state ≠ .running →
        t.line.notices = s.line.notices ∧ t.planner.shots = s.planner.shots ∧ t.planner.sweep = s.planner.sweep ∧
        t.planner.overruns = s.planner.overruns ∧ t.census = s.census ∧ t.roster = s.roster ∧ t.lanes = s.lanes ∧
        t.link = s.link)) ∧
  (∀ s : State, s.line.cycle = none ∨ (∃ c n, s.line.cycle = some c ∧ c.next = some n) →
    exec .planClose s = .next s.chooseAgain)

/-- A plan close in RUNNING builds the plan of the next cycle against the pending length: at most 64 grants, every occupancy
within the frame, any two of them, and each of them and the dark slot, at least the guard apart; the head carries the plan's
grants and the first line notices of the queue, at most 8 (R12, R14, R65, R68, R70). -/
def Obligations.PlanIsSpacedByGuard : Prop :=
  ∀ (s : State) (c : Cycle), s.line.state = .running → s.line.cycle = some c → c.next = none →
    ∃ (t : State) (p : Plan), exec .planClose s = .next t.chooseAgain ∧ t.planner.built = some p ∧ p.cycle = c.num + 1 ∧ p.len = s.line.pendingLen ∧
      t.line.cycle = some { c with next := some s.line.pendingLen } ∧
      t.line.head = some
        { cycle := c.num + 1, draining := false, grants := p.grants, notices := s.line.notices.take 8 } ∧
      p.grants.length ≤ 64 ∧
      p.grants.Pairwise (fun a b => a.stop + s.line.settings.guard ≤ b.first) ∧
      (∀ g ∈ p.grants, g.first ≤ g.stop ∧ g.stop ≤ p.len) ∧
      (∀ d ∈ p.slot, d.stop ≤ p.len ∧ d.stop = d.first + sampleWindow s.conv.windowCode ∧
        ∀ g ∈ p.grants, g.stop + s.line.settings.guard ≤ d.first ∨ d.stop + s.line.settings.guard ≤ g.first)

/-- What a plan close in RUNNING places, each item at the next start behind those before it (R68). First, where a gap is due
and fits, the census gap of the stack's top node at 0: the node is popped and outstanding, and the gap counted (R50, R69,
R106). Then a wanted dark slot as long as the sample window, where it fits, and the request becomes NONE (R70). Then, in
ascending tag order, each due ACTIVE record's standing grant, or none where it does not fit (R71, R72). Then the one-shot
entries from the head of their queue, until one does not fit (R74), each with its window point and start (R50). Of the
standing grants one carries the capture mark: the lowest tag above the sweep pointer, else the lowest, and the pointer moves
to it (R75). That the admission queue holds HEARD records alone is the invariant RosterShape; that a gap or a dark slot which
would not fit is not placed, and stays due, is log 27 (DESIGN CHOICE): with every setting in its range both always fit (R69,
R70). -/
def Obligations.PlanPlacesWhatIsDue : Prop :=
  ∀ (s : State) (c : Cycle) (len gap : Nat) (ls : LineSettings), s.RosterShape → s.line.state = .running →
    s.line.cycle = some c → c.next = none → len = s.line.pendingLen → ls = s.line.settings →
    gap = (ls.ref - ls.eMin) + 256 + ls.wu → (∀ e ∈ s.planner.shots, e.kind ≠ .census ∧ e.kind ≠ .standing) →
    ∃ (t : State) (p : Plan) (census standing shots : List Grant), exec .planClose s = .next t.chooseAgain ∧
      t.planner.built = some p ∧ p.cycle = c.num + 1 ∧ p.len = len ∧ p.grants = census ++ standing ++ shots ∧
      (∀ n rest, s.census.state = .searching ∧ s.census.stack = n :: rest ∧ s.census.outstanding = none ∧
          s.census.wait = 0 ∧ gap ≤ len →
        census = [{ kind := .census, owner := .census, tag := none, pattern := n.pattern, mask := n.mask, first := 0,
                    stop := gap, point := none, start := (ls.ref : Int) - ls.eMin, length := 256, seq := false,
                    capture := false, coarse := none }] ∧
        t.census =
          { s.census with
            stack := rest
            outstanding := some { node := n, gapStart := 0, cycle := c.num + 1 }
            counters := { s.census.counters with gaps := min 65535 (s.census.counters.gaps + 1) } }) ∧
      (s.census.state ≠ .searching ∨ s.census.stack = [] ∨ s.census.outstanding ≠ none ∨ s.census.wait ≠ 0 ∨ len < gap →
        census = [] ∧ t.census = s.census) ∧
      (∀ first size, first = nextStart ls.guard none census → size = [32, 64, 128, 192].getD s.conv.windowCode.val 0 →
        (s.planner.slotWanted = true ∧ first + size ≤ len →
          p.slot = some { first := first, stop := first + size } ∧ t.planner.slotWanted = false) ∧
        (s.planner.slotWanted = false ∨ len < first + size →
          p.slot = none ∧ t.planner.slotWanted = s.planner.slotWanted)) ∧
      (∀ g ∈ standing, ∃ f n, g.tag = some f ∧ s.Due (c.num + 1) f n) ∧
      (∀ f n before first, s.Due (c.num + 1) f n →
        before = census ++ standing.filter (fun g => g.tag.any fun x => decide (x < f)) →
        first = nextStart ls.guard p.slot before →
        (first + n + 2 * ls.wt ≤ len ∧ before.length < 64 →
          ∃ mark, standing.filter (fun g => g.tag == some f) =
            [{ kind := .standing, owner := .supervisor, tag := some f, pattern := 0, mask := 0, first := first,
               stop := first + n + 2 * ls.wt, point := some (first + ls.wt), start := (first : Int) + ls.wt,
               length := n, seq := false, capture := mark, coarse := none }]) ∧
        (len < first + n + 2 * ls.wt ∨ 64 ≤ before.length → standing.filter (fun g => g.tag == some f) = [])) ∧
      shots.length ≤ s.planner.shots.length ∧
      (∀ (k : Nat) e g, s.planner.shots[k]? = some e → shots[k]? = some g →
        PlacedShot ls e (nextStart ls.guard p.slot (census ++ standing ++ shots.take k)) g ∧ g.stop ≤ len) ∧
      (∀ e, s.planner.shots[shots.length]? = some e →
        len < nextStart ls.guard p.slot p.grants + entrySize ls e ∨ 64 ≤ p.grants.length) ∧
      (standing = [] → t.planner.sweep = s.planner.sweep) ∧
      (∀ g ∈ standing, ∀ f, g.tag = some f →
        ((s.planner.sweep < tagNum f ∧ (∀ x ∈ standing, ∀ y, x.tag = some y → y < f → tagNum y ≤ s.planner.sweep)) ∨
          ((∀ x ∈ standing, ∀ y, x.tag = some y → tagNum y ≤ s.planner.sweep ∧ f ≤ y)) ↔ g.capture = true) ∧
        (g.capture = true → t.planner.sweep = tagNum f))

/-- What a plan close in RUNNING leaves of the queues, once its one-shot entries are placed (`shots`, as PlanPlacesWhatIsDue
places them). A due record with no standing grant makes the plan an overrun: it is counted once, with its cycle number, and
PLAN is pending (R73). A placed entry leaves the queue and its owner is told: a lane that waits for it has it PLACED, with
nothing held, and a SILENT record's RETURN is no longer outstanding (R74, R119, R121, R139). The entries that wait are then
posted again, the lanes' in lane order and the RETURNs in ascending tag order, and what finds the queue full waits on (R79).
That the lanes and the queue hold what they may is the invariants RosterShape and Capacities. -/
def Obligations.PlanCloseSettlesQueues : Prop :=
  ∀ (s : State) (c : Cycle), s.Capacities → s.RosterShape → s.line.state = .running → s.line.cycle = some c →
    c.next = none → (∀ e ∈ s.planner.shots, e.kind ≠ .census ∧ e.kind ≠ .standing) →
    ∃ (t : State) (p : Plan) (shots : List Grant) (left : List OneShot), exec .planClose s = .next t.chooseAgain ∧
      t.planner.built = some p ∧ shots = p.grants.filter (fun g => g.kind != .census && g.kind != .standing) ∧
      left = s.planner.shots.drop shots.length ∧
      ((∃ g n, s.Due (c.num + 1) g n ∧ ∀ x ∈ p.grants, ¬(x.kind = .standing ∧ x.tag = some g)) →
        t.planner.overruns = min 65535 (s.planner.overruns + 1) ∧ t.planner.lastOverrun = some (c.num + 1) ∧
        t.link.kinds = { s.link.kinds with plan := true }) ∧
      ((∀ g n, s.Due (c.num + 1) g n → ∃ x ∈ p.grants, x.kind = .standing ∧ x.tag = some g) →
        t.planner.overruns = s.planner.overruns ∧ t.planner.lastOverrun = s.planner.lastOverrun ∧
        t.link.kinds = s.link.kinds) ∧
      (∀ (k : Nat) e i w, k < shots.length → s.planner.shots[k]? = some e → e.owner = .lane i → s.work i = some w →
        w.shot = .queued → (∀ (j : Nat) x, j < k → s.planner.shots[j]? = some x → x.owner ≠ .lane i) →
        t.work i = some { w with shot := .placed (c.num + 1) e.kind, held := .empty }) ∧
      (∀ (k : Nat) e h svc since grace, k < shots.length → s.planner.shots[k]? = some e → e.owner = .supervisor →
        s.term e.tag = some h → h.phase = .silent svc since grace →
        t.term e.tag = some { h with phase := .silent { svc with returnOut := false } since grace } ∧
        notNoted s t e.tag) ∧
      (∀ waiting returns,
        waiting = lanesInOrder.filterMap (fun i => (s.work i).bind fun w =>
          match w.shot with | .waiting e => some (i, e) | _ => none) →
        returns = tagsInOrder.filter (fun g => (s.sup.get g).waitReturn) →
        t.planner.shots = (left ++ waiting.map Prod.snd ++ returns.map returnEntry).take 8 ∧
        (∀ i w e, s.work i = some w → w.shot = .waiting e →
          t.work i = some
            { w with
              shot :=
                if left.length + (waiting.filter fun x => decide (x.1 < i)).length < 8 then .queued else .waiting e }) ∧
        (∀ g, (s.sup.get g).waitReturn = true →
          ((t.sup.get g).waitReturn = true ↔
            8 ≤ left.length + waiting.length + (returns.filter fun f => decide (f < g)).length)))

/-- A plan close in RUNNING takes the first line notices, at most 8, out of their queue (R14), and every FREE lane, in lane order,
takes the tag at the head of the admission queue while one is there: the record becomes ENGAGED to the lane, which is a noted
change, the lane's seizure number goes up by one, it starts in OFFER with 3 attempts and nothing held, and its TAG OFFER is
queued; no other lane seizes (R30, R120). So the queue then holds what was behind the notices taken, and the TAG OFFERs in lane
order. That the admission queue holds HEARD records alone, and the queues' sizes, are invariants. That each TAG OFFER finds room
rests on log 10 (DEDUCED): the head's notices leave the queue before the lanes seize. -/
def Obligations.PlanCloseSeizes : Prop :=
  ∀ (s : State) (c : Cycle) (seized : List (LaneNo × Tag)), s.Capacities → s.RosterShape → s.line.state = .running →
    s.line.cycle = some c → c.next = none →
    seized = (lanesInOrder.filter fun i => (s.work i).isNone).zip s.roster.admission →
    ∃ t : State, exec .planClose s = .next t.chooseAgain ∧
      t.roster.admission = s.roster.admission.drop seized.length ∧ t.roster.waiting = s.roster.waiting ∧
      t.line.notices = s.line.notices.drop 8 ++ seized.filterMap (fun x => (s.term x.2).map fun h =>
        ⟨.tagOffer h.serial x.2, .lane x.1 ((s.lanes.get x.1).seizure + 1)⟩) ∧
      (∀ x ∈ seized, ∃ h, s.term x.2 = some h ∧ t.term x.2 = some { h with phase := .engaged x.1 none } ∧
        notedOnce s t x.2 ∧
        t.lanes.get x.1 =
          { seizure := (s.lanes.get x.1).seizure + 1
            work := some
              { tag := x.2, stage := .offer 3, lastFailure := none, notice := .queued (.tagOffer h.serial x.2),
                shot := .absent, held := { result := none, answer := none, close := none } } }) ∧
      (∀ i, (∀ x ∈ seized, x.1 ≠ i) →
        (t.lanes.get i).seizure = (s.lanes.get i).seizure ∧ (s.work i = none → t.work i = none)) ∧
      (∀ g, (∀ x ∈ seized, x.2 ≠ g) →
        notNoted s t g ∧ ((∀ h, s.term g = some h → h.silence = none) → t.term g = s.term g))

/-! ## Burst reports -/

/-- What the receiver reads from the 12 bytes of a header is the report (R84, R192); a shorter header is log 16. A burst report
outside RUNNING leaves no trace but the tick at which it is taken (R85). In RUNNING a burst in no stored
frame is counted as a stray and no more. So is a burst in a frame but in no OPEN window: in a guard, behind the last
occupancy, in the dark slot, or in a window that is MATCHED or CLOSED (R87, R88, R93, R95); it adds nothing else but an
intrusion where it meets the dark slot, and a sighting where it is a clean TRIM ACK, which an OPEN TRIM CHECK window of its
tag keeps (R94, R97). A burst in an OPEN window of a grant other than CENSUS is matched, with the quality of the table of R89.
In an OPEN census window a burst that is not clean leaves the garble mark, and a clean one that is no CENSUS REPLY matching
the grant is a stray (R92). -/
def Obligations.BurstReportIsJudged : Prop :=
  ∀ (s : State) (arrival taken : Tick) (header : List Byte) (check overlap : Bool) (r : Report),
    r = reportOf arrival header check overlap →
    (∀ code a0 a1 a2 a3 l0 l1 status e0 e1 e2 e3, header = [code, a0, a1, a2, a3, l0, l1, status, e0, e1, e2, e3] →
      ReadsHeader arrival code a0 a1 a2 a3 l0 l1 status e0 e1 e2 e3 check overlap r) ∧
    (s.line.state ≠ .running →
      exec (.burstReport arrival header check overlap taken) s =
        .next ({ s with line.tick := taken } : State).chooseAgain) ∧
    (s.line.state = .running →
      ((∀ p ∈ s.intake.store, p.len ≤ (arrival - (p.start + BitVec.ofNat 32 s.line.settings.ref)).toNat) →
        exec (.burstReport arrival header check overlap taken) s = .next
          ({ s with line.tick := taken, intake.strays := s.intake.strays + 1 } : State).chooseAgain) ∧
      (∀ k plan pos, s.InFrame arrival k plan pos → (∀ w ∈ plan.windows, w.Covers pos → w.state ≠ .opened) →
        ∃ t : State, exec (.burstReport arrival header check overlap taken) s = .next t.chooseAgain ∧
          t.line.tick = taken ∧ t.intake.strays = s.intake.strays + 1 ∧ t.sup = s.sup ∧ t.census = s.census ∧
          (¬(r.check = true ∧ r.overlap = false ∧ r.kind = .trimAck) → t.intake.store = s.intake.store ∧
            t.roster = s.roster ∧ t.lanes = s.lanes ∧ t.line.notices = s.line.notices ∧
            (¬plan.slotMet pos r.length →
              t = { s with line.tick := taken, intake.strays := s.intake.strays + 1 })) ∧
          (∀ (j : Nat) w, r.check = true → r.overlap = false → r.kind = .trimAck → plan.windows[j]? = some w →
            w.grant.kind = .trimCheck → r.carriesTag w.grant → w.state = .opened →
            (∀ i v, i < j → plan.windows[i]? = some v → ¬(v.grant.kind = .trimCheck ∧ r.carriesTag v.grant)) →
            t.intake.store =
              s.intake.store.set k { plan with windows := plan.windows.set j { w with sighted := true } } ∧
            t.roster = s.roster ∧ t.lanes = s.lanes)) ∧
      (∀ k plan pos j w, s.Lands arrival k plan pos j w → w.state = .opened →
        (w.grant.kind ≠ .census → ∀ quality, Judged r w.grant pos quality →
          ∃ t : State, exec (.burstReport arrival header check overlap taken) s = .next t.chooseAgain ∧
            t.line.tick = taken ∧ t.intake.strays = s.intake.strays ∧
            t.intake.store = s.intake.store.set k
              { plan with windows := plan.windows.set j { w with state := .matched, quality := some quality } }) ∧
        (w.grant.kind = .census → ¬plan.slotMet pos r.length →
          (r.check = false ∨ r.overlap = true →
            exec (.burstReport arrival header check overlap taken) s = .next
              ({ s with
                line.tick := taken
                intake.store := s.intake.store.set k
                  { plan with windows := plan.windows.set j { w with garble := true } } } : State).chooseAgain) ∧
          (r.check = true → r.overlap = false → r.kind ≠ .trimAck →
            (r.kind ≠ .censusReply ∨
              ∃ serial, r.address = .serial serial ∧ serial &&& w.grant.mask ≠ w.grant.pattern) →
            exec (.burstReport arrival header check overlap taken) s = .next
              ({ s with line.tick := taken, intake.strays := s.intake.strays + 1 } : State).chooseAgain))))

/-- A clean CENSUS REPLY that matches the pattern of its OPEN census window is a hearing: it is counted, and the Roster decides
it with the coarse echo p − o + E_min clamped to E_min to Ref (R52, R92, R107). A barred serial is hushed (R25). A record that
holds the serial is refreshed in HEARD, ignored in ENGAGED, ACTIVE and SILENT, hushed while parked by the host or while its
hold runs, and otherwise admitted again (R26, R28). A new serial takes the record of its expected-list entry, else, but in
LISTED mode, the lowest FREE tag that is not reserved, in MIXED mode from the pool; where there is none it is refused as a
stranger (R27, R29, R45). Each result has its pass counter (R114). That one record at most holds a serial, and that no
barred serial is held, is the invariant RosterShape; E_min at most Ref is the invariant SettingsInRange. -/
def Obligations.HearingIsDecided : Prop :=
  ∀ (s : State) (arrival taken : Tick) (header : List Byte) (check overlap : Bool) (r : Report) (k : Nat)
    (plan : StoredPlan) (pos j : Nat) (w : Window) (serial : Serial) (coarse : Int) (heard : PassCounters),
    s.line.state = .running → s.RosterShape → s.line.settings.eMin ≤ s.line.settings.ref →
    r = reportOf arrival header check overlap → s.Lands arrival k plan pos j w → w.state = .opened →
    w.grant.kind = .census → r.check = true → r.overlap = false → r.kind = .censusReply →
    r.address = .serial serial → serial &&& w.grant.mask = w.grant.pattern →
    coarse = max (s.line.settings.eMin : Int)
      (min (s.line.settings.ref : Int) ((pos : Int) - w.grant.first + s.line.settings.eMin)) →
    heard = { s.census.counters with heard := min 65535 (s.census.counters.heard + 1) } →
    ∃ t : State, exec (.burstReport arrival header check overlap taken) s = .next t.chooseAgain ∧
      t.line.tick = taken ∧ t.intake = s.intake ∧ t.lanes = s.lanes ∧ t.sup = s.sup ∧
      t.roster.expected = s.roster.expected ∧ t.roster.barred = s.roster.barred ∧
      { t.census with counters := s.census.counters } = s.census ∧
      (serial ∈ s.roster.barred →
        t.census.counters = { heard with hushed := min 65535 (heard.hushed + 1) } ∧
        s.Hushes t serial s.line.settings.hush) ∧
      (∀ g h, s.term g = some h → h.serial = serial →
        (h.phase = .heard →
          t.census.counters = { heard with refreshed := min 65535 (heard.refreshed + 1) } ∧
          t.term g = some { h with coarse := coarse } ∧ notNoted s t g ∧ sameOtherRecords s t g ∧
          t.roster.admission = s.roster.admission ∧ t.line.notices = s.line.notices) ∧
        (h.lane.isSome = true ∨ h.service.isSome = true →
          t.census.counters = { heard with ignored := min 65535 (heard.ignored + 1) } ∧ t.roster = s.roster ∧
          t.line.notices = s.line.notices) ∧
        (∀ reason hold, h.phase = .parked reason hold →
          (reason = .host →
            t.census.counters = { heard with hushed := min 65535 (heard.hushed + 1) } ∧
            s.Hushes t serial s.line.settings.hush) ∧
          (reason ≠ .host → 0 < hold →
            t.census.counters = { heard with hushed := min 65535 (heard.hushed + 1) } ∧ s.Hushes t serial hold) ∧
          (reason ≠ .host → hold = 0 → ∀ listed profile,
            (∀ e ∈ s.roster.expected, e.serial = serial → listed = true ∧ profile = e.profile) →
            ((∀ e ∈ s.roster.expected, e.serial ≠ serial) → listed = false ∧ profile = h.profile) →
            t.census.counters = { heard with admitted := min 65535 (heard.admitted + 1) } ∧
            t.term g = some
              { h with
                coarse := coarse
                heardCycle := s.cycleNo
                level := none
                flags := { levelAlarm := false, rxLow := false, driftSat := false, trimLimit := false }
                listed := listed
                profile := profile
                phase := .heard } ∧
            notedOnce s t g ∧ sameOtherRecords s t g ∧ t.roster.admission = s.roster.admission ++ [g] ∧
            t.line.notices = s.line.notices))) ∧
      (serial ∉ s.roster.barred → (∀ g h, s.term g = some h → h.serial ≠ serial) →
        (∀ e ∈ s.roster.expected, e.serial = serial →
          t.census.counters = { heard with admitted := min 65535 (heard.admitted + 1) } ∧
          s.Enrolls t e.tag serial true e.profile coarse) ∧
        ((∀ e ∈ s.roster.expected, e.serial ≠ serial) →
          (s.roster.mode = .listed →
            t.census.counters = { heard with strangers := min 65535 (heard.strangers + 1) } ∧
            s.Refuses t serial .unlisted) ∧
          (∀ low high, (s.roster.mode = .openMode ∧ low = 1 ∧ high = 128) ∨
              (s.roster.mode = .mixed ∧ low = s.roster.poolLow ∧ high = s.roster.poolHigh) →
            (∀ g : Tag, low ≤ tagNum g → tagNum g ≤ high → s.term g = none → (∀ e ∈ s.roster.expected, e.tag ≠ g) →
              (∀ f : Tag, f < g → low ≤ tagNum f →
                (s.term f).isSome = true ∨ ∃ e ∈ s.roster.expected, e.tag = f) →
              t.census.counters = { heard with admitted := min 65535 (heard.admitted + 1) } ∧
              s.Enrolls t g serial false s.roster.openProfile coarse) ∧
            ((∀ g : Tag, low ≤ tagNum g → tagNum g ≤ high →
                (s.term g).isSome = true ∨ ∃ e ∈ s.roster.expected, e.tag = g) →
              t.census.counters = { heard with strangers := min 65535 (heard.strangers + 1) } ∧
              s.Refuses t serial .rosterFull))))

/-- A burst matched in a lane's PLACED window reaches the lane as a burst result with the fields of R90. Tag-true with POWER
FAILING it ends the lane with POWER_LOSS; OVERLONG in PROBE it ends it with OVERLONG (R122). Otherwise the lane holds it until
the window closes, with the refusal of its capture where one was asked for and the converter is busy or the request comes
late; its record does not change (R90, R91, R122, R155). That PROBE grants alone ask for captures is R76. -/
def Obligations.LaneTakesBurst : Prop :=
  ∀ (s : State) (arrival taken : Tick) (header : List Byte) (check overlap : Bool) (r : Report) (k : Nat)
    (plan : StoredPlan) (pos j : Nat) (w : Window) (i : LaneNo) (work : LaneWork) (h : Terminal)
    (trim : Option EchoHold) (x : BurstResult),
    r = reportOf arrival header check overlap → s.Lands arrival k plan pos j w → w.state = .opened →
    s.Working i work h trim → w.grant.kind ≠ .census → w.grant.owner = .lane i → w.grant.tag = some work.tag →
    work.shot = .placed plan.cycle w.grant.kind → work.held.close = none →
    (w.grant.capture = true → w.grant.kind = .probe) → ResultOf r w.grant plan.cycle pos x →
    ∃ t : State, exec (.burstReport arrival header check overlap taken) s = .next t.chooseAgain ∧
      (∀ f, f ≠ i → t.lanes.get f = s.lanes.get f) ∧ sameOtherRecords s t work.tag ∧ t.sup = s.sup ∧
      (x.flagsValid = true ∧ r.powerFailing = true → s.LaneEnds t i work.tag h .powerLoss) ∧
      (¬(x.flagsValid = true ∧ r.powerFailing = true) →
        ((∃ p, work.stage = .probe p) ∧ x.quality = .overlong → s.LaneEnds t i work.tag h .overlong) ∧
        (¬((∃ p, work.stage = .probe p) ∧ x.quality = .overlong) →
          t.term work.tag = some h ∧ notNoted s t work.tag ∧
          (x.captureAsked = false ∨ (s.conv.state = .idle ∧
              (taken - arrival).toNat < [32, 64, 128, 192].getD s.conv.windowCode.val 0) →
            t.work i = some { work with held := { work.held with result := some x } }) ∧
          (x.captureAsked = true →
            s.conv.state ≠ .idle ∨ [32, 64, 128, 192].getD s.conv.windowCode.val 0 ≤ (taken - arrival).toNat →
            t.work i = some { work with held := { work.held with result := some x, answer := some .refusal } })))

/-- A burst matched in a STANDING or RETURN window, with the capture mark of the level sweep or without it, reaches the
Supervisor with the fields of R90. Tag-true with POWER FAILING it
parks a record in service with POWER_LOSS and its profile's park hold, which is a noted change; the Supervisor drops what it
holds, and nothing is posted (R140, R149). Otherwise an ACTIVE record's STANDING burst is held until the window closes; a record
that has left service is not touched (R139).
A CLEAN RETURN brings a SILENT record back to ACTIVE with its miss count, drift and burst count cleared, which is a noted
change, and withdraws its RETURN entry; a CORRUPT one adds to the corrupt count, an OVERLONG one does nothing (R33, R146). That
outstanding return ends with the RETURN is log 12. -/
def Obligations.SupervisorTakesBurst : Prop :=
  ∀ (s : State) (arrival taken : Tick) (header : List Byte) (check overlap : Bool) (r : Report) (k : Nat)
    (plan : StoredPlan) (pos j : Nat) (w : Window) (g : Tag) (h : Terminal) (x : BurstResult),
    s.line.state = .running → r = reportOf arrival header check overlap → s.Lands arrival k plan pos j w →
    w.state = .opened → w.grant.owner = .supervisor → w.grant.tag = some g →
    w.grant.kind = .standing ∨ w.grant.kind = .ret → s.term g = some h → ResultOf r w.grant plan.cycle pos x →
    ∃ t : State, exec (.burstReport arrival header check overlap taken) s = .next t.chooseAgain ∧
      sameOtherRecords s t g ∧ t.lanes = s.lanes ∧ (∀ f, f ≠ g → t.sup.get f = s.sup.get f) ∧
      t.line.notices = s.line.notices ∧ t.roster.waiting = s.roster.waiting ∧
      (h.service.isSome = true → x.flagsValid = true ∧ r.powerFailing = true →
        t.term g = some { h with phase := .parked .powerLoss (s.roster.profiles.get h.profile).parkHold } ∧
        notedOnce s t g ∧ t.sup.get g = { held := none, waitReturn := false, waitNudge := none } ∧
        t.planner.shots = s.planner.shots.filter fun e => !(e.owner == .supervisor && e.tag == g)) ∧
      (¬(x.flagsValid = true ∧ r.powerFailing = true) →
        (∀ svc, h.phase = .active svc →
          t.term g = some h ∧ notNoted s t g ∧ t.planner.shots = s.planner.shots ∧
          (w.grant.kind = .standing → t.sup.get g = { s.sup.get g with held := some x }) ∧
          (w.grant.kind = .ret → t.sup.get g = s.sup.get g)) ∧
        (∀ svc since grace, h.phase = .silent svc since grace →
          (w.grant.kind = .standing → t.term g = some h ∧ notNoted s t g ∧ t.sup.get g = s.sup.get g) ∧
          (w.grant.kind = .ret →
            (x.quality = .clean →
              t.term g = some
                { h with phase := .active { svc with miss := 0, drift := 0, bursts := 0, returnOut := false } } ∧
              notedOnce s t g ∧ t.sup.get g = { s.sup.get g with waitReturn := false } ∧
              t.planner.shots = s.planner.shots.filter fun e => !(e.owner == .supervisor && e.tag == g)) ∧
            (x.quality = .corrupt →
              t.term g = some { h with phase := .silent { svc with corrupt := min 255 (svc.corrupt + 1) } since grace } ∧
              notNoted s t g ∧ t.sup.get g = s.sup.get g) ∧
            (x.quality = .overlong → t.term g = some h ∧ notNoted s t g ∧ t.sup.get g = s.sup.get g)))) ∧
      (h.service = none → t.term g = some h ∧ notNoted s t g ∧ t.sup.get g = s.sup.get g)

/-- A CLEAN burst matched in a grant with the capture mark asks the converter for a capture at once: an IDLE converter that is
asked before the sample window has passed since the burst's first bit takes it, with the window and step times and the offset
latched; asked later, or in another state, it refuses it, late or busy, and counts the refusal (R91, R153 to R155). A burst
whose span meets the dark slot of its plan intrudes upon the attempt of that slot: it fails with LIGHT, the next slot is
wanted, and the fifth failed attempt ends the calibration FAILED with its cause (R94, R163 to R165). -/
def Obligations.ConverterTakesCaptures : Prop :=
  ∀ (s : State) (arrival taken : Tick) (header : List Byte) (check overlap : Bool) (r : Report) (k : Nat)
    (plan : StoredPlan) (pos : Nat), s.line.state = .running → r = reportOf arrival header check overlap →
    s.InFrame arrival k plan pos →
    ∃ t : State, exec (.burstReport arrival header check overlap taken) s = .next t.chooseAgain ∧
      t.conv.offset = s.conv.offset ∧ t.conv.curve = s.conv.curve ∧ t.conv.windowCode = s.conv.windowCode ∧
      t.conv.stepCode = s.conv.stepCode ∧
      (∀ j w g window, s.Lands arrival k plan pos j w → w.state = .opened → w.grant.kind ≠ .census →
        w.grant.tag = some g → w.grant.capture = true → Judged r w.grant pos .clean →
        window = [32, 64, 128, 192].getD s.conv.windowCode.val 0 →
        (s.conv.state = .idle → (taken - arrival).toNat < window →
          t.conv.refused = s.conv.refused ∧
          t.conv.state = .sampling
            { owner := w.grant.owner, tag := g, cycle := plan.cycle, begun := arrival, window := window,
              step := [4, 16, 64].getD s.conv.stepCode.val 0, offset := s.conv.offset, discard := false }) ∧
        (s.conv.state ≠ .idle ∨ window ≤ (taken - arrival).toNat →
          t.conv.refused = s.conv.refused + 1 ∧ t.conv.state = s.conv.state)) ∧
      ((∀ j w, s.Lands arrival k plan pos j w → w.state = .opened →
          w.grant.capture = false ∨ ¬Judged r w.grant pos .clean) →
        t.conv.refused = s.conv.refused ∧ t.conv.state = s.conv.state) ∧
      (∀ c slot, s.conv.calib = some c → (c.phase = .placed slot ∨ ∃ code, c.phase = .sampled slot code) →
        slot.cycle = plan.cycle → plan.slotMet pos r.length →
        (c.attempts < 5 →
          t.conv.calib = some { c with phase := .waiting, cause := some .light } ∧ t.planner.slotWanted = true ∧
          t.conv.lastCalib = s.conv.lastCalib) ∧
        (5 ≤ c.attempts →
          t.conv.calib = none ∧ t.planner.slotWanted = false ∧ t.link.kinds.calibration = true ∧
          t.conv.lastCalib = some
            { done := false, target := c.target, attempts := c.attempts, code := none, cause := some .light,
              offset := s.conv.offset })) ∧
      (¬plan.slotMet pos r.length ∨ s.conv.calib = none ∨
          (∃ c, s.conv.calib = some c ∧ (c.phase = .waiting ∨
            ∃ slot, slot.cycle ≠ plan.cycle ∧ (c.phase = .placed slot ∨ ∃ code, c.phase = .sampled slot code))) →
        t.conv.calib = s.conv.calib ∧ t.conv.lastCalib = s.conv.lastCalib ∧
        t.planner.slotWanted = s.planner.slotWanted)

/-! ## Window closes and frame ends -/

/-- The next window to close is the first of the earliest plan that is not CLOSED; it closes at T + Ref + e, and no other window
changes; with no such window nothing happens (R96). That it is the earliest plan's is log 14 (DEDUCED from R11 and R96); that
the command with no window to close is no event is log 1 (DESIGN CHOICE). What its owner makes of the outcome is said by the
statements on the census, the lanes and the Supervisor. -/
def Obligations.WindowsCloseInOrder : Prop :=
  (∀ (s : State) (plan : StoredPlan) (rest : List StoredPlan) (j : Nat) (w : Window), s.NextToClose plan rest j w →
    ∃ t : State, exec .windowClose s = .next t.chooseAgain ∧
      t.line.tick = plan.start + BitVec.ofNat 32 (s.line.settings.ref + w.grant.stop) ∧
      t.intake.strays = s.intake.strays ∧
      t.intake.store = { plan with windows := plan.windows.set j { w with state := .closed } } :: rest) ∧
  (∀ s : State, s.intake.store = [] ∨
      (∃ plan rest, s.intake.store = plan :: rest ∧ ∀ w ∈ plan.windows, w.state = .closed) →
    exec .windowClose s = .next s.chooseAgain)

/-- The close of the outstanding census window settles its node (R108): with the garble mark it is split in two, the
zero-child on top, or recorded as a tie (R109, R110); it is no longer outstanding, and the wait is loaded (R105). In SEARCHING
an empty stack then ends the pass COMPLETE: it is recorded and counted, CENSUS is pending, and the census is STOPPED in SINGLE
mode, and begins again at the root with fresh counts in SWEEP mode (R112, R113). In STOPPING no node is split, and the pass
ends STOPPED (R111, R112). -/
def Obligations.CensusWindowCloses : Prop :=
  ∀ (s : State) (plan : StoredPlan) (rest : List StoredPlan) (j : Nat) (w : Window) (o : Outstanding),
    s.NextToClose plan rest j w → w.grant.owner = .census → s.census.outstanding = some o →
    ∃ t : State, exec .windowClose s = .next t.chooseAgain ∧ t.roster = s.roster ∧ t.planner = s.planner ∧
      t.lanes = s.lanes ∧ t.sup = s.sup ∧ t.conv = s.conv ∧ t.line.notices = s.line.notices ∧
      (∀ counters stack tie, s.census.state = .searching → s.NodeSettles o w.garble counters stack tie →
        (stack ≠ [] →
          t.census =
            { s.census with
              counters := counters
              stack := stack
              tie := tie
              outstanding := none
              wait := s.census.interval } ∧
          t.link = s.link) ∧
        (stack = [] →
          t.link = { s.link with kinds := { s.link.kinds with census := true } } ∧
          ∃ next : Census,
            t.census =
              { next with
                outstanding := none
                wait := s.census.interval
                lastPass := some { kind := .complete, cycle := s.cycleNo, counters := counters, tie := tie }
                passes := min 255 (s.census.passes + 1) } ∧
            (s.census.mode = .single →
              next = { s.census with state := .stopped, counters := counters, stack := [], tie := tie }) ∧
            (s.census.mode = .sweep →
              next =
                { s.census with
                  counters := .zero
                  stack := [{ pattern := s.census.rootPattern, mask := s.census.rootMask, last := 32 }]
                  tie := none }))) ∧
      (∀ counters, s.census.state = .stopping →
        counters = (if w.garble then
          { s.census.counters with garbled := min 65535 (s.census.counters.garbled + 1) } else s.census.counters) →
        t.link = { s.link with kinds := { s.link.kinds with census := true } } ∧
        t.census =
          { s.census with
            state := .stopped
            counters := counters
            outstanding := none
            wait := s.census.interval
            lastPass := some { kind := .stopped, cycle := s.cycleNo, counters := counters, tie := s.census.tie } })

/-- When the OFFER REPLY grant of a lane settles: with a CLEAN burst whose serial echo is the record's serial the lane enters
PROBE with its profile's number of probes and posts the first, with sequence bit 0; any other outcome is a failure, after
which the TAG OFFER is posted again, or, with no attempt left, the lane ends (R125, R126). -/
def Obligations.OfferReplySettles : Prop :=
  ∀ (s : State) (i : LaneNo) (work : LaneWork) (h : Terminal) (trim : Option EchoHold) (left : Nat) (cycle : CycleNo)
    (e : Instr) (o : CloseOutcome) (a : Option CaptureAnswer),
    s.Working i work h trim → work.stage = .offer left → s.Settles i work cycle e o a →
    ∃ t : State, exec e s = .next t.chooseAgain ∧ s.OnlyLane t i work.tag ∧
      (∀ r, o = .quality .clean → work.held.result = some r → r.serialEcho = some h.serial →
        t.term work.tag = some h ∧ notNoted s t work.tag ∧ t.line.notices = s.line.notices ∧
        ∃ n mark, n = (s.roster.profiles.get h.profile).probes ∧
          s.ShotPosts t (probeEntry i work.tag h.coarse false) mark ∧
          t.work i = some
            { work with
              stage := .probe
                { count := n, remaining := n, extensions := 0, misses := 0, seq := false, mismatches := 0, echoes := [],
                  levels := [] }
              lastFailure := none
              shot := mark
              held := { result := none, answer := none, close := none } }) ∧
      (∀ kind reason, OfferFails h.serial work.held.result o kind → EndsFor kind reason →
        (left ≤ 1 → s.LaneEnds t i work.tag h reason) ∧
        (1 < left →
          t.term work.tag = some h ∧ notNoted s t work.tag ∧ t.planner.shots = s.planner.shots ∧
          ∃ mark, s.LanePosts t i (.tagOffer h.serial work.tag) mark ∧
            t.work i = some
              { work with
                stage := .offer (left - 1)
                lastFailure := some kind
                notice := mark
                shot := .absent
                held := { result := none, answer := none, close := none } }))

/-- When a PROBE grant settles: a second wrong sequence bit ends the lane with SEQUENCE, a third miss in a row with NO_REPLY or
CORRUPT; otherwise a probe that remains is posted, with the sequence bit as it then stands, and where none remains and no
level was gathered, one of at most two extension probes (R127 to R130). -/
def Obligations.ProbeSettles : Prop :=
  ∀ (s : State) (i : LaneNo) (work : LaneWork) (h : Terminal) (trim : Option EchoHold) (p p1 : ProbeWork)
    (cycle : CycleNo) (e : Instr) (o : CloseOutcome) (a : Option CaptureAnswer) (failed : Option FailKind),
    s.Working i work h trim → work.stage = .probe p → s.Settles i work cycle e o a →
    p.Becomes s.line.settings.ref work.held.result a o p1 failed →
    ∃ t : State, exec e s = .next t.chooseAgain ∧ s.OnlyLane t i work.tag ∧
      (o = .quality .clean → failed.isSome = true → 2 ≤ p1.mismatches → s.LaneEnds t i work.tag h .sequence) ∧
      (∀ kind reason, failed = some kind → EndsFor kind reason → ¬(o = .quality .clean ∧ 2 ≤ p1.mismatches) →
        3 ≤ p1.misses → s.LaneEnds t i work.tag h reason) ∧
      (∀ p2, (failed = none ∨ (p1.misses < 3 ∧ ¬(o = .quality .clean ∧ 2 ≤ p1.mismatches))) →
        (0 < p1.remaining ∧ p2 = p1) ∨
          (p1.remaining = 0 ∧ p1.levels = [] ∧ p1.extensions < 2 ∧
            p2 = { p1 with remaining := 1, extensions := p1.extensions + 1 }) →
        t.term work.tag = some h ∧ notNoted s t work.tag ∧ t.line.notices = s.line.notices ∧
        ∃ mark, s.ShotPosts t (probeEntry i work.tag h.coarse p2.seq) mark ∧
          t.work i = some
            { work with
              stage := .probe p2
              lastFailure := if failed.isSome then failed else work.lastFailure
              shot := mark
              held := { result := none, answer := none, close := none } })

/-- When a PROBE grant settles and no probe remains, the lane computes, and ends with the first check that fails: UNSTABLE where
two echoes differ by more than the spread limit; OUT_OF_REACH where the mean echo, floor((Σ + floor(n/2)) / n), lies outside
E_min to Ref; LEVEL_UNKNOWN without a level; LEVEL_LOW or LEVEL_HIGH where the level mean, which is stored first, lies outside
the profile's window. Otherwise it stores the mean as E and Ref − E as H, enters TRIM with 2 attempts, and posts a HOLDOFF (R53
to R57, R130, R131). That a probe is posted only while one remains, so that echoes are there, is R126 to R130. -/
def Obligations.LaneComputes : Prop :=
  ∀ (s : State) (i : LaneNo) (work : LaneWork) (h : Terminal) (trim : Option EchoHold) (p p1 : ProbeWork)
    (cycle : CycleNo) (e : Instr) (o : CloseOutcome) (a : Option CaptureAnswer) (failed : Option FailKind)
    (prof : Profile) (mean level : Int) (scattered outside : Prop),
    s.Working i work h trim → work.stage = .probe p → s.Settles i work cycle e o a →
    p.Becomes s.line.settings.ref work.held.result a o p1 failed →
    (failed = none ∨ (p1.misses < 3 ∧ ¬(o = .quality .clean ∧ 2 ≤ p1.mismatches))) →
    p1.remaining = 0 → (p1.levels ≠ [] ∨ 2 ≤ p1.extensions) → p1.echoes ≠ [] →
    prof = s.roster.profiles.get h.profile →
    mean = (p1.echoes.sum + (p1.echoes.length / 2 : Nat)) / (p1.echoes.length : Int) →
    level = (p1.levels.sum + (p1.levels.length / 2 : Nat)) / (p1.levels.length : Int) →
    (scattered ↔ ∃ x ∈ p1.echoes, ∃ y ∈ p1.echoes, (prof.spread : Int) < x - y) →
    (outside ↔ mean < s.line.settings.eMin ∨ (s.line.settings.ref : Int) < mean) →
    ∃ t : State, exec e s = .next t.chooseAgain ∧ s.OnlyLane t i work.tag ∧
      (scattered → s.LaneEnds t i work.tag h .unstable) ∧
      (¬scattered → outside → s.LaneEnds t i work.tag h .outOfReach) ∧
      (¬scattered → ¬outside →
        (p1.levels = [] → s.LaneEnds t i work.tag h .levelUnknown) ∧
        (p1.levels ≠ [] →
          (level < prof.low → s.LaneEnds t i work.tag { h with level := some level } .levelLow) ∧
          (prof.low ≤ level → prof.high < level →
            s.LaneEnds t i work.tag { h with level := some level } .levelHigh) ∧
          (prof.low ≤ level → level ≤ prof.high →
            t.term work.tag = some
              { h with
                level := some level
                phase := .engaged i (some { echo := mean, holdoff := (s.line.settings.ref : Int) - mean }) } ∧
            notNoted s t work.tag ∧ t.planner.shots = s.planner.shots ∧
            ∃ mark, s.LanePosts t i (.holdoff work.tag ((s.line.settings.ref : Int) - mean)) mark ∧
              t.work i = some
                { work with
                  stage := .trim 2 none
                  lastFailure := none
                  notice := mark
                  shot := .absent
                  held := { result := none, answer := none, close := none } })))

/-- When a TRIM CHECK grant settles: with a CLEAN burst no farther than W_t from its window point the lane completes, and the
record becomes ACTIVE with its echo and hold-off and the starting values of R31, which is a noted change (R59, R133, R135); a
MISS with a sighting ends the lane with TRIM_MISMATCH (R134); any other outcome is a failure, after which the HOLDOFF is
posted again with the stored value, or, with no attempt left, the lane ends (R133). A late sighting, of a TRIM CHECK window
that has closed as a MISS, ends the lane with TRIM_MISMATCH while it stands in TRIM with that settled grant as its last (R97,
R134). -/
def Obligations.TrimCheckSettles : Prop :=
  (∀ (s : State) (i : LaneNo) (work : LaneWork) (h : Terminal) (eh : EchoHold) (left : Nat) (last : Option SettledTrim)
    (cycle : CycleNo) (e : Instr) (o : CloseOutcome) (a : Option CaptureAnswer),
    s.Working i work h (some eh) → work.stage = .trim left last → s.Settles i work cycle e o a →
    ∃ t : State, exec e s = .next t.chooseAgain ∧ s.OnlyLane t i work.tag ∧
      (∀ r point, o = .quality .clean → work.held.result = some r → r.grant.point = some point →
        point ≤ r.position + s.line.settings.wt → r.position ≤ point + s.line.settings.wt →
        t.term work.tag = some
          { h with
            phase := .active
              { echo := eh.echo, holdoff := eh.holdoff, miss := 0, drift := 0, bursts := 0, levelOut := 0, levelIn := 0,
                corrupt := 0, nudgeOut := false, returnOut := false, nudgeCycle := none, activeSince := s.cycleNo } } ∧
        notedOnce s t work.tag ∧ t.lanes.get i = { seizure := (s.lanes.get i).seizure, work := none } ∧
        t.line.notices = s.line.notices ∧ t.roster.waiting = s.roster.waiting) ∧
      (∀ kind reason, TrimFails s.line.settings.wt work.held.result o kind → EndsFor kind reason →
        (left ≤ 1 → s.LaneEnds t i work.tag h reason) ∧
        (1 < left →
          t.term work.tag = some h ∧ notNoted s t work.tag ∧ t.planner.shots = s.planner.shots ∧
          ∃ mark, s.LanePosts t i (.holdoff work.tag eh.holdoff) mark ∧
            t.work i = some
              { work with
                stage := .trim (left - 1) (some { cycle := cycle, outcome := o })
                lastFailure := some kind
                notice := mark
                shot := .absent
                held := { result := none, answer := none, close := none } })) ∧
      (o = .miss true → s.LaneEnds t i work.tag h .trimMismatch)) ∧
  (∀ (s : State) (arrival taken : Tick) (header : List Byte) (check overlap : Bool) (r : Report) (k : Nat)
    (plan : StoredPlan) (pos j : Nat) (w : Window) (i : LaneNo) (work : LaneWork) (h : Terminal)
    (trim : Option EchoHold) (left : Nat) (last : SettledTrim) (sighted : Bool),
    r = reportOf arrival header check overlap → s.Working i work h trim → s.InFrame arrival k plan pos →
    (∀ v ∈ plan.windows, v.Covers pos → v.state ≠ .opened) → r.check = true → r.overlap = false → r.kind = .trimAck →
    plan.windows[j]? = some w → w.grant.kind = .trimCheck → w.grant.tag = some work.tag → r.carriesTag w.grant →
    (∀ f v, f < j → plan.windows[f]? = some v → ¬(v.grant.kind = .trimCheck ∧ r.carriesTag v.grant)) →
    w.state = .closed → w.quality = none → w.grant.owner = .lane i → work.stage = .trim left (some last) →
    last.cycle = plan.cycle → last.outcome = .miss sighted →
    ∃ t : State, exec (.burstReport arrival header check overlap taken) s = .next t.chooseAgain ∧
      t.intake.strays = s.intake.strays + 1 ∧ s.LaneEnds t i work.tag h .trimMismatch)

/-- The close of a STANDING window that no burst matched, or that a CORRUPT or OVERLONG burst matched, raises the ACTIVE record's
miss count by one, and for CORRUPT the corrupt count too, which stays at 255; at the profile's miss limit the record becomes
SILENT with the current cycle as silent-since and the profile's grace, which is a noted change; below it the record stays
ACTIVE (R141, R142, R33). -/
def Obligations.StandingMissCounts : Prop :=
  ∀ (s : State) (plan : StoredPlan) (rest : List StoredPlan) (j : Nat) (w : Window) (g : Tag) (h : Terminal)
    (svc missed : Service),
    s.NextToClose plan rest j w → w.grant.kind = .standing → w.grant.owner = .supervisor → w.grant.tag = some g →
    s.term g = some h → h.phase = .active svc →
    (w.state = .opened ∧ missed = { svc with miss := svc.miss + 1 }) ∨
      (w.state = .matched ∧ w.quality = some .overlong ∧ missed = { svc with miss := svc.miss + 1 }) ∨
      (w.state = .matched ∧ w.quality = some .corrupt ∧
        missed = { svc with miss := svc.miss + 1, corrupt := min 255 (svc.corrupt + 1) }) →
    ∃ t : State, exec .windowClose s = .next t.chooseAgain ∧ (t.sup.get g).held = none ∧ sameOtherRecords s t g ∧
      t.line.notices = s.line.notices ∧ t.planner.shots = s.planner.shots ∧
      (missed.miss < (s.roster.profiles.get h.profile).missLimit →
        t.term g = some { h with phase := .active missed } ∧ notNoted s t g) ∧
      ((s.roster.profiles.get h.profile).missLimit ≤ missed.miss →
        t.term g = some
          { h with
            phase := .silent { missed with returnOut := false } s.cycleNo (s.roster.profiles.get h.profile).grace } ∧
        notedOnce s t g)

/-- The close of a STANDING window that a CLEAN burst matched: the miss count is cleared, RX_LOW mirrors the burst's bit, and the
burst takes part in the drift, but while a NUDGE is outstanding and for a burst of the cycle before its departure (R60, R141,
R143). The deviation, clamped to W_t either way, is added to D, which saturates with DRIFT_SAT (R60). The eighth burst closes
the block: with |D| at least 8 times the threshold the hold-off is corrected by the rounded mean deviation, clamped to 0 to
Ref − E_min with TRIM_LIMIT, and a NUDGE with the applied change is posted where it is not 0 (R61 to R63). A change of a flag
is noted once (R24). That the burst of the window is held is R139; E_min at most Ref is the invariant SettingsInRange; that a
NUDGE which finds the queue full takes the place of one that still waits from an earlier time in service is log 36 (DESIGN
CHOICE). -/
def Obligations.StandingCleanDrifts : Prop :=
  ∀ (s : State) (plan : StoredPlan) (rest : List StoredPlan) (j : Nat) (w : Window) (g : Tag) (h : Terminal)
    (svc : Service) (r : BurstResult) (point : Nat) (adds : Prop) (d : Int) (cleared : Service) (full : Bool),
    s.line.state = .running → s.line.settings.eMin ≤ s.line.settings.ref →
    s.NextToClose plan rest j w → w.state = .matched → w.quality = some .clean → w.grant.kind = .standing →
    w.grant.owner = .supervisor → w.grant.tag = some g → s.term g = some h → h.phase = .active svc →
    (s.sup.get g).held = some r → r.grant.point = some point →
    (adds ↔ svc.nudgeOut = false ∧ svc.nudgeCycle ≠ some (r.cycle + 1)) →
    d = max (-4096) (min 4095 (svc.drift +
      max (-(s.line.settings.wt : Int)) (min s.line.settings.wt ((r.position : Int) - point)))) →
    cleared = { svc with miss := 0, drift := 0, bursts := 0 } →
    full = (h.flags.driftSat || decide (d = -4096) || decide (d = 4095)) →
    ∃ (t : State) (v : Service) (flags : RecFlags), exec .windowClose s = .next t.chooseAgain ∧
      t.term g = some { h with flags := flags, phase := .active v } ∧ (t.sup.get g).held = none ∧
      sameOtherRecords s t g ∧ (flags = h.flags → notNoted s t g) ∧ (flags ≠ h.flags → notedOnce s t g) ∧
      flags.rxLow = r.rxLow ∧ flags.levelAlarm = h.flags.levelAlarm ∧
      (¬adds →
        v = { svc with miss := 0 } ∧ flags.driftSat = h.flags.driftSat ∧ flags.trimLimit = h.flags.trimLimit ∧
        t.line.notices = s.line.notices) ∧
      (adds → flags.driftSat = full ∧
        (svc.bursts + 1 < 8 →
          v = { svc with miss := 0, drift := d, bursts := svc.bursts + 1 } ∧ flags.trimLimit = h.flags.trimLimit ∧
          t.line.notices = s.line.notices) ∧
        (8 ≤ svc.bursts + 1 →
          (d.natAbs < 8 * (s.roster.profiles.get h.profile).threshold →
            v = cleared ∧ flags.trimLimit = h.flags.trimLimit ∧ t.line.notices = s.line.notices) ∧
          (8 * (s.roster.profiles.get h.profile).threshold ≤ d.natAbs →
            ∀ mean wanted new : Int,
              mean = (if d < 0 then -(((d.natAbs + 4) / 8 : Nat) : Int) else ((d.natAbs + 4) / 8 : Nat)) →
              wanted = svc.holdoff - mean →
              new = max 0 (min ((s.line.settings.ref : Int) - s.line.settings.eMin) wanted) →
              flags.trimLimit = (h.flags.trimLimit || decide (new ≠ wanted)) ∧
              (new = svc.holdoff → v = cleared ∧ t.line.notices = s.line.notices) ∧
              (new ≠ svc.holdoff →
                v = { cleared with holdoff := new, nudgeOut := true } ∧
                (s.line.notices.length < 16 →
                  t.line.notices = s.line.notices ++ [⟨.nudge g (new - svc.holdoff), .supervisor⟩]) ∧
                (16 ≤ s.line.notices.length →
                  t.line.notices = s.line.notices ∧ (t.sup.get g).waitNudge = some (new - svc.holdoff))))))

/-- At a frame end the earliest plan leaves the store, at T + L + Ref; an attempt of its dark slot that holds its dark code succeeds
there: the offset becomes the even, clamped difference of target and dark code, and the calibration ends DONE (R98, R163, R164,
R165). The windows of the plan that are not CLOSED close first, one after the other: with a frame being sent, a frame end does
what it does after a WINDOW_CLOSE (R98). That with fewer than two plans in the store the command is no event is log 4 (DESIGN
CHOICE). -/
def Obligations.FrameEndLetsGo : Prop :=
  (∀ (s : State) (a b : StoredPlan) (rest : List StoredPlan), s.intake.store = a :: b :: rest →
    ∃ t : State, exec .frameEnd s = .next t.chooseAgain ∧ t.intake.store = b :: rest ∧
      t.line.tick = a.start + BitVec.ofNat 32 (a.len + s.line.settings.ref) ∧
      (∀ c slot code, s.conv.calib = some c → c.phase = .sampled slot (some code) → slot.cycle = a.cycle →
        t.conv.calib = none ∧ t.conv.offset = storedOffset ((c.target : Int) - code.toNat) ∧
        t.conv.lastCalib = some
          { done := true, target := c.target, attempts := c.attempts, code := some code, cause := none,
            offset := storedOffset ((c.target : Int) - code.toNat) } ∧
        t.link.kinds.calibration = true ∧ t.planner.slotWanted = false)) ∧
  (∀ s : State, s.intake.store.length < 2 → exec .frameEnd s = .next s.chooseAgain) ∧
  (∀ (s u : State) (frame : List Byte), s.link.tx = .sending frame → 2 ≤ s.intake.store.length →
    exec .windowClose s = .next u → exec .frameEnd u = exec .frameEnd s)

/-! ## The converter's events -/

/-- A dark slot start begins a dark sample timed by its slot where the converter is IDLE, and fails the attempt BUSY where a
capture is in it, at the fifth attempt with the calibration; a sample window end, of a capture or of a dark sample, comes w
ticks after its start and begins the conversion (R156, R163, R164, R165). That the commands outside their states, where R153
has none arise, are no events is log 1 (DESIGN CHOICE). -/
def Obligations.DarkSlotAndSampleWindow : Prop :=
  ∀ s : State,
    (∀ c slot, s.conv.calib = some c → c.phase = .placed slot →
      (s.conv.state = .idle →
        exec .darkSlotStart s = .next
          ({ s with
            line.tick := slot.startTick
            conv.state := .calibrating
              { begun := slot.startTick, window := slot.span.stop - slot.span.first, step := stepTime s.conv.stepCode,
                converting := false }
            conv.calib := some { c with phase := .sampled slot none } } : State).chooseAgain) ∧
      (∀ x, s.conv.state = .sampling x ∨ s.conv.state = .converting x → c.attempts < 5 →
        exec .darkSlotStart s = .next
          ({ s with
            line.tick := slot.startTick
            conv.calib := some { c with phase := .waiting, cause := some .busy }
            planner.slotWanted := true } : State).chooseAgain) ∧
      (∀ x, s.conv.state = .sampling x ∨ s.conv.state = .converting x → 5 ≤ c.attempts →
        exec .darkSlotStart s = .next
          ({ s with
            line.tick := slot.startTick
            conv.calib := none
            conv.lastCalib := some
              { done := false, target := c.target, attempts := c.attempts, code := none, cause := some .busy,
                offset := s.conv.offset }
            planner.slotWanted := false
            link.kinds.calibration := true } : State).chooseAgain)) ∧
    ((∀ c slot, s.conv.calib = some c → c.phase ≠ .placed slot) → exec .darkSlotStart s = .next s.chooseAgain) ∧
    (∀ c, s.conv.state = .sampling c →
      exec .sampleWindowEnd s = .next
        ({ s with line.tick := c.begun + BitVec.ofNat 32 c.window, conv.state := .converting c } : State).chooseAgain) ∧
    (∀ d, s.conv.state = .calibrating d → d.converting = false →
      exec .sampleWindowEnd s = .next
        ({ s with
          line.tick := d.begun + BitVec.ofNat 32 d.window
          conv.state := .calibrating { d with converting := true } } : State).chooseAgain) ∧
    (∀ c, s.conv.state = .idle ∨ s.conv.state = .converting c → exec .sampleWindowEnd s = .next s.chooseAgain)

/-- A conversion ends w + 16 s ticks after its start and leaves the converter IDLE; with the discard mark no answer is sent. For
a swept standing grant of an ACTIVE record the level, V[k] + floor(((V[k+1] − V[k]) × f + 64) / 128) of the corrected code, is
stored; the run on its side of the profile's window goes up by one, to at most 3, and the other to 0; the third sample out in
a row sets LEVEL_ALARM, the third in clears it, which is one noted change; the record stays ACTIVE with its other fields. For
a PROBE grant that the lane has not settled, the lane holds the level. A dark sample's raw code is held for the attempt that
waits for it, and is discarded where no attempt waits for one (R123, R144, R156, R158, R159, R163, R166). That the command in
IDLE, in SAMPLING and in CALIBRATING before the sample window's end, where R153 has none arise, is no event is log 1 (DESIGN
CHOICE). -/
def Obligations.ConversionEndAnswers : Prop :=
  ∀ (s : State) (raw : BitVec 12),
    (∀ c, s.conv.state = .converting c → c.discard = true →
      exec (.conversionEnd raw) s = .next
        ({ s with line.tick := c.begun + BitVec.ofNat 32 (c.window + 16 * c.step), conv.state := .idle } :
          State).chooseAgain) ∧
    (∀ c level, s.conv.state = .converting c → c.discard = false → RawLevel s.conv.curve c.offset raw level →
      ∃ t : State, exec (.conversionEnd raw) s = .next t.chooseAgain ∧
        t.line.tick = c.begun + BitVec.ofNat 32 (c.window + 16 * c.step) ∧ t.conv = { s.conv with state := .idle } ∧
        t.sup = s.sup ∧ t.census = s.census ∧ t.intake = s.intake ∧
        (∀ h svc v flags, c.owner = .supervisor → s.term c.tag = some h → h.phase = .active svc →
          ((s.roster.profiles.get h.profile).low ≤ level ∧ level ≤ (s.roster.profiles.get h.profile).high →
            v = { svc with levelIn := min 3 (svc.levelIn + 1), levelOut := 0 } ∧
            flags = { h.flags with levelAlarm := h.flags.levelAlarm && decide (svc.levelIn < 2) }) →
          (level < (s.roster.profiles.get h.profile).low ∨ (s.roster.profiles.get h.profile).high < level →
            v = { svc with levelOut := min 3 (svc.levelOut + 1), levelIn := 0 } ∧
            flags = { h.flags with levelAlarm := h.flags.levelAlarm || decide (2 ≤ svc.levelOut) }) →
          t.term c.tag = some { h with level := some level, flags := flags, phase := .active v } ∧
          (flags = h.flags → notNoted s t c.tag) ∧ (flags ≠ h.flags → notedOnce s t c.tag) ∧
          sameOtherRecords s t c.tag ∧ t.lanes = s.lanes) ∧
        (c.owner = .supervisor → (∀ h svc, s.term c.tag = some h → h.phase ≠ .active svc) →
          t.roster = s.roster ∧ t.lanes = s.lanes) ∧
        (∀ i w r, c.owner = .lane i → s.work i = some w → w.tag = c.tag → w.shot = .placed c.cycle .probe →
          w.held.result = some r → r.captureAsked = true → w.held.close = none →
          t.work i = some { w with held := { w.held with answer := some (.level level) } } ∧
          (∀ j, j ≠ i → t.lanes.get j = s.lanes.get j) ∧ t.roster = s.roster)) ∧
    (∀ d c slot, s.conv.state = .calibrating d → d.converting = true → s.conv.calib = some c →
      c.phase = .sampled slot none →
      exec (.conversionEnd raw) s = .next
        ({ s with
          line.tick := d.begun + BitVec.ofNat 32 (d.window + 16 * d.step)
          conv.state := .idle
          conv.calib := some { c with phase := .sampled slot (some raw) } } : State).chooseAgain) ∧
    (∀ d, s.conv.state = .calibrating d → d.converting = true →
      (∀ c slot, s.conv.calib = some c → c.phase ≠ .sampled slot none) →
      exec (.conversionEnd raw) s = .next
        ({ s with
          line.tick := d.begun + BitVec.ofNat 32 (d.window + 16 * d.step)
          conv.state := .idle } : State).chooseAgain) ∧
    (∀ d, s.conv.state = .calibrating d → d.converting = false → exec (.conversionEnd raw) s = .next s.chooseAgain) ∧
    (∀ c, s.conv.state = .idle ∨ s.conv.state = .sampling c → exec (.conversionEnd raw) s = .next s.chooseAgain)

/-! ## Invariants -/

/-- The state right after reset is sound: every invariant below holds of it (R22, R49, R83, R99, R117, R138, R152, R167, R179). -/
def Obligations.ResetIsSound : Prop := State.reset.Sound

/-- Every step keeps the queues, lists and plans of the Line Timer, the Roster, the Planner, the Intake and the link within
their sizes (R13, R40, R43, R45, R67, R77, R86, R171, R174). The admission queue's size is in RosterShapeKept, the census
stack's in CensusShapeKept, a lane's echo and level lists' in RangesKept. -/
def Obligations.CapacitiesKept : Prop :=
  ∀ s t : State, s.Capacities → step s = .next t → t.Capacities

/-- Every step keeps the line, its cycle, its head, its plan and the plan store in agreement (R1, R9, R12, R65, R86). -/
def Obligations.LineShapeKept : Prop :=
  ∀ s t : State, s.LineShape → step s = .next t → t.LineShape

/-- Every step keeps every setting and every count in its range, those of each lane among them: its attempts, probes, extension
probes, misses and mismatches, and its echo and level lists (R6, R7, R10, R21, R23, R48, R102, R114, R118, R157 to R159). -/
def Obligations.RangesKept : Prop :=
  ∀ s t : State, s.SettingsInRange → s.CountsCapped → step s = .next t → t.SettingsInRange ∧ t.CountsCapped

/-- Every step keeps every coarse echo, echo, hold-off and level in its range (R52, R56, R57, R62, R131, R159). The line settings
change in DARK alone, where no record holds an echo: the invariants SettingsInRange and QuietOffRunning. -/
def Obligations.MeasuresKept : Prop :=
  ∀ s t : State, s.MeasuresInRange → s.SettingsInRange → s.QuietOffRunning → step s = .next t → t.MeasuresInRange

/-- Every step keeps the census stack ordered, at most 33 deep, and in agreement with the census state (R100, R101, R104,
R108 to R113). -/
def Obligations.CensusShapeKept : Prop :=
  ∀ s t : State, s.CensusShape → step s = .next t → t.CensusShape

/-- Every step keeps the part quiet outside RUNNING: no record is HEARD, ENGAGED, ACTIVE or SILENT there, and nothing is
queued, waiting, held or in progress (R3, R5, R13, R78). -/
def Obligations.QuietOffRunningKept : Prop :=
  ∀ s t : State, s.QuietOffRunning → s.CensusShape → step s = .next t → t.QuietOffRunning

/-- Every step keeps the roster's lists, the records, the admission queue and the lanes in agreement: in particular no two
records hold one serial, no record holds a barred serial, the record of a reserved tag holds the entry's serial or is FREE,
and the admission queue holds each HEARD record once, 128 at most (R25, R27, R30, R40 to R43, R118). -/
def Obligations.RosterShapeKept : Prop :=
  ∀ s t : State, s.RosterShape → s.LanesAgree → step s = .next t → t.RosterShape ∧ t.LanesAgree
end

