-- ==== Sys2Proof/Laws/Bank.lean ====
section
/-! SUPPORT. The laws of the fixed-size bank: reading after writing, updating, filling, mapping and tabulating. -/

namespace Sys2Proof.Bank

variable {α β : Type} {n : Nat}

@[ext] theorem ext_get {a b : Bank α n} (h : ∀ i, a.get i = b.get i) : a = b := by
  obtain ⟨x, hx⟩ := a
  obtain ⟨y, hy⟩ := b
  congr 1
  refine List.ext_getElem (hx.trans hy.symm) fun i h1 _ => ?_
  exact h ⟨i, hx ▸ h1⟩

@[simp] theorem get_set_self (b : Bank α n) (i : Fin n) (v : α) : (b.set i v).get i = v := by
  simp [get, set]

theorem get_set_of_ne (b : Bank α n) {i j : Fin n} (v : α) (h : j ≠ i) : (b.set i v).get j = b.get j := by
  simp [get, set, List.getElem_set, Fin.val_ne_of_ne h.symm]

theorem get_set (b : Bank α n) (i j : Fin n) (v : α) : (b.set i v).get j = if j = i then v else b.get j := by
  by_cases h : j = i
  · subst h; simp
  · simp [h, get_set_of_ne]

@[simp] theorem get_update_self (b : Bank α n) (i : Fin n) (f : α → α) : (b.update i f).get i = f (b.get i) := by
  simp [update]

theorem get_update_of_ne (b : Bank α n) {i j : Fin n} (f : α → α) (h : j ≠ i) : (b.update i f).get j = b.get j := by
  simp [update, get_set_of_ne, h]

theorem get_update (b : Bank α n) (i j : Fin n) (f : α → α) :
    (b.update i f).get j = if j = i then f (b.get j) else b.get j := by
  by_cases h : j = i
  · subst h; simp
  · simp [h, get_update_of_ne]

@[simp] theorem get_fill (v : α) (i : Fin n) : (fill n v).get i = v := by
  simp [get, fill]

@[simp] theorem get_map (f : α → β) (b : Bank α n) (i : Fin n) : (b.map f).get i = f (b.get i) := by
  simp [get, map]

@[simp] theorem get_tabulate (f : Fin n → α) (i : Fin n) : (tabulate f).get i = f i := by
  simp [get, tabulate]

@[simp] theorem set_get_self (b : Bank α n) (i : Fin n) : b.set i (b.get i) = b := by
  ext j
  by_cases h : j = i
  · subst h; simp
  · simp [get_set_of_ne, h]

end Sys2Proof.Bank
end

