-- ==== Sys2Proof/Laws/Bytes.lean ====
section
/-! SUPPORT. Writing a value as bytes and reading it back (R190): lengths, the round trips, and reading inside a longer body. -/

namespace Sys2Proof.Machine

@[simp] theorem leBytes_length (n v : Nat) : (leBytes n v).length = n := by
  induction n generalizing v with
  | zero => rfl
  | succ n ih => simp [leBytes, ih]

@[simp] theorem beBytes_length (n v : Nat) : (beBytes n v).length = n := by simp [beBytes]

@[simp] theorem beSigned_length (n : Nat) (v : Int) : (beSigned n v).length = n := by simp [beSigned]

theorem leValue_leBytes {n v : Nat} (h : v < 256 ^ n) : leValue (leBytes n v) = v := by
  induction n generalizing v with
  | zero => simp at h; simp [leBytes, leValue, h]
  | succ n ih =>
    have hq : v / 256 < 256 ^ n := Nat.div_lt_of_lt_mul (by rw [pow_succ] at h; omega)
    have hv := ih hq
    simp only [leValue] at hv
    simp [leBytes, leValue, hv]
    omega

theorem beValue_reverse (bs : List Byte) : beValue bs.reverse = leValue bs := by
  simp [beValue, leValue, List.foldl_reverse]

/-- A value that fits `n` bytes is read back from them, most significant byte first. -/
@[simp] theorem beValue_beBytes {n v : Nat} (h : v < 256 ^ n) : beValue (beBytes n v) = v := by
  rw [beBytes, beValue_reverse, leValue_leBytes h]

/-- Reading from the front of a body. -/
theorem beAt_append {bs rest : List Byte} {n : Nat} (h : bs.length = n) : beAt (bs ++ rest) 0 n = beValue bs := by
  subst h; simp [beAt]

/-- Reading behind the front of a body. -/
theorem beAt_append_right {bs rest : List Byte} {off n : Nat} (h : bs.length ≤ off) :
    beAt (bs ++ rest) off n = beAt rest (off - bs.length) n := by
  simp [beAt, List.drop_append, List.drop_eq_nil_of_le h]

theorem beAt_cons {b : Byte} {rest : List Byte} {off n : Nat} : beAt (b :: rest) (off + 1) n = beAt rest off n := by
  simp [beAt]

@[simp] theorem beAt_one (b : Byte) (rest : List Byte) : beAt (b :: rest) 0 1 = b.toNat := by
  simp [beAt, beValue]

@[simp] theorem byteOf_toNat_self (b : Byte) : byteOf b.toNat = b := by simp [byteOf]

theorem byteOf_toNat {n : Nat} (h : n < 256) : (byteOf n).toNat = n := by
  simp [byteOf, Nat.mod_eq_of_lt h]

/-- A serial sent in four bytes is read back. -/
theorem serialAt_beBytes (x : BitVec 32) (rest : List Byte) : serialAt (beBytes 4 x.toNat ++ rest) 0 = x := by
  have h : beAt (beBytes 4 x.toNat ++ rest) 0 4 = x.toNat := by
    rw [beAt_append (by simp)]
    exact beValue_beBytes (by have := x.isLt; omega)
  simp [serialAt, h]

/-- A signed value that fits two bytes is read back. -/
theorem beSignedAt_two {v : Int} (rest : List Byte) (h1 : -32768 ≤ v) (h2 : v ≤ 32767) :
    beSignedAt (beSigned 2 v ++ rest) 0 2 = v := by
  have h : beAt (beSigned 2 v ++ rest) 0 2 = (BitVec.ofInt 16 v).toNat := by
    rw [beAt_append (by simp)]
    exact beValue_beBytes (by have := (BitVec.ofInt 16 v).isLt; omega)
  simp only [beSignedAt, h, Nat.reduceMul, BitVec.ofNat_toNat, BitVec.setWidth_eq, BitVec.toInt_ofInt]
  rw [Int.bmod_eq_of_le] <;> omega

/-! ## Clamping -/

/-- Clamping is the nearer end (spec/00 section 5). -/
theorem clampNat_eq {lo hi : Nat} (h : lo ≤ hi) (v : Nat) : clampNat lo hi v = max lo (min hi v) := by
  unfold clampNat; split <;> (try split) <;> omega

theorem clampInt_eq {lo hi : Int} (h : lo ≤ hi) (v : Int) : clampInt lo hi v = max lo (min hi v) := by
  unfold clampInt; split <;> (try split) <;> omega

theorem clampNat_mem {lo hi : Nat} (h : lo ≤ hi) (v : Nat) : lo ≤ clampNat lo hi v ∧ clampNat lo hi v ≤ hi := by
  unfold clampNat; split <;> (try split) <;> omega

theorem clampInt_mem {lo hi : Int} (h : lo ≤ hi) (v : Int) : lo ≤ clampInt lo hi v ∧ clampInt lo hi v ≤ hi := by
  unfold clampInt; split <;> (try split) <;> omega

end Sys2Proof.Machine
end

