-- ==== Sys2Proof/Laws/State.lean ====
section
/-! SUPPORT. One lemma for each field and each named update of the state: what the update leaves as it was, and what it writes. -/

namespace Sys2Proof.Machine

/-! ## `State.setTick` -/

@[simp] theorem State.setTick_line_state (s : State) (x : Tick) : (s.setTick x).line.state = s.line.state := rfl
@[simp] theorem State.setTick_line_prev (s : State) (x : Tick) : (s.setTick x).line.prev = s.line.prev := rfl
@[simp] theorem State.setTick_line_transitions (s : State) (x : Tick) : (s.setTick x).line.transitions =
    s.line.transitions := rfl
@[simp] theorem State.setTick_line_cycle (s : State) (x : Tick) : (s.setTick x).line.cycle = s.line.cycle := rfl
@[simp] theorem State.setTick_line_pendingLen (s : State) (x : Tick) : (s.setTick x).line.pendingLen =
    s.line.pendingLen := rfl
@[simp] theorem State.setTick_line_warmup (s : State) (x : Tick) : (s.setTick x).line.warmup = s.line.warmup := rfl
@[simp] theorem State.setTick_line_drainLeft (s : State) (x : Tick) : (s.setTick x).line.drainLeft =
    s.line.drainLeft := rfl
@[simp] theorem State.setTick_line_drainCycle (s : State) (x : Tick) : (s.setTick x).line.drainCycle =
    s.line.drainCycle := rfl
@[simp] theorem State.setTick_line_head (s : State) (x : Tick) : (s.setTick x).line.head = s.line.head := rfl
@[simp] theorem State.setTick_line_notices (s : State) (x : Tick) : (s.setTick x).line.notices = s.line.notices := rfl
@[simp] theorem State.setTick_line_settings (s : State) (x : Tick) : (s.setTick x).line.settings =
    s.line.settings := rfl
@[simp] theorem State.setTick_line_txEnable (s : State) (x : Tick) : (s.setTick x).line.txEnable =
    s.line.txEnable := rfl
@[simp] theorem State.setTick_line_headOut (s : State) (x : Tick) : (s.setTick x).line.headOut = s.line.headOut := rfl
@[simp] theorem State.setTick_roster (s : State) (x : Tick) : (s.setTick x).roster = s.roster := rfl
@[simp] theorem State.setTick_census (s : State) (x : Tick) : (s.setTick x).census = s.census := rfl
@[simp] theorem State.setTick_planner (s : State) (x : Tick) : (s.setTick x).planner = s.planner := rfl
@[simp] theorem State.setTick_intake (s : State) (x : Tick) : (s.setTick x).intake = s.intake := rfl
@[simp] theorem State.setTick_lanes (s : State) (x : Tick) : (s.setTick x).lanes = s.lanes := rfl
@[simp] theorem State.setTick_sup (s : State) (x : Tick) : (s.setTick x).sup = s.sup := rfl
@[simp] theorem State.setTick_conv (s : State) (x : Tick) : (s.setTick x).conv = s.conv := rfl
@[simp] theorem State.setTick_link (s : State) (x : Tick) : (s.setTick x).link = s.link := rfl
@[simp] theorem State.setTick_pending (s : State) (x : Tick) : (s.setTick x).pending = s.pending := rfl
@[simp] theorem State.setTick_free (s : State) (x : Tick) : (s.setTick x).free = s.free := rfl
@[simp] theorem State.setTick_line_tick (s : State) (x : Tick) : (s.setTick x).line.tick = x := rfl

/-! ## `State.setNotices` -/

@[simp] theorem State.setNotices_line_state (s : State) (l : List LineNotice) : (s.setNotices l).line.state =
    s.line.state := rfl
@[simp] theorem State.setNotices_line_prev (s : State) (l : List LineNotice) : (s.setNotices l).line.prev =
    s.line.prev := rfl
@[simp] theorem State.setNotices_line_transitions (s : State) (l : List LineNotice) : (s.setNotices l).line.transitions =
    s.line.transitions := rfl
@[simp] theorem State.setNotices_line_tick (s : State) (l : List LineNotice) : (s.setNotices l).line.tick =
    s.line.tick := rfl
@[simp] theorem State.setNotices_line_cycle (s : State) (l : List LineNotice) : (s.setNotices l).line.cycle =
    s.line.cycle := rfl
@[simp] theorem State.setNotices_line_pendingLen (s : State) (l : List LineNotice) : (s.setNotices l).line.pendingLen =
    s.line.pendingLen := rfl
@[simp] theorem State.setNotices_line_warmup (s : State) (l : List LineNotice) : (s.setNotices l).line.warmup =
    s.line.warmup := rfl
@[simp] theorem State.setNotices_line_drainLeft (s : State) (l : List LineNotice) : (s.setNotices l).line.drainLeft =
    s.line.drainLeft := rfl
@[simp] theorem State.setNotices_line_drainCycle (s : State) (l : List LineNotice) : (s.setNotices l).line.drainCycle =
    s.line.drainCycle := rfl
@[simp] theorem State.setNotices_line_head (s : State) (l : List LineNotice) : (s.setNotices l).line.head =
    s.line.head := rfl
@[simp] theorem State.setNotices_line_settings (s : State) (l : List LineNotice) : (s.setNotices l).line.settings =
    s.line.settings := rfl
@[simp] theorem State.setNotices_line_txEnable (s : State) (l : List LineNotice) : (s.setNotices l).line.txEnable =
    s.line.txEnable := rfl
@[simp] theorem State.setNotices_line_headOut (s : State) (l : List LineNotice) : (s.setNotices l).line.headOut =
    s.line.headOut := rfl
@[simp] theorem State.setNotices_roster (s : State) (l : List LineNotice) : (s.setNotices l).roster = s.roster := rfl
@[simp] theorem State.setNotices_census (s : State) (l : List LineNotice) : (s.setNotices l).census = s.census := rfl
@[simp] theorem State.setNotices_planner (s : State) (l : List LineNotice) : (s.setNotices l).planner =
    s.planner := rfl
@[simp] theorem State.setNotices_intake (s : State) (l : List LineNotice) : (s.setNotices l).intake = s.intake := rfl
@[simp] theorem State.setNotices_lanes (s : State) (l : List LineNotice) : (s.setNotices l).lanes = s.lanes := rfl
@[simp] theorem State.setNotices_sup (s : State) (l : List LineNotice) : (s.setNotices l).sup = s.sup := rfl
@[simp] theorem State.setNotices_conv (s : State) (l : List LineNotice) : (s.setNotices l).conv = s.conv := rfl
@[simp] theorem State.setNotices_link (s : State) (l : List LineNotice) : (s.setNotices l).link = s.link := rfl
@[simp] theorem State.setNotices_pending (s : State) (l : List LineNotice) : (s.setNotices l).pending =
    s.pending := rfl
@[simp] theorem State.setNotices_free (s : State) (l : List LineNotice) : (s.setNotices l).free = s.free := rfl
@[simp] theorem State.setNotices_line_notices (s : State) (l : List LineNotice) : (s.setNotices l).line.notices =
    l := rfl

/-! ## `State.setHead` -/

@[simp] theorem State.setHead_line_state (s : State) (x : Option Head) : (s.setHead x).line.state =
    s.line.state := rfl
@[simp] theorem State.setHead_line_prev (s : State) (x : Option Head) : (s.setHead x).line.prev = s.line.prev := rfl
@[simp] theorem State.setHead_line_transitions (s : State) (x : Option Head) : (s.setHead x).line.transitions =
    s.line.transitions := rfl
@[simp] theorem State.setHead_line_tick (s : State) (x : Option Head) : (s.setHead x).line.tick = s.line.tick := rfl
@[simp] theorem State.setHead_line_cycle (s : State) (x : Option Head) : (s.setHead x).line.cycle =
    s.line.cycle := rfl
@[simp] theorem State.setHead_line_pendingLen (s : State) (x : Option Head) : (s.setHead x).line.pendingLen =
    s.line.pendingLen := rfl
@[simp] theorem State.setHead_line_warmup (s : State) (x : Option Head) : (s.setHead x).line.warmup =
    s.line.warmup := rfl
@[simp] theorem State.setHead_line_drainLeft (s : State) (x : Option Head) : (s.setHead x).line.drainLeft =
    s.line.drainLeft := rfl
@[simp] theorem State.setHead_line_drainCycle (s : State) (x : Option Head) : (s.setHead x).line.drainCycle =
    s.line.drainCycle := rfl
@[simp] theorem State.setHead_line_notices (s : State) (x : Option Head) : (s.setHead x).line.notices =
    s.line.notices := rfl
@[simp] theorem State.setHead_line_settings (s : State) (x : Option Head) : (s.setHead x).line.settings =
    s.line.settings := rfl
@[simp] theorem State.setHead_line_txEnable (s : State) (x : Option Head) : (s.setHead x).line.txEnable =
    s.line.txEnable := rfl
@[simp] theorem State.setHead_line_headOut (s : State) (x : Option Head) : (s.setHead x).line.headOut =
    s.line.headOut := rfl
@[simp] theorem State.setHead_roster (s : State) (x : Option Head) : (s.setHead x).roster = s.roster := rfl
@[simp] theorem State.setHead_census (s : State) (x : Option Head) : (s.setHead x).census = s.census := rfl
@[simp] theorem State.setHead_planner (s : State) (x : Option Head) : (s.setHead x).planner = s.planner := rfl
@[simp] theorem State.setHead_intake (s : State) (x : Option Head) : (s.setHead x).intake = s.intake := rfl
@[simp] theorem State.setHead_lanes (s : State) (x : Option Head) : (s.setHead x).lanes = s.lanes := rfl
@[simp] theorem State.setHead_sup (s : State) (x : Option Head) : (s.setHead x).sup = s.sup := rfl
@[simp] theorem State.setHead_conv (s : State) (x : Option Head) : (s.setHead x).conv = s.conv := rfl
@[simp] theorem State.setHead_link (s : State) (x : Option Head) : (s.setHead x).link = s.link := rfl
@[simp] theorem State.setHead_pending (s : State) (x : Option Head) : (s.setHead x).pending = s.pending := rfl
@[simp] theorem State.setHead_free (s : State) (x : Option Head) : (s.setHead x).free = s.free := rfl
@[simp] theorem State.setHead_line_head (s : State) (x : Option Head) : (s.setHead x).line.head = x := rfl

/-! ## `State.setCycle` -/

@[simp] theorem State.setCycle_line_state (s : State) (x : Option Cycle) : (s.setCycle x).line.state =
    s.line.state := rfl
@[simp] theorem State.setCycle_line_prev (s : State) (x : Option Cycle) : (s.setCycle x).line.prev =
    s.line.prev := rfl
@[simp] theorem State.setCycle_line_transitions (s : State) (x : Option Cycle) : (s.setCycle x).line.transitions =
    s.line.transitions := rfl
@[simp] theorem State.setCycle_line_tick (s : State) (x : Option Cycle) : (s.setCycle x).line.tick =
    s.line.tick := rfl
@[simp] theorem State.setCycle_line_pendingLen (s : State) (x : Option Cycle) : (s.setCycle x).line.pendingLen =
    s.line.pendingLen := rfl
@[simp] theorem State.setCycle_line_warmup (s : State) (x : Option Cycle) : (s.setCycle x).line.warmup =
    s.line.warmup := rfl
@[simp] theorem State.setCycle_line_drainLeft (s : State) (x : Option Cycle) : (s.setCycle x).line.drainLeft =
    s.line.drainLeft := rfl
@[simp] theorem State.setCycle_line_drainCycle (s : State) (x : Option Cycle) : (s.setCycle x).line.drainCycle =
    s.line.drainCycle := rfl
@[simp] theorem State.setCycle_line_head (s : State) (x : Option Cycle) : (s.setCycle x).line.head =
    s.line.head := rfl
@[simp] theorem State.setCycle_line_notices (s : State) (x : Option Cycle) : (s.setCycle x).line.notices =
    s.line.notices := rfl
@[simp] theorem State.setCycle_line_settings (s : State) (x : Option Cycle) : (s.setCycle x).line.settings =
    s.line.settings := rfl
@[simp] theorem State.setCycle_line_txEnable (s : State) (x : Option Cycle) : (s.setCycle x).line.txEnable =
    s.line.txEnable := rfl
@[simp] theorem State.setCycle_line_headOut (s : State) (x : Option Cycle) : (s.setCycle x).line.headOut =
    s.line.headOut := rfl
@[simp] theorem State.setCycle_roster (s : State) (x : Option Cycle) : (s.setCycle x).roster = s.roster := rfl
@[simp] theorem State.setCycle_census (s : State) (x : Option Cycle) : (s.setCycle x).census = s.census := rfl
@[simp] theorem State.setCycle_planner (s : State) (x : Option Cycle) : (s.setCycle x).planner = s.planner := rfl
@[simp] theorem State.setCycle_intake (s : State) (x : Option Cycle) : (s.setCycle x).intake = s.intake := rfl
@[simp] theorem State.setCycle_lanes (s : State) (x : Option Cycle) : (s.setCycle x).lanes = s.lanes := rfl
@[simp] theorem State.setCycle_sup (s : State) (x : Option Cycle) : (s.setCycle x).sup = s.sup := rfl
@[simp] theorem State.setCycle_conv (s : State) (x : Option Cycle) : (s.setCycle x).conv = s.conv := rfl
@[simp] theorem State.setCycle_link (s : State) (x : Option Cycle) : (s.setCycle x).link = s.link := rfl
@[simp] theorem State.setCycle_pending (s : State) (x : Option Cycle) : (s.setCycle x).pending = s.pending := rfl
@[simp] theorem State.setCycle_free (s : State) (x : Option Cycle) : (s.setCycle x).free = s.free := rfl
@[simp] theorem State.setCycle_line_cycle (s : State) (x : Option Cycle) : (s.setCycle x).line.cycle = x := rfl

/-! ## `State.setWarmup` -/

@[simp] theorem State.setWarmup_line_state (s : State) (n : Nat) : (s.setWarmup n).line.state = s.line.state := rfl
@[simp] theorem State.setWarmup_line_prev (s : State) (n : Nat) : (s.setWarmup n).line.prev = s.line.prev := rfl
@[simp] theorem State.setWarmup_line_transitions (s : State) (n : Nat) : (s.setWarmup n).line.transitions =
    s.line.transitions := rfl
@[simp] theorem State.setWarmup_line_tick (s : State) (n : Nat) : (s.setWarmup n).line.tick = s.line.tick := rfl
@[simp] theorem State.setWarmup_line_cycle (s : State) (n : Nat) : (s.setWarmup n).line.cycle = s.line.cycle := rfl
@[simp] theorem State.setWarmup_line_pendingLen (s : State) (n : Nat) : (s.setWarmup n).line.pendingLen =
    s.line.pendingLen := rfl
@[simp] theorem State.setWarmup_line_drainLeft (s : State) (n : Nat) : (s.setWarmup n).line.drainLeft =
    s.line.drainLeft := rfl
@[simp] theorem State.setWarmup_line_drainCycle (s : State) (n : Nat) : (s.setWarmup n).line.drainCycle =
    s.line.drainCycle := rfl
@[simp] theorem State.setWarmup_line_head (s : State) (n : Nat) : (s.setWarmup n).line.head = s.line.head := rfl
@[simp] theorem State.setWarmup_line_notices (s : State) (n : Nat) : (s.setWarmup n).line.notices =
    s.line.notices := rfl
@[simp] theorem State.setWarmup_line_settings (s : State) (n : Nat) : (s.setWarmup n).line.settings =
    s.line.settings := rfl
@[simp] theorem State.setWarmup_line_txEnable (s : State) (n : Nat) : (s.setWarmup n).line.txEnable =
    s.line.txEnable := rfl
@[simp] theorem State.setWarmup_line_headOut (s : State) (n : Nat) : (s.setWarmup n).line.headOut =
    s.line.headOut := rfl
@[simp] theorem State.setWarmup_roster (s : State) (n : Nat) : (s.setWarmup n).roster = s.roster := rfl
@[simp] theorem State.setWarmup_census (s : State) (n : Nat) : (s.setWarmup n).census = s.census := rfl
@[simp] theorem State.setWarmup_planner (s : State) (n : Nat) : (s.setWarmup n).planner = s.planner := rfl
@[simp] theorem State.setWarmup_intake (s : State) (n : Nat) : (s.setWarmup n).intake = s.intake := rfl
@[simp] theorem State.setWarmup_lanes (s : State) (n : Nat) : (s.setWarmup n).lanes = s.lanes := rfl
@[simp] theorem State.setWarmup_sup (s : State) (n : Nat) : (s.setWarmup n).sup = s.sup := rfl
@[simp] theorem State.setWarmup_conv (s : State) (n : Nat) : (s.setWarmup n).conv = s.conv := rfl
@[simp] theorem State.setWarmup_link (s : State) (n : Nat) : (s.setWarmup n).link = s.link := rfl
@[simp] theorem State.setWarmup_pending (s : State) (n : Nat) : (s.setWarmup n).pending = s.pending := rfl
@[simp] theorem State.setWarmup_free (s : State) (n : Nat) : (s.setWarmup n).free = s.free := rfl
@[simp] theorem State.setWarmup_line_warmup (s : State) (n : Nat) : (s.setWarmup n).line.warmup = n := rfl

/-! ## `State.setDrain` -/

@[simp] theorem State.setDrain_line_state (s : State) (n : Nat) (inside : Bool) : (s.setDrain n inside).line.state =
    s.line.state := rfl
@[simp] theorem State.setDrain_line_prev (s : State) (n : Nat) (inside : Bool) : (s.setDrain n inside).line.prev =
    s.line.prev := rfl
@[simp] theorem State.setDrain_line_transitions (s : State) (n : Nat) (inside : Bool) : (s.setDrain n inside).line.transitions =
    s.line.transitions := rfl
@[simp] theorem State.setDrain_line_tick (s : State) (n : Nat) (inside : Bool) : (s.setDrain n inside).line.tick =
    s.line.tick := rfl
@[simp] theorem State.setDrain_line_cycle (s : State) (n : Nat) (inside : Bool) : (s.setDrain n inside).line.cycle =
    s.line.cycle := rfl
@[simp] theorem State.setDrain_line_pendingLen (s : State) (n : Nat) (inside : Bool) : (s.setDrain n inside).line.pendingLen =
    s.line.pendingLen := rfl
@[simp] theorem State.setDrain_line_warmup (s : State) (n : Nat) (inside : Bool) : (s.setDrain n inside).line.warmup =
    s.line.warmup := rfl
@[simp] theorem State.setDrain_line_head (s : State) (n : Nat) (inside : Bool) : (s.setDrain n inside).line.head =
    s.line.head := rfl
@[simp] theorem State.setDrain_line_notices (s : State) (n : Nat) (inside : Bool) : (s.setDrain n inside).line.notices =
    s.line.notices := rfl
@[simp] theorem State.setDrain_line_settings (s : State) (n : Nat) (inside : Bool) : (s.setDrain n inside).line.settings =
    s.line.settings := rfl
@[simp] theorem State.setDrain_line_txEnable (s : State) (n : Nat) (inside : Bool) : (s.setDrain n inside).line.txEnable =
    s.line.txEnable := rfl
@[simp] theorem State.setDrain_line_headOut (s : State) (n : Nat) (inside : Bool) : (s.setDrain n inside).line.headOut =
    s.line.headOut := rfl
@[simp] theorem State.setDrain_roster (s : State) (n : Nat) (inside : Bool) : (s.setDrain n inside).roster =
    s.roster := rfl
@[simp] theorem State.setDrain_census (s : State) (n : Nat) (inside : Bool) : (s.setDrain n inside).census =
    s.census := rfl
@[simp] theorem State.setDrain_planner (s : State) (n : Nat) (inside : Bool) : (s.setDrain n inside).planner =
    s.planner := rfl
@[simp] theorem State.setDrain_intake (s : State) (n : Nat) (inside : Bool) : (s.setDrain n inside).intake =
    s.intake := rfl
@[simp] theorem State.setDrain_lanes (s : State) (n : Nat) (inside : Bool) : (s.setDrain n inside).lanes =
    s.lanes := rfl
@[simp] theorem State.setDrain_sup (s : State) (n : Nat) (inside : Bool) : (s.setDrain n inside).sup = s.sup := rfl
@[simp] theorem State.setDrain_conv (s : State) (n : Nat) (inside : Bool) : (s.setDrain n inside).conv = s.conv := rfl
@[simp] theorem State.setDrain_link (s : State) (n : Nat) (inside : Bool) : (s.setDrain n inside).link = s.link := rfl
@[simp] theorem State.setDrain_pending (s : State) (n : Nat) (inside : Bool) : (s.setDrain n inside).pending =
    s.pending := rfl
@[simp] theorem State.setDrain_free (s : State) (n : Nat) (inside : Bool) : (s.setDrain n inside).free = s.free := rfl
@[simp] theorem State.setDrain_line_drainLeft (s : State) (n : Nat) (inside : Bool) : (s.setDrain n inside).line.drainLeft =
    n := rfl
@[simp] theorem State.setDrain_line_drainCycle (s : State) (n : Nat) (inside : Bool) : (s.setDrain n inside).line.drainCycle =
    inside := rfl

/-! ## `State.setEnable` -/

@[simp] theorem State.setEnable_line_state (s : State) (b : Bool) : (s.setEnable b).line.state = s.line.state := rfl
@[simp] theorem State.setEnable_line_prev (s : State) (b : Bool) : (s.setEnable b).line.prev = s.line.prev := rfl
@[simp] theorem State.setEnable_line_transitions (s : State) (b : Bool) : (s.setEnable b).line.transitions =
    s.line.transitions := rfl
@[simp] theorem State.setEnable_line_tick (s : State) (b : Bool) : (s.setEnable b).line.tick = s.line.tick := rfl
@[simp] theorem State.setEnable_line_cycle (s : State) (b : Bool) : (s.setEnable b).line.cycle = s.line.cycle := rfl
@[simp] theorem State.setEnable_line_pendingLen (s : State) (b : Bool) : (s.setEnable b).line.pendingLen =
    s.line.pendingLen := rfl
@[simp] theorem State.setEnable_line_warmup (s : State) (b : Bool) : (s.setEnable b).line.warmup =
    s.line.warmup := rfl
@[simp] theorem State.setEnable_line_drainLeft (s : State) (b : Bool) : (s.setEnable b).line.drainLeft =
    s.line.drainLeft := rfl
@[simp] theorem State.setEnable_line_drainCycle (s : State) (b : Bool) : (s.setEnable b).line.drainCycle =
    s.line.drainCycle := rfl
@[simp] theorem State.setEnable_line_head (s : State) (b : Bool) : (s.setEnable b).line.head = s.line.head := rfl
@[simp] theorem State.setEnable_line_notices (s : State) (b : Bool) : (s.setEnable b).line.notices =
    s.line.notices := rfl
@[simp] theorem State.setEnable_line_settings (s : State) (b : Bool) : (s.setEnable b).line.settings =
    s.line.settings := rfl
@[simp] theorem State.setEnable_line_headOut (s : State) (b : Bool) : (s.setEnable b).line.headOut =
    s.line.headOut := rfl
@[simp] theorem State.setEnable_roster (s : State) (b : Bool) : (s.setEnable b).roster = s.roster := rfl
@[simp] theorem State.setEnable_census (s : State) (b : Bool) : (s.setEnable b).census = s.census := rfl
@[simp] theorem State.setEnable_planner (s : State) (b : Bool) : (s.setEnable b).planner = s.planner := rfl
@[simp] theorem State.setEnable_intake (s : State) (b : Bool) : (s.setEnable b).intake = s.intake := rfl
@[simp] theorem State.setEnable_lanes (s : State) (b : Bool) : (s.setEnable b).lanes = s.lanes := rfl
@[simp] theorem State.setEnable_sup (s : State) (b : Bool) : (s.setEnable b).sup = s.sup := rfl
@[simp] theorem State.setEnable_conv (s : State) (b : Bool) : (s.setEnable b).conv = s.conv := rfl
@[simp] theorem State.setEnable_link (s : State) (b : Bool) : (s.setEnable b).link = s.link := rfl
@[simp] theorem State.setEnable_pending (s : State) (b : Bool) : (s.setEnable b).pending = s.pending := rfl
@[simp] theorem State.setEnable_free (s : State) (b : Bool) : (s.setEnable b).free = s.free := rfl
@[simp] theorem State.setEnable_line_txEnable (s : State) (b : Bool) : (s.setEnable b).line.txEnable = b := rfl

/-! ## `State.setAdmissionQueue` -/

@[simp] theorem State.setAdmissionQueue_line (s : State) (l : List Tag) : (s.setAdmissionQueue l).line = s.line := rfl
@[simp] theorem State.setAdmissionQueue_roster_records (s : State) (l : List Tag) : (s.setAdmissionQueue l).roster.records =
    s.roster.records := rfl
@[simp] theorem State.setAdmissionQueue_roster_expected (s : State) (l : List Tag) : (s.setAdmissionQueue l).roster.expected =
    s.roster.expected := rfl
@[simp] theorem State.setAdmissionQueue_roster_barred (s : State) (l : List Tag) : (s.setAdmissionQueue l).roster.barred =
    s.roster.barred := rfl
@[simp] theorem State.setAdmissionQueue_roster_strangers (s : State) (l : List Tag) : (s.setAdmissionQueue l).roster.strangers =
    s.roster.strangers := rfl
@[simp] theorem State.setAdmissionQueue_roster_overflowed (s : State) (l : List Tag) : (s.setAdmissionQueue l).roster.overflowed =
    s.roster.overflowed := rfl
@[simp] theorem State.setAdmissionQueue_roster_mode (s : State) (l : List Tag) : (s.setAdmissionQueue l).roster.mode =
    s.roster.mode := rfl
@[simp] theorem State.setAdmissionQueue_roster_poolLow (s : State) (l : List Tag) : (s.setAdmissionQueue l).roster.poolLow =
    s.roster.poolLow := rfl
@[simp] theorem State.setAdmissionQueue_roster_poolHigh (s : State) (l : List Tag) : (s.setAdmissionQueue l).roster.poolHigh =
    s.roster.poolHigh := rfl
@[simp] theorem State.setAdmissionQueue_roster_openProfile (s : State) (l : List Tag) : (s.setAdmissionQueue l).roster.openProfile =
    s.roster.openProfile := rfl
@[simp] theorem State.setAdmissionQueue_roster_profiles (s : State) (l : List Tag) : (s.setAdmissionQueue l).roster.profiles =
    s.roster.profiles := rfl
@[simp] theorem State.setAdmissionQueue_roster_waiting (s : State) (l : List Tag) : (s.setAdmissionQueue l).roster.waiting =
    s.roster.waiting := rfl
@[simp] theorem State.setAdmissionQueue_census (s : State) (l : List Tag) : (s.setAdmissionQueue l).census =
    s.census := rfl
@[simp] theorem State.setAdmissionQueue_planner (s : State) (l : List Tag) : (s.setAdmissionQueue l).planner =
    s.planner := rfl
@[simp] theorem State.setAdmissionQueue_intake (s : State) (l : List Tag) : (s.setAdmissionQueue l).intake =
    s.intake := rfl
@[simp] theorem State.setAdmissionQueue_lanes (s : State) (l : List Tag) : (s.setAdmissionQueue l).lanes =
    s.lanes := rfl
@[simp] theorem State.setAdmissionQueue_sup (s : State) (l : List Tag) : (s.setAdmissionQueue l).sup = s.sup := rfl
@[simp] theorem State.setAdmissionQueue_conv (s : State) (l : List Tag) : (s.setAdmissionQueue l).conv = s.conv := rfl
@[simp] theorem State.setAdmissionQueue_link (s : State) (l : List Tag) : (s.setAdmissionQueue l).link = s.link := rfl
@[simp] theorem State.setAdmissionQueue_pending (s : State) (l : List Tag) : (s.setAdmissionQueue l).pending =
    s.pending := rfl
@[simp] theorem State.setAdmissionQueue_free (s : State) (l : List Tag) : (s.setAdmissionQueue l).free = s.free := rfl
@[simp] theorem State.setAdmissionQueue_roster_admission (s : State) (l : List Tag) : (s.setAdmissionQueue l).roster.admission =
    l := rfl

/-! ## `State.setStrangers` -/

@[simp] theorem State.setStrangers_line (s : State) (l : List Stranger) : (s.setStrangers l).line = s.line := rfl
@[simp] theorem State.setStrangers_roster_records (s : State) (l : List Stranger) : (s.setStrangers l).roster.records =
    s.roster.records := rfl
@[simp] theorem State.setStrangers_roster_expected (s : State) (l : List Stranger) : (s.setStrangers l).roster.expected =
    s.roster.expected := rfl
@[simp] theorem State.setStrangers_roster_barred (s : State) (l : List Stranger) : (s.setStrangers l).roster.barred =
    s.roster.barred := rfl
@[simp] theorem State.setStrangers_roster_overflowed (s : State) (l : List Stranger) : (s.setStrangers l).roster.overflowed =
    s.roster.overflowed := rfl
@[simp] theorem State.setStrangers_roster_mode (s : State) (l : List Stranger) : (s.setStrangers l).roster.mode =
    s.roster.mode := rfl
@[simp] theorem State.setStrangers_roster_poolLow (s : State) (l : List Stranger) : (s.setStrangers l).roster.poolLow =
    s.roster.poolLow := rfl
@[simp] theorem State.setStrangers_roster_poolHigh (s : State) (l : List Stranger) : (s.setStrangers l).roster.poolHigh =
    s.roster.poolHigh := rfl
@[simp] theorem State.setStrangers_roster_openProfile (s : State) (l : List Stranger) : (s.setStrangers l).roster.openProfile =
    s.roster.openProfile := rfl
@[simp] theorem State.setStrangers_roster_admission (s : State) (l : List Stranger) : (s.setStrangers l).roster.admission =
    s.roster.admission := rfl
@[simp] theorem State.setStrangers_roster_profiles (s : State) (l : List Stranger) : (s.setStrangers l).roster.profiles =
    s.roster.profiles := rfl
@[simp] theorem State.setStrangers_roster_waiting (s : State) (l : List Stranger) : (s.setStrangers l).roster.waiting =
    s.roster.waiting := rfl
@[simp] theorem State.setStrangers_census (s : State) (l : List Stranger) : (s.setStrangers l).census =
    s.census := rfl
@[simp] theorem State.setStrangers_planner (s : State) (l : List Stranger) : (s.setStrangers l).planner =
    s.planner := rfl
@[simp] theorem State.setStrangers_intake (s : State) (l : List Stranger) : (s.setStrangers l).intake =
    s.intake := rfl
@[simp] theorem State.setStrangers_lanes (s : State) (l : List Stranger) : (s.setStrangers l).lanes = s.lanes := rfl
@[simp] theorem State.setStrangers_sup (s : State) (l : List Stranger) : (s.setStrangers l).sup = s.sup := rfl
@[simp] theorem State.setStrangers_conv (s : State) (l : List Stranger) : (s.setStrangers l).conv = s.conv := rfl
@[simp] theorem State.setStrangers_link (s : State) (l : List Stranger) : (s.setStrangers l).link = s.link := rfl
@[simp] theorem State.setStrangers_pending (s : State) (l : List Stranger) : (s.setStrangers l).pending =
    s.pending := rfl
@[simp] theorem State.setStrangers_free (s : State) (l : List Stranger) : (s.setStrangers l).free = s.free := rfl
@[simp] theorem State.setStrangers_roster_strangers (s : State) (l : List Stranger) : (s.setStrangers l).roster.strangers =
    l := rfl

/-! ## `State.setOverflowed` -/

@[simp] theorem State.setOverflowed_line (s : State) : (s.setOverflowed).line = s.line := rfl
@[simp] theorem State.setOverflowed_roster_records (s : State) : (s.setOverflowed).roster.records =
    s.roster.records := rfl
@[simp] theorem State.setOverflowed_roster_expected (s : State) : (s.setOverflowed).roster.expected =
    s.roster.expected := rfl
@[simp] theorem State.setOverflowed_roster_barred (s : State) : (s.setOverflowed).roster.barred =
    s.roster.barred := rfl
@[simp] theorem State.setOverflowed_roster_strangers (s : State) : (s.setOverflowed).roster.strangers =
    s.roster.strangers := rfl
@[simp] theorem State.setOverflowed_roster_mode (s : State) : (s.setOverflowed).roster.mode = s.roster.mode := rfl
@[simp] theorem State.setOverflowed_roster_poolLow (s : State) : (s.setOverflowed).roster.poolLow =
    s.roster.poolLow := rfl
@[simp] theorem State.setOverflowed_roster_poolHigh (s : State) : (s.setOverflowed).roster.poolHigh =
    s.roster.poolHigh := rfl
@[simp] theorem State.setOverflowed_roster_openProfile (s : State) : (s.setOverflowed).roster.openProfile =
    s.roster.openProfile := rfl
@[simp] theorem State.setOverflowed_roster_admission (s : State) : (s.setOverflowed).roster.admission =
    s.roster.admission := rfl
@[simp] theorem State.setOverflowed_roster_profiles (s : State) : (s.setOverflowed).roster.profiles =
    s.roster.profiles := rfl
@[simp] theorem State.setOverflowed_roster_waiting (s : State) : (s.setOverflowed).roster.waiting =
    s.roster.waiting := rfl
@[simp] theorem State.setOverflowed_census (s : State) : (s.setOverflowed).census = s.census := rfl
@[simp] theorem State.setOverflowed_planner (s : State) : (s.setOverflowed).planner = s.planner := rfl
@[simp] theorem State.setOverflowed_intake (s : State) : (s.setOverflowed).intake = s.intake := rfl
@[simp] theorem State.setOverflowed_lanes (s : State) : (s.setOverflowed).lanes = s.lanes := rfl
@[simp] theorem State.setOverflowed_sup (s : State) : (s.setOverflowed).sup = s.sup := rfl
@[simp] theorem State.setOverflowed_conv (s : State) : (s.setOverflowed).conv = s.conv := rfl
@[simp] theorem State.setOverflowed_link (s : State) : (s.setOverflowed).link = s.link := rfl
@[simp] theorem State.setOverflowed_pending (s : State) : (s.setOverflowed).pending = s.pending := rfl
@[simp] theorem State.setOverflowed_free (s : State) : (s.setOverflowed).free = s.free := rfl
@[simp] theorem State.setOverflowed_roster_overflowed (s : State) : (s.setOverflowed).roster.overflowed = true := rfl

/-! ## `State.setWaiting` -/

@[simp] theorem State.setWaiting_line (s : State) (l : List LineNotice) : (s.setWaiting l).line = s.line := rfl
@[simp] theorem State.setWaiting_roster_records (s : State) (l : List LineNotice) : (s.setWaiting l).roster.records =
    s.roster.records := rfl
@[simp] theorem State.setWaiting_roster_expected (s : State) (l : List LineNotice) : (s.setWaiting l).roster.expected =
    s.roster.expected := rfl
@[simp] theorem State.setWaiting_roster_barred (s : State) (l : List LineNotice) : (s.setWaiting l).roster.barred =
    s.roster.barred := rfl
@[simp] theorem State.setWaiting_roster_strangers (s : State) (l : List LineNotice) : (s.setWaiting l).roster.strangers =
    s.roster.strangers := rfl
@[simp] theorem State.setWaiting_roster_overflowed (s : State) (l : List LineNotice) : (s.setWaiting l).roster.overflowed =
    s.roster.overflowed := rfl
@[simp] theorem State.setWaiting_roster_mode (s : State) (l : List LineNotice) : (s.setWaiting l).roster.mode =
    s.roster.mode := rfl
@[simp] theorem State.setWaiting_roster_poolLow (s : State) (l : List LineNotice) : (s.setWaiting l).roster.poolLow =
    s.roster.poolLow := rfl
@[simp] theorem State.setWaiting_roster_poolHigh (s : State) (l : List LineNotice) : (s.setWaiting l).roster.poolHigh =
    s.roster.poolHigh := rfl
@[simp] theorem State.setWaiting_roster_openProfile (s : State) (l : List LineNotice) : (s.setWaiting l).roster.openProfile =
    s.roster.openProfile := rfl
@[simp] theorem State.setWaiting_roster_admission (s : State) (l : List LineNotice) : (s.setWaiting l).roster.admission =
    s.roster.admission := rfl
@[simp] theorem State.setWaiting_roster_profiles (s : State) (l : List LineNotice) : (s.setWaiting l).roster.profiles =
    s.roster.profiles := rfl
@[simp] theorem State.setWaiting_census (s : State) (l : List LineNotice) : (s.setWaiting l).census = s.census := rfl
@[simp] theorem State.setWaiting_planner (s : State) (l : List LineNotice) : (s.setWaiting l).planner =
    s.planner := rfl
@[simp] theorem State.setWaiting_intake (s : State) (l : List LineNotice) : (s.setWaiting l).intake = s.intake := rfl
@[simp] theorem State.setWaiting_lanes (s : State) (l : List LineNotice) : (s.setWaiting l).lanes = s.lanes := rfl
@[simp] theorem State.setWaiting_sup (s : State) (l : List LineNotice) : (s.setWaiting l).sup = s.sup := rfl
@[simp] theorem State.setWaiting_conv (s : State) (l : List LineNotice) : (s.setWaiting l).conv = s.conv := rfl
@[simp] theorem State.setWaiting_link (s : State) (l : List LineNotice) : (s.setWaiting l).link = s.link := rfl
@[simp] theorem State.setWaiting_pending (s : State) (l : List LineNotice) : (s.setWaiting l).pending =
    s.pending := rfl
@[simp] theorem State.setWaiting_free (s : State) (l : List LineNotice) : (s.setWaiting l).free = s.free := rfl
@[simp] theorem State.setWaiting_roster_waiting (s : State) (l : List LineNotice) : (s.setWaiting l).roster.waiting =
    l := rfl

/-! ## `State.setCensus` -/

@[simp] theorem State.setCensus_line (s : State) (c : Census) : (s.setCensus c).line = s.line := rfl
@[simp] theorem State.setCensus_roster (s : State) (c : Census) : (s.setCensus c).roster = s.roster := rfl
@[simp] theorem State.setCensus_planner (s : State) (c : Census) : (s.setCensus c).planner = s.planner := rfl
@[simp] theorem State.setCensus_intake (s : State) (c : Census) : (s.setCensus c).intake = s.intake := rfl
@[simp] theorem State.setCensus_lanes (s : State) (c : Census) : (s.setCensus c).lanes = s.lanes := rfl
@[simp] theorem State.setCensus_sup (s : State) (c : Census) : (s.setCensus c).sup = s.sup := rfl
@[simp] theorem State.setCensus_conv (s : State) (c : Census) : (s.setCensus c).conv = s.conv := rfl
@[simp] theorem State.setCensus_link (s : State) (c : Census) : (s.setCensus c).link = s.link := rfl
@[simp] theorem State.setCensus_pending (s : State) (c : Census) : (s.setCensus c).pending = s.pending := rfl
@[simp] theorem State.setCensus_free (s : State) (c : Census) : (s.setCensus c).free = s.free := rfl
@[simp] theorem State.setCensus_census (s : State) (c : Census) : (s.setCensus c).census = c := rfl

/-! ## `State.setShots` -/

@[simp] theorem State.setShots_line (s : State) (l : List OneShot) : (s.setShots l).line = s.line := rfl
@[simp] theorem State.setShots_roster (s : State) (l : List OneShot) : (s.setShots l).roster = s.roster := rfl
@[simp] theorem State.setShots_census (s : State) (l : List OneShot) : (s.setShots l).census = s.census := rfl
@[simp] theorem State.setShots_planner_built (s : State) (l : List OneShot) : (s.setShots l).planner.built =
    s.planner.built := rfl
@[simp] theorem State.setShots_planner_sweep (s : State) (l : List OneShot) : (s.setShots l).planner.sweep =
    s.planner.sweep := rfl
@[simp] theorem State.setShots_planner_slotWanted (s : State) (l : List OneShot) : (s.setShots l).planner.slotWanted =
    s.planner.slotWanted := rfl
@[simp] theorem State.setShots_planner_overruns (s : State) (l : List OneShot) : (s.setShots l).planner.overruns =
    s.planner.overruns := rfl
@[simp] theorem State.setShots_planner_lastOverrun (s : State) (l : List OneShot) : (s.setShots l).planner.lastOverrun =
    s.planner.lastOverrun := rfl
@[simp] theorem State.setShots_planner_framerPlan (s : State) (l : List OneShot) : (s.setShots l).planner.framerPlan =
    s.planner.framerPlan := rfl
@[simp] theorem State.setShots_intake (s : State) (l : List OneShot) : (s.setShots l).intake = s.intake := rfl
@[simp] theorem State.setShots_lanes (s : State) (l : List OneShot) : (s.setShots l).lanes = s.lanes := rfl
@[simp] theorem State.setShots_sup (s : State) (l : List OneShot) : (s.setShots l).sup = s.sup := rfl
@[simp] theorem State.setShots_conv (s : State) (l : List OneShot) : (s.setShots l).conv = s.conv := rfl
@[simp] theorem State.setShots_link (s : State) (l : List OneShot) : (s.setShots l).link = s.link := rfl
@[simp] theorem State.setShots_pending (s : State) (l : List OneShot) : (s.setShots l).pending = s.pending := rfl
@[simp] theorem State.setShots_free (s : State) (l : List OneShot) : (s.setShots l).free = s.free := rfl
@[simp] theorem State.setShots_planner_shots (s : State) (l : List OneShot) : (s.setShots l).planner.shots = l := rfl

/-! ## `State.setSlotWanted` -/

@[simp] theorem State.setSlotWanted_line (s : State) (b : Bool) : (s.setSlotWanted b).line = s.line := rfl
@[simp] theorem State.setSlotWanted_roster (s : State) (b : Bool) : (s.setSlotWanted b).roster = s.roster := rfl
@[simp] theorem State.setSlotWanted_census (s : State) (b : Bool) : (s.setSlotWanted b).census = s.census := rfl
@[simp] theorem State.setSlotWanted_planner_built (s : State) (b : Bool) : (s.setSlotWanted b).planner.built =
    s.planner.built := rfl
@[simp] theorem State.setSlotWanted_planner_shots (s : State) (b : Bool) : (s.setSlotWanted b).planner.shots =
    s.planner.shots := rfl
@[simp] theorem State.setSlotWanted_planner_sweep (s : State) (b : Bool) : (s.setSlotWanted b).planner.sweep =
    s.planner.sweep := rfl
@[simp] theorem State.setSlotWanted_planner_overruns (s : State) (b : Bool) : (s.setSlotWanted b).planner.overruns =
    s.planner.overruns := rfl
@[simp] theorem State.setSlotWanted_planner_lastOverrun (s : State) (b : Bool) : (s.setSlotWanted b).planner.lastOverrun =
    s.planner.lastOverrun := rfl
@[simp] theorem State.setSlotWanted_planner_framerPlan (s : State) (b : Bool) : (s.setSlotWanted b).planner.framerPlan =
    s.planner.framerPlan := rfl
@[simp] theorem State.setSlotWanted_intake (s : State) (b : Bool) : (s.setSlotWanted b).intake = s.intake := rfl
@[simp] theorem State.setSlotWanted_lanes (s : State) (b : Bool) : (s.setSlotWanted b).lanes = s.lanes := rfl
@[simp] theorem State.setSlotWanted_sup (s : State) (b : Bool) : (s.setSlotWanted b).sup = s.sup := rfl
@[simp] theorem State.setSlotWanted_conv (s : State) (b : Bool) : (s.setSlotWanted b).conv = s.conv := rfl
@[simp] theorem State.setSlotWanted_link (s : State) (b : Bool) : (s.setSlotWanted b).link = s.link := rfl
@[simp] theorem State.setSlotWanted_pending (s : State) (b : Bool) : (s.setSlotWanted b).pending = s.pending := rfl
@[simp] theorem State.setSlotWanted_free (s : State) (b : Bool) : (s.setSlotWanted b).free = s.free := rfl
@[simp] theorem State.setSlotWanted_planner_slotWanted (s : State) (b : Bool) : (s.setSlotWanted b).planner.slotWanted =
    b := rfl

/-! ## `State.setOverruns` -/

@[simp] theorem State.setOverruns_line (s : State) (n : Nat) (c : CycleNo) : (s.setOverruns n c).line = s.line := rfl
@[simp] theorem State.setOverruns_roster (s : State) (n : Nat) (c : CycleNo) : (s.setOverruns n c).roster =
    s.roster := rfl
@[simp] theorem State.setOverruns_census (s : State) (n : Nat) (c : CycleNo) : (s.setOverruns n c).census =
    s.census := rfl
@[simp] theorem State.setOverruns_planner_built (s : State) (n : Nat) (c : CycleNo) : (s.setOverruns n c).planner.built =
    s.planner.built := rfl
@[simp] theorem State.setOverruns_planner_shots (s : State) (n : Nat) (c : CycleNo) : (s.setOverruns n c).planner.shots =
    s.planner.shots := rfl
@[simp] theorem State.setOverruns_planner_sweep (s : State) (n : Nat) (c : CycleNo) : (s.setOverruns n c).planner.sweep =
    s.planner.sweep := rfl
@[simp] theorem State.setOverruns_planner_slotWanted (s : State) (n : Nat) (c : CycleNo) : (s.setOverruns n c).planner.slotWanted =
    s.planner.slotWanted := rfl
@[simp] theorem State.setOverruns_planner_framerPlan (s : State) (n : Nat) (c : CycleNo) : (s.setOverruns n c).planner.framerPlan =
    s.planner.framerPlan := rfl
@[simp] theorem State.setOverruns_intake (s : State) (n : Nat) (c : CycleNo) : (s.setOverruns n c).intake =
    s.intake := rfl
@[simp] theorem State.setOverruns_lanes (s : State) (n : Nat) (c : CycleNo) : (s.setOverruns n c).lanes =
    s.lanes := rfl
@[simp] theorem State.setOverruns_sup (s : State) (n : Nat) (c : CycleNo) : (s.setOverruns n c).sup = s.sup := rfl
@[simp] theorem State.setOverruns_conv (s : State) (n : Nat) (c : CycleNo) : (s.setOverruns n c).conv = s.conv := rfl
@[simp] theorem State.setOverruns_link (s : State) (n : Nat) (c : CycleNo) : (s.setOverruns n c).link = s.link := rfl
@[simp] theorem State.setOverruns_pending (s : State) (n : Nat) (c : CycleNo) : (s.setOverruns n c).pending =
    s.pending := rfl
@[simp] theorem State.setOverruns_free (s : State) (n : Nat) (c : CycleNo) : (s.setOverruns n c).free = s.free := rfl
@[simp] theorem State.setOverruns_planner_overruns (s : State) (n : Nat) (c : CycleNo) : (s.setOverruns n c).planner.overruns =
    n := rfl
@[simp] theorem State.setOverruns_planner_lastOverrun (s : State) (n : Nat) (c : CycleNo) : (s.setOverruns n c).planner.lastOverrun =
    some c := rfl

/-! ## `State.setSweep` -/

@[simp] theorem State.setSweep_line (s : State) (n : Nat) : (s.setSweep n).line = s.line := rfl
@[simp] theorem State.setSweep_roster (s : State) (n : Nat) : (s.setSweep n).roster = s.roster := rfl
@[simp] theorem State.setSweep_census (s : State) (n : Nat) : (s.setSweep n).census = s.census := rfl
@[simp] theorem State.setSweep_planner_built (s : State) (n : Nat) : (s.setSweep n).planner.built =
    s.planner.built := rfl
@[simp] theorem State.setSweep_planner_shots (s : State) (n : Nat) : (s.setSweep n).planner.shots =
    s.planner.shots := rfl
@[simp] theorem State.setSweep_planner_slotWanted (s : State) (n : Nat) : (s.setSweep n).planner.slotWanted =
    s.planner.slotWanted := rfl
@[simp] theorem State.setSweep_planner_overruns (s : State) (n : Nat) : (s.setSweep n).planner.overruns =
    s.planner.overruns := rfl
@[simp] theorem State.setSweep_planner_lastOverrun (s : State) (n : Nat) : (s.setSweep n).planner.lastOverrun =
    s.planner.lastOverrun := rfl
@[simp] theorem State.setSweep_planner_framerPlan (s : State) (n : Nat) : (s.setSweep n).planner.framerPlan =
    s.planner.framerPlan := rfl
@[simp] theorem State.setSweep_intake (s : State) (n : Nat) : (s.setSweep n).intake = s.intake := rfl
@[simp] theorem State.setSweep_lanes (s : State) (n : Nat) : (s.setSweep n).lanes = s.lanes := rfl
@[simp] theorem State.setSweep_sup (s : State) (n : Nat) : (s.setSweep n).sup = s.sup := rfl
@[simp] theorem State.setSweep_conv (s : State) (n : Nat) : (s.setSweep n).conv = s.conv := rfl
@[simp] theorem State.setSweep_link (s : State) (n : Nat) : (s.setSweep n).link = s.link := rfl
@[simp] theorem State.setSweep_pending (s : State) (n : Nat) : (s.setSweep n).pending = s.pending := rfl
@[simp] theorem State.setSweep_free (s : State) (n : Nat) : (s.setSweep n).free = s.free := rfl
@[simp] theorem State.setSweep_planner_sweep (s : State) (n : Nat) : (s.setSweep n).planner.sweep = n := rfl

/-! ## `State.setBuilt` -/

@[simp] theorem State.setBuilt_line (s : State) (p : Option Plan) : (s.setBuilt p).line = s.line := rfl
@[simp] theorem State.setBuilt_roster (s : State) (p : Option Plan) : (s.setBuilt p).roster = s.roster := rfl
@[simp] theorem State.setBuilt_census (s : State) (p : Option Plan) : (s.setBuilt p).census = s.census := rfl
@[simp] theorem State.setBuilt_planner_shots (s : State) (p : Option Plan) : (s.setBuilt p).planner.shots =
    s.planner.shots := rfl
@[simp] theorem State.setBuilt_planner_sweep (s : State) (p : Option Plan) : (s.setBuilt p).planner.sweep =
    s.planner.sweep := rfl
@[simp] theorem State.setBuilt_planner_slotWanted (s : State) (p : Option Plan) : (s.setBuilt p).planner.slotWanted =
    s.planner.slotWanted := rfl
@[simp] theorem State.setBuilt_planner_overruns (s : State) (p : Option Plan) : (s.setBuilt p).planner.overruns =
    s.planner.overruns := rfl
@[simp] theorem State.setBuilt_planner_lastOverrun (s : State) (p : Option Plan) : (s.setBuilt p).planner.lastOverrun =
    s.planner.lastOverrun := rfl
@[simp] theorem State.setBuilt_planner_framerPlan (s : State) (p : Option Plan) : (s.setBuilt p).planner.framerPlan =
    s.planner.framerPlan := rfl
@[simp] theorem State.setBuilt_intake (s : State) (p : Option Plan) : (s.setBuilt p).intake = s.intake := rfl
@[simp] theorem State.setBuilt_lanes (s : State) (p : Option Plan) : (s.setBuilt p).lanes = s.lanes := rfl
@[simp] theorem State.setBuilt_sup (s : State) (p : Option Plan) : (s.setBuilt p).sup = s.sup := rfl
@[simp] theorem State.setBuilt_conv (s : State) (p : Option Plan) : (s.setBuilt p).conv = s.conv := rfl
@[simp] theorem State.setBuilt_link (s : State) (p : Option Plan) : (s.setBuilt p).link = s.link := rfl
@[simp] theorem State.setBuilt_pending (s : State) (p : Option Plan) : (s.setBuilt p).pending = s.pending := rfl
@[simp] theorem State.setBuilt_free (s : State) (p : Option Plan) : (s.setBuilt p).free = s.free := rfl
@[simp] theorem State.setBuilt_planner_built (s : State) (p : Option Plan) : (s.setBuilt p).planner.built = p := rfl

/-! ## `State.setFramerPlan` -/

@[simp] theorem State.setFramerPlan_line (s : State) (p : Plan) : (s.setFramerPlan p).line = s.line := rfl
@[simp] theorem State.setFramerPlan_roster (s : State) (p : Plan) : (s.setFramerPlan p).roster = s.roster := rfl
@[simp] theorem State.setFramerPlan_census (s : State) (p : Plan) : (s.setFramerPlan p).census = s.census := rfl
@[simp] theorem State.setFramerPlan_planner_built (s : State) (p : Plan) : (s.setFramerPlan p).planner.built =
    s.planner.built := rfl
@[simp] theorem State.setFramerPlan_planner_shots (s : State) (p : Plan) : (s.setFramerPlan p).planner.shots =
    s.planner.shots := rfl
@[simp] theorem State.setFramerPlan_planner_sweep (s : State) (p : Plan) : (s.setFramerPlan p).planner.sweep =
    s.planner.sweep := rfl
@[simp] theorem State.setFramerPlan_planner_slotWanted (s : State) (p : Plan) : (s.setFramerPlan p).planner.slotWanted =
    s.planner.slotWanted := rfl
@[simp] theorem State.setFramerPlan_planner_overruns (s : State) (p : Plan) : (s.setFramerPlan p).planner.overruns =
    s.planner.overruns := rfl
@[simp] theorem State.setFramerPlan_planner_lastOverrun (s : State) (p : Plan) : (s.setFramerPlan p).planner.lastOverrun =
    s.planner.lastOverrun := rfl
@[simp] theorem State.setFramerPlan_intake (s : State) (p : Plan) : (s.setFramerPlan p).intake = s.intake := rfl
@[simp] theorem State.setFramerPlan_lanes (s : State) (p : Plan) : (s.setFramerPlan p).lanes = s.lanes := rfl
@[simp] theorem State.setFramerPlan_sup (s : State) (p : Plan) : (s.setFramerPlan p).sup = s.sup := rfl
@[simp] theorem State.setFramerPlan_conv (s : State) (p : Plan) : (s.setFramerPlan p).conv = s.conv := rfl
@[simp] theorem State.setFramerPlan_link (s : State) (p : Plan) : (s.setFramerPlan p).link = s.link := rfl
@[simp] theorem State.setFramerPlan_pending (s : State) (p : Plan) : (s.setFramerPlan p).pending = s.pending := rfl
@[simp] theorem State.setFramerPlan_free (s : State) (p : Plan) : (s.setFramerPlan p).free = s.free := rfl
@[simp] theorem State.setFramerPlan_planner_framerPlan (s : State) (p : Plan) : (s.setFramerPlan p).planner.framerPlan =
    some p := rfl

/-! ## `State.setStore` -/

@[simp] theorem State.setStore_line (s : State) (l : List StoredPlan) : (s.setStore l).line = s.line := rfl
@[simp] theorem State.setStore_roster (s : State) (l : List StoredPlan) : (s.setStore l).roster = s.roster := rfl
@[simp] theorem State.setStore_census (s : State) (l : List StoredPlan) : (s.setStore l).census = s.census := rfl
@[simp] theorem State.setStore_planner (s : State) (l : List StoredPlan) : (s.setStore l).planner = s.planner := rfl
@[simp] theorem State.setStore_intake_strays (s : State) (l : List StoredPlan) : (s.setStore l).intake.strays =
    s.intake.strays := rfl
@[simp] theorem State.setStore_lanes (s : State) (l : List StoredPlan) : (s.setStore l).lanes = s.lanes := rfl
@[simp] theorem State.setStore_sup (s : State) (l : List StoredPlan) : (s.setStore l).sup = s.sup := rfl
@[simp] theorem State.setStore_conv (s : State) (l : List StoredPlan) : (s.setStore l).conv = s.conv := rfl
@[simp] theorem State.setStore_link (s : State) (l : List StoredPlan) : (s.setStore l).link = s.link := rfl
@[simp] theorem State.setStore_pending (s : State) (l : List StoredPlan) : (s.setStore l).pending = s.pending := rfl
@[simp] theorem State.setStore_free (s : State) (l : List StoredPlan) : (s.setStore l).free = s.free := rfl
@[simp] theorem State.setStore_intake_store (s : State) (l : List StoredPlan) : (s.setStore l).intake.store = l := rfl

/-! ## `State.countStray` -/

@[simp] theorem State.countStray_line (s : State) : (s.countStray).line = s.line := rfl
@[simp] theorem State.countStray_roster (s : State) : (s.countStray).roster = s.roster := rfl
@[simp] theorem State.countStray_census (s : State) : (s.countStray).census = s.census := rfl
@[simp] theorem State.countStray_planner (s : State) : (s.countStray).planner = s.planner := rfl
@[simp] theorem State.countStray_intake_store (s : State) : (s.countStray).intake.store = s.intake.store := rfl
@[simp] theorem State.countStray_lanes (s : State) : (s.countStray).lanes = s.lanes := rfl
@[simp] theorem State.countStray_sup (s : State) : (s.countStray).sup = s.sup := rfl
@[simp] theorem State.countStray_conv (s : State) : (s.countStray).conv = s.conv := rfl
@[simp] theorem State.countStray_link (s : State) : (s.countStray).link = s.link := rfl
@[simp] theorem State.countStray_pending (s : State) : (s.countStray).pending = s.pending := rfl
@[simp] theorem State.countStray_free (s : State) : (s.countStray).free = s.free := rfl
@[simp] theorem State.countStray_intake_strays (s : State) : (s.countStray).intake.strays = s.intake.strays + 1 := rfl

/-! ## `State.setLanes` -/

@[simp] theorem State.setLanes_line (s : State) (b : Bank Lane 8) : (s.setLanes b).line = s.line := rfl
@[simp] theorem State.setLanes_roster (s : State) (b : Bank Lane 8) : (s.setLanes b).roster = s.roster := rfl
@[simp] theorem State.setLanes_census (s : State) (b : Bank Lane 8) : (s.setLanes b).census = s.census := rfl
@[simp] theorem State.setLanes_planner (s : State) (b : Bank Lane 8) : (s.setLanes b).planner = s.planner := rfl
@[simp] theorem State.setLanes_intake (s : State) (b : Bank Lane 8) : (s.setLanes b).intake = s.intake := rfl
@[simp] theorem State.setLanes_sup (s : State) (b : Bank Lane 8) : (s.setLanes b).sup = s.sup := rfl
@[simp] theorem State.setLanes_conv (s : State) (b : Bank Lane 8) : (s.setLanes b).conv = s.conv := rfl
@[simp] theorem State.setLanes_link (s : State) (b : Bank Lane 8) : (s.setLanes b).link = s.link := rfl
@[simp] theorem State.setLanes_pending (s : State) (b : Bank Lane 8) : (s.setLanes b).pending = s.pending := rfl
@[simp] theorem State.setLanes_free (s : State) (b : Bank Lane 8) : (s.setLanes b).free = s.free := rfl
@[simp] theorem State.setLanes_lanes (s : State) (b : Bank Lane 8) : (s.setLanes b).lanes = b := rfl

/-! ## `State.bumpSeizure` -/

@[simp] theorem State.bumpSeizure_line (s : State) (i : LaneNo) : (s.bumpSeizure i).line = s.line := rfl
@[simp] theorem State.bumpSeizure_roster (s : State) (i : LaneNo) : (s.bumpSeizure i).roster = s.roster := rfl
@[simp] theorem State.bumpSeizure_census (s : State) (i : LaneNo) : (s.bumpSeizure i).census = s.census := rfl
@[simp] theorem State.bumpSeizure_planner (s : State) (i : LaneNo) : (s.bumpSeizure i).planner = s.planner := rfl
@[simp] theorem State.bumpSeizure_intake (s : State) (i : LaneNo) : (s.bumpSeizure i).intake = s.intake := rfl
@[simp] theorem State.bumpSeizure_sup (s : State) (i : LaneNo) : (s.bumpSeizure i).sup = s.sup := rfl
@[simp] theorem State.bumpSeizure_conv (s : State) (i : LaneNo) : (s.bumpSeizure i).conv = s.conv := rfl
@[simp] theorem State.bumpSeizure_link (s : State) (i : LaneNo) : (s.bumpSeizure i).link = s.link := rfl
@[simp] theorem State.bumpSeizure_pending (s : State) (i : LaneNo) : (s.bumpSeizure i).pending = s.pending := rfl
@[simp] theorem State.bumpSeizure_free (s : State) (i : LaneNo) : (s.bumpSeizure i).free = s.free := rfl
@[simp] theorem State.bumpSeizure_lanes (s : State) (i : LaneNo) : (s.bumpSeizure i).lanes =
    s.lanes.update i fun l => { l with seizure := l.seizure + 1 } := rfl

/-! ## `State.setSup` -/

@[simp] theorem State.setSup_line (s : State) (b : Bank SupEntry 128) : (s.setSup b).line = s.line := rfl
@[simp] theorem State.setSup_roster (s : State) (b : Bank SupEntry 128) : (s.setSup b).roster = s.roster := rfl
@[simp] theorem State.setSup_census (s : State) (b : Bank SupEntry 128) : (s.setSup b).census = s.census := rfl
@[simp] theorem State.setSup_planner (s : State) (b : Bank SupEntry 128) : (s.setSup b).planner = s.planner := rfl
@[simp] theorem State.setSup_intake (s : State) (b : Bank SupEntry 128) : (s.setSup b).intake = s.intake := rfl
@[simp] theorem State.setSup_lanes (s : State) (b : Bank SupEntry 128) : (s.setSup b).lanes = s.lanes := rfl
@[simp] theorem State.setSup_conv (s : State) (b : Bank SupEntry 128) : (s.setSup b).conv = s.conv := rfl
@[simp] theorem State.setSup_link (s : State) (b : Bank SupEntry 128) : (s.setSup b).link = s.link := rfl
@[simp] theorem State.setSup_pending (s : State) (b : Bank SupEntry 128) : (s.setSup b).pending = s.pending := rfl
@[simp] theorem State.setSup_free (s : State) (b : Bank SupEntry 128) : (s.setSup b).free = s.free := rfl
@[simp] theorem State.setSup_sup (s : State) (b : Bank SupEntry 128) : (s.setSup b).sup = b := rfl

/-! ## `State.updSup` -/

@[simp] theorem State.updSup_line (s : State) (t : Tag) (f : SupEntry → SupEntry) : (s.updSup t f).line =
    s.line := rfl
@[simp] theorem State.updSup_roster (s : State) (t : Tag) (f : SupEntry → SupEntry) : (s.updSup t f).roster =
    s.roster := rfl
@[simp] theorem State.updSup_census (s : State) (t : Tag) (f : SupEntry → SupEntry) : (s.updSup t f).census =
    s.census := rfl
@[simp] theorem State.updSup_planner (s : State) (t : Tag) (f : SupEntry → SupEntry) : (s.updSup t f).planner =
    s.planner := rfl
@[simp] theorem State.updSup_intake (s : State) (t : Tag) (f : SupEntry → SupEntry) : (s.updSup t f).intake =
    s.intake := rfl
@[simp] theorem State.updSup_lanes (s : State) (t : Tag) (f : SupEntry → SupEntry) : (s.updSup t f).lanes =
    s.lanes := rfl
@[simp] theorem State.updSup_conv (s : State) (t : Tag) (f : SupEntry → SupEntry) : (s.updSup t f).conv =
    s.conv := rfl
@[simp] theorem State.updSup_link (s : State) (t : Tag) (f : SupEntry → SupEntry) : (s.updSup t f).link =
    s.link := rfl
@[simp] theorem State.updSup_pending (s : State) (t : Tag) (f : SupEntry → SupEntry) : (s.updSup t f).pending =
    s.pending := rfl
@[simp] theorem State.updSup_free (s : State) (t : Tag) (f : SupEntry → SupEntry) : (s.updSup t f).free =
    s.free := rfl
@[simp] theorem State.updSup_sup (s : State) (t : Tag) (f : SupEntry → SupEntry) : (s.updSup t f).sup =
    s.sup.update t f := rfl

/-! ## `State.setConvState` -/

@[simp] theorem State.setConvState_line (s : State) (x : ConvState) : (s.setConvState x).line = s.line := rfl
@[simp] theorem State.setConvState_roster (s : State) (x : ConvState) : (s.setConvState x).roster = s.roster := rfl
@[simp] theorem State.setConvState_census (s : State) (x : ConvState) : (s.setConvState x).census = s.census := rfl
@[simp] theorem State.setConvState_planner (s : State) (x : ConvState) : (s.setConvState x).planner = s.planner := rfl
@[simp] theorem State.setConvState_intake (s : State) (x : ConvState) : (s.setConvState x).intake = s.intake := rfl
@[simp] theorem State.setConvState_lanes (s : State) (x : ConvState) : (s.setConvState x).lanes = s.lanes := rfl
@[simp] theorem State.setConvState_sup (s : State) (x : ConvState) : (s.setConvState x).sup = s.sup := rfl
@[simp] theorem State.setConvState_conv_windowCode (s : State) (x : ConvState) : (s.setConvState x).conv.windowCode =
    s.conv.windowCode := rfl
@[simp] theorem State.setConvState_conv_stepCode (s : State) (x : ConvState) : (s.setConvState x).conv.stepCode =
    s.conv.stepCode := rfl
@[simp] theorem State.setConvState_conv_offset (s : State) (x : ConvState) : (s.setConvState x).conv.offset =
    s.conv.offset := rfl
@[simp] theorem State.setConvState_conv_curve (s : State) (x : ConvState) : (s.setConvState x).conv.curve =
    s.conv.curve := rfl
@[simp] theorem State.setConvState_conv_calib (s : State) (x : ConvState) : (s.setConvState x).conv.calib =
    s.conv.calib := rfl
@[simp] theorem State.setConvState_conv_lastCalib (s : State) (x : ConvState) : (s.setConvState x).conv.lastCalib =
    s.conv.lastCalib := rfl
@[simp] theorem State.setConvState_conv_refused (s : State) (x : ConvState) : (s.setConvState x).conv.refused =
    s.conv.refused := rfl
@[simp] theorem State.setConvState_link (s : State) (x : ConvState) : (s.setConvState x).link = s.link := rfl
@[simp] theorem State.setConvState_pending (s : State) (x : ConvState) : (s.setConvState x).pending = s.pending := rfl
@[simp] theorem State.setConvState_free (s : State) (x : ConvState) : (s.setConvState x).free = s.free := rfl
@[simp] theorem State.setConvState_conv_state (s : State) (x : ConvState) : (s.setConvState x).conv.state = x := rfl

/-! ## `State.setCalib` -/

@[simp] theorem State.setCalib_line (s : State) (c : Option Calibration) : (s.setCalib c).line = s.line := rfl
@[simp] theorem State.setCalib_roster (s : State) (c : Option Calibration) : (s.setCalib c).roster = s.roster := rfl
@[simp] theorem State.setCalib_census (s : State) (c : Option Calibration) : (s.setCalib c).census = s.census := rfl
@[simp] theorem State.setCalib_planner (s : State) (c : Option Calibration) : (s.setCalib c).planner =
    s.planner := rfl
@[simp] theorem State.setCalib_intake (s : State) (c : Option Calibration) : (s.setCalib c).intake = s.intake := rfl
@[simp] theorem State.setCalib_lanes (s : State) (c : Option Calibration) : (s.setCalib c).lanes = s.lanes := rfl
@[simp] theorem State.setCalib_sup (s : State) (c : Option Calibration) : (s.setCalib c).sup = s.sup := rfl
@[simp] theorem State.setCalib_conv_state (s : State) (c : Option Calibration) : (s.setCalib c).conv.state =
    s.conv.state := rfl
@[simp] theorem State.setCalib_conv_windowCode (s : State) (c : Option Calibration) : (s.setCalib c).conv.windowCode =
    s.conv.windowCode := rfl
@[simp] theorem State.setCalib_conv_stepCode (s : State) (c : Option Calibration) : (s.setCalib c).conv.stepCode =
    s.conv.stepCode := rfl
@[simp] theorem State.setCalib_conv_offset (s : State) (c : Option Calibration) : (s.setCalib c).conv.offset =
    s.conv.offset := rfl
@[simp] theorem State.setCalib_conv_curve (s : State) (c : Option Calibration) : (s.setCalib c).conv.curve =
    s.conv.curve := rfl
@[simp] theorem State.setCalib_conv_lastCalib (s : State) (c : Option Calibration) : (s.setCalib c).conv.lastCalib =
    s.conv.lastCalib := rfl
@[simp] theorem State.setCalib_conv_refused (s : State) (c : Option Calibration) : (s.setCalib c).conv.refused =
    s.conv.refused := rfl
@[simp] theorem State.setCalib_link (s : State) (c : Option Calibration) : (s.setCalib c).link = s.link := rfl
@[simp] theorem State.setCalib_pending (s : State) (c : Option Calibration) : (s.setCalib c).pending =
    s.pending := rfl
@[simp] theorem State.setCalib_free (s : State) (c : Option Calibration) : (s.setCalib c).free = s.free := rfl
@[simp] theorem State.setCalib_conv_calib (s : State) (c : Option Calibration) : (s.setCalib c).conv.calib = c := rfl

/-! ## `State.setOffset` -/

@[simp] theorem State.setOffset_line (s : State) (v : Int) : (s.setOffset v).line = s.line := rfl
@[simp] theorem State.setOffset_roster (s : State) (v : Int) : (s.setOffset v).roster = s.roster := rfl
@[simp] theorem State.setOffset_census (s : State) (v : Int) : (s.setOffset v).census = s.census := rfl
@[simp] theorem State.setOffset_planner (s : State) (v : Int) : (s.setOffset v).planner = s.planner := rfl
@[simp] theorem State.setOffset_intake (s : State) (v : Int) : (s.setOffset v).intake = s.intake := rfl
@[simp] theorem State.setOffset_lanes (s : State) (v : Int) : (s.setOffset v).lanes = s.lanes := rfl
@[simp] theorem State.setOffset_sup (s : State) (v : Int) : (s.setOffset v).sup = s.sup := rfl
@[simp] theorem State.setOffset_conv_state (s : State) (v : Int) : (s.setOffset v).conv.state = s.conv.state := rfl
@[simp] theorem State.setOffset_conv_windowCode (s : State) (v : Int) : (s.setOffset v).conv.windowCode =
    s.conv.windowCode := rfl
@[simp] theorem State.setOffset_conv_stepCode (s : State) (v : Int) : (s.setOffset v).conv.stepCode =
    s.conv.stepCode := rfl
@[simp] theorem State.setOffset_conv_curve (s : State) (v : Int) : (s.setOffset v).conv.curve = s.conv.curve := rfl
@[simp] theorem State.setOffset_conv_calib (s : State) (v : Int) : (s.setOffset v).conv.calib = s.conv.calib := rfl
@[simp] theorem State.setOffset_conv_lastCalib (s : State) (v : Int) : (s.setOffset v).conv.lastCalib =
    s.conv.lastCalib := rfl
@[simp] theorem State.setOffset_conv_refused (s : State) (v : Int) : (s.setOffset v).conv.refused =
    s.conv.refused := rfl
@[simp] theorem State.setOffset_link (s : State) (v : Int) : (s.setOffset v).link = s.link := rfl
@[simp] theorem State.setOffset_pending (s : State) (v : Int) : (s.setOffset v).pending = s.pending := rfl
@[simp] theorem State.setOffset_free (s : State) (v : Int) : (s.setOffset v).free = s.free := rfl
@[simp] theorem State.setOffset_conv_offset (s : State) (v : Int) : (s.setOffset v).conv.offset = v := rfl

/-! ## `State.countRefused` -/

@[simp] theorem State.countRefused_line (s : State) : (s.countRefused).line = s.line := rfl
@[simp] theorem State.countRefused_roster (s : State) : (s.countRefused).roster = s.roster := rfl
@[simp] theorem State.countRefused_census (s : State) : (s.countRefused).census = s.census := rfl
@[simp] theorem State.countRefused_planner (s : State) : (s.countRefused).planner = s.planner := rfl
@[simp] theorem State.countRefused_intake (s : State) : (s.countRefused).intake = s.intake := rfl
@[simp] theorem State.countRefused_lanes (s : State) : (s.countRefused).lanes = s.lanes := rfl
@[simp] theorem State.countRefused_sup (s : State) : (s.countRefused).sup = s.sup := rfl
@[simp] theorem State.countRefused_conv_state (s : State) : (s.countRefused).conv.state = s.conv.state := rfl
@[simp] theorem State.countRefused_conv_windowCode (s : State) : (s.countRefused).conv.windowCode =
    s.conv.windowCode := rfl
@[simp] theorem State.countRefused_conv_stepCode (s : State) : (s.countRefused).conv.stepCode = s.conv.stepCode := rfl
@[simp] theorem State.countRefused_conv_offset (s : State) : (s.countRefused).conv.offset = s.conv.offset := rfl
@[simp] theorem State.countRefused_conv_curve (s : State) : (s.countRefused).conv.curve = s.conv.curve := rfl
@[simp] theorem State.countRefused_conv_calib (s : State) : (s.countRefused).conv.calib = s.conv.calib := rfl
@[simp] theorem State.countRefused_conv_lastCalib (s : State) : (s.countRefused).conv.lastCalib =
    s.conv.lastCalib := rfl
@[simp] theorem State.countRefused_link (s : State) : (s.countRefused).link = s.link := rfl
@[simp] theorem State.countRefused_pending (s : State) : (s.countRefused).pending = s.pending := rfl
@[simp] theorem State.countRefused_free (s : State) : (s.countRefused).free = s.free := rfl
@[simp] theorem State.countRefused_conv_refused (s : State) : (s.countRefused).conv.refused =
    s.conv.refused + 1 := rfl

/-! ## `State.raiseLine` -/

@[simp] theorem State.raiseLine_line (s : State) : (s.raiseLine).line = s.line := rfl
@[simp] theorem State.raiseLine_roster (s : State) : (s.raiseLine).roster = s.roster := rfl
@[simp] theorem State.raiseLine_census (s : State) : (s.raiseLine).census = s.census := rfl
@[simp] theorem State.raiseLine_planner (s : State) : (s.raiseLine).planner = s.planner := rfl
@[simp] theorem State.raiseLine_intake (s : State) : (s.raiseLine).intake = s.intake := rfl
@[simp] theorem State.raiseLine_lanes (s : State) : (s.raiseLine).lanes = s.lanes := rfl
@[simp] theorem State.raiseLine_sup (s : State) : (s.raiseLine).sup = s.sup := rfl
@[simp] theorem State.raiseLine_conv (s : State) : (s.raiseLine).conv = s.conv := rfl
@[simp] theorem State.raiseLine_link_straps (s : State) : (s.raiseLine).link.straps = s.link.straps := rfl
@[simp] theorem State.raiseLine_link_cause (s : State) : (s.raiseLine).link.cause = s.link.cause := rfl
@[simp] theorem State.raiseLine_link_rx (s : State) : (s.raiseLine).link.rx = s.link.rx := rfl
@[simp] theorem State.raiseLine_link_inbound (s : State) : (s.raiseLine).link.inbound = s.link.inbound := rfl
@[simp] theorem State.raiseLine_link_handler (s : State) : (s.raiseLine).link.handler = s.link.handler := rfl
@[simp] theorem State.raiseLine_link_outbound (s : State) : (s.raiseLine).link.outbound = s.link.outbound := rfl
@[simp] theorem State.raiseLine_link_tx (s : State) : (s.raiseLine).link.tx = s.link.tx := rfl
@[simp] theorem State.raiseLine_link_recFlags (s : State) : (s.raiseLine).link.recFlags = s.link.recFlags := rfl
@[simp] theorem State.raiseLine_link_mask (s : State) : (s.raiseLine).link.mask = s.link.mask := rfl
@[simp] theorem State.raiseLine_link_faults (s : State) : (s.raiseLine).link.faults = s.link.faults := rfl
@[simp] theorem State.raiseLine_pending (s : State) : (s.raiseLine).pending = s.pending := rfl
@[simp] theorem State.raiseLine_free (s : State) : (s.raiseLine).free = s.free := rfl
@[simp] theorem State.raiseLine_link_kinds (s : State) : (s.raiseLine).link.kinds =
    { s.link.kinds with line := true } := rfl

/-! ## `State.raiseCalibration` -/

@[simp] theorem State.raiseCalibration_line (s : State) : (s.raiseCalibration).line = s.line := rfl
@[simp] theorem State.raiseCalibration_roster (s : State) : (s.raiseCalibration).roster = s.roster := rfl
@[simp] theorem State.raiseCalibration_census (s : State) : (s.raiseCalibration).census = s.census := rfl
@[simp] theorem State.raiseCalibration_planner (s : State) : (s.raiseCalibration).planner = s.planner := rfl
@[simp] theorem State.raiseCalibration_intake (s : State) : (s.raiseCalibration).intake = s.intake := rfl
@[simp] theorem State.raiseCalibration_lanes (s : State) : (s.raiseCalibration).lanes = s.lanes := rfl
@[simp] theorem State.raiseCalibration_sup (s : State) : (s.raiseCalibration).sup = s.sup := rfl
@[simp] theorem State.raiseCalibration_conv (s : State) : (s.raiseCalibration).conv = s.conv := rfl
@[simp] theorem State.raiseCalibration_link_straps (s : State) : (s.raiseCalibration).link.straps =
    s.link.straps := rfl
@[simp] theorem State.raiseCalibration_link_cause (s : State) : (s.raiseCalibration).link.cause = s.link.cause := rfl
@[simp] theorem State.raiseCalibration_link_rx (s : State) : (s.raiseCalibration).link.rx = s.link.rx := rfl
@[simp] theorem State.raiseCalibration_link_inbound (s : State) : (s.raiseCalibration).link.inbound =
    s.link.inbound := rfl
@[simp] theorem State.raiseCalibration_link_handler (s : State) : (s.raiseCalibration).link.handler =
    s.link.handler := rfl
@[simp] theorem State.raiseCalibration_link_outbound (s : State) : (s.raiseCalibration).link.outbound =
    s.link.outbound := rfl
@[simp] theorem State.raiseCalibration_link_tx (s : State) : (s.raiseCalibration).link.tx = s.link.tx := rfl
@[simp] theorem State.raiseCalibration_link_recFlags (s : State) : (s.raiseCalibration).link.recFlags =
    s.link.recFlags := rfl
@[simp] theorem State.raiseCalibration_link_mask (s : State) : (s.raiseCalibration).link.mask = s.link.mask := rfl
@[simp] theorem State.raiseCalibration_link_faults (s : State) : (s.raiseCalibration).link.faults =
    s.link.faults := rfl
@[simp] theorem State.raiseCalibration_pending (s : State) : (s.raiseCalibration).pending = s.pending := rfl
@[simp] theorem State.raiseCalibration_free (s : State) : (s.raiseCalibration).free = s.free := rfl
@[simp] theorem State.raiseCalibration_link_kinds (s : State) : (s.raiseCalibration).link.kinds =
    { s.link.kinds with calibration := true } := rfl

/-! ## `State.raiseCensus` -/

@[simp] theorem State.raiseCensus_line (s : State) : (s.raiseCensus).line = s.line := rfl
@[simp] theorem State.raiseCensus_roster (s : State) : (s.raiseCensus).roster = s.roster := rfl
@[simp] theorem State.raiseCensus_census (s : State) : (s.raiseCensus).census = s.census := rfl
@[simp] theorem State.raiseCensus_planner (s : State) : (s.raiseCensus).planner = s.planner := rfl
@[simp] theorem State.raiseCensus_intake (s : State) : (s.raiseCensus).intake = s.intake := rfl
@[simp] theorem State.raiseCensus_lanes (s : State) : (s.raiseCensus).lanes = s.lanes := rfl
@[simp] theorem State.raiseCensus_sup (s : State) : (s.raiseCensus).sup = s.sup := rfl
@[simp] theorem State.raiseCensus_conv (s : State) : (s.raiseCensus).conv = s.conv := rfl
@[simp] theorem State.raiseCensus_link_straps (s : State) : (s.raiseCensus).link.straps = s.link.straps := rfl
@[simp] theorem State.raiseCensus_link_cause (s : State) : (s.raiseCensus).link.cause = s.link.cause := rfl
@[simp] theorem State.raiseCensus_link_rx (s : State) : (s.raiseCensus).link.rx = s.link.rx := rfl
@[simp] theorem State.raiseCensus_link_inbound (s : State) : (s.raiseCensus).link.inbound = s.link.inbound := rfl
@[simp] theorem State.raiseCensus_link_handler (s : State) : (s.raiseCensus).link.handler = s.link.handler := rfl
@[simp] theorem State.raiseCensus_link_outbound (s : State) : (s.raiseCensus).link.outbound = s.link.outbound := rfl
@[simp] theorem State.raiseCensus_link_tx (s : State) : (s.raiseCensus).link.tx = s.link.tx := rfl
@[simp] theorem State.raiseCensus_link_recFlags (s : State) : (s.raiseCensus).link.recFlags = s.link.recFlags := rfl
@[simp] theorem State.raiseCensus_link_mask (s : State) : (s.raiseCensus).link.mask = s.link.mask := rfl
@[simp] theorem State.raiseCensus_link_faults (s : State) : (s.raiseCensus).link.faults = s.link.faults := rfl
@[simp] theorem State.raiseCensus_pending (s : State) : (s.raiseCensus).pending = s.pending := rfl
@[simp] theorem State.raiseCensus_free (s : State) : (s.raiseCensus).free = s.free := rfl
@[simp] theorem State.raiseCensus_link_kinds (s : State) : (s.raiseCensus).link.kinds =
    { s.link.kinds with census := true } := rfl

/-! ## `State.raisePlan` -/

@[simp] theorem State.raisePlan_line (s : State) : (s.raisePlan).line = s.line := rfl
@[simp] theorem State.raisePlan_roster (s : State) : (s.raisePlan).roster = s.roster := rfl
@[simp] theorem State.raisePlan_census (s : State) : (s.raisePlan).census = s.census := rfl
@[simp] theorem State.raisePlan_planner (s : State) : (s.raisePlan).planner = s.planner := rfl
@[simp] theorem State.raisePlan_intake (s : State) : (s.raisePlan).intake = s.intake := rfl
@[simp] theorem State.raisePlan_lanes (s : State) : (s.raisePlan).lanes = s.lanes := rfl
@[simp] theorem State.raisePlan_sup (s : State) : (s.raisePlan).sup = s.sup := rfl
@[simp] theorem State.raisePlan_conv (s : State) : (s.raisePlan).conv = s.conv := rfl
@[simp] theorem State.raisePlan_link_straps (s : State) : (s.raisePlan).link.straps = s.link.straps := rfl
@[simp] theorem State.raisePlan_link_cause (s : State) : (s.raisePlan).link.cause = s.link.cause := rfl
@[simp] theorem State.raisePlan_link_rx (s : State) : (s.raisePlan).link.rx = s.link.rx := rfl
@[simp] theorem State.raisePlan_link_inbound (s : State) : (s.raisePlan).link.inbound = s.link.inbound := rfl
@[simp] theorem State.raisePlan_link_handler (s : State) : (s.raisePlan).link.handler = s.link.handler := rfl
@[simp] theorem State.raisePlan_link_outbound (s : State) : (s.raisePlan).link.outbound = s.link.outbound := rfl
@[simp] theorem State.raisePlan_link_tx (s : State) : (s.raisePlan).link.tx = s.link.tx := rfl
@[simp] theorem State.raisePlan_link_recFlags (s : State) : (s.raisePlan).link.recFlags = s.link.recFlags := rfl
@[simp] theorem State.raisePlan_link_mask (s : State) : (s.raisePlan).link.mask = s.link.mask := rfl
@[simp] theorem State.raisePlan_link_faults (s : State) : (s.raisePlan).link.faults = s.link.faults := rfl
@[simp] theorem State.raisePlan_pending (s : State) : (s.raisePlan).pending = s.pending := rfl
@[simp] theorem State.raisePlan_free (s : State) : (s.raisePlan).free = s.free := rfl
@[simp] theorem State.raisePlan_link_kinds (s : State) : (s.raisePlan).link.kinds =
    { s.link.kinds with plan := true } := rfl

/-! ## `State.noteChange` -/

@[simp] theorem State.noteChange_line (s : State) (t : Tag) : (s.noteChange t).line = s.line := rfl
@[simp] theorem State.noteChange_roster_expected (s : State) (t : Tag) : (s.noteChange t).roster.expected =
    s.roster.expected := rfl
@[simp] theorem State.noteChange_roster_barred (s : State) (t : Tag) : (s.noteChange t).roster.barred =
    s.roster.barred := rfl
@[simp] theorem State.noteChange_roster_strangers (s : State) (t : Tag) : (s.noteChange t).roster.strangers =
    s.roster.strangers := rfl
@[simp] theorem State.noteChange_roster_overflowed (s : State) (t : Tag) : (s.noteChange t).roster.overflowed =
    s.roster.overflowed := rfl
@[simp] theorem State.noteChange_roster_mode (s : State) (t : Tag) : (s.noteChange t).roster.mode =
    s.roster.mode := rfl
@[simp] theorem State.noteChange_roster_poolLow (s : State) (t : Tag) : (s.noteChange t).roster.poolLow =
    s.roster.poolLow := rfl
@[simp] theorem State.noteChange_roster_poolHigh (s : State) (t : Tag) : (s.noteChange t).roster.poolHigh =
    s.roster.poolHigh := rfl
@[simp] theorem State.noteChange_roster_openProfile (s : State) (t : Tag) : (s.noteChange t).roster.openProfile =
    s.roster.openProfile := rfl
@[simp] theorem State.noteChange_roster_admission (s : State) (t : Tag) : (s.noteChange t).roster.admission =
    s.roster.admission := rfl
@[simp] theorem State.noteChange_roster_profiles (s : State) (t : Tag) : (s.noteChange t).roster.profiles =
    s.roster.profiles := rfl
@[simp] theorem State.noteChange_roster_waiting (s : State) (t : Tag) : (s.noteChange t).roster.waiting =
    s.roster.waiting := rfl
@[simp] theorem State.noteChange_census (s : State) (t : Tag) : (s.noteChange t).census = s.census := rfl
@[simp] theorem State.noteChange_planner (s : State) (t : Tag) : (s.noteChange t).planner = s.planner := rfl
@[simp] theorem State.noteChange_intake (s : State) (t : Tag) : (s.noteChange t).intake = s.intake := rfl
@[simp] theorem State.noteChange_lanes (s : State) (t : Tag) : (s.noteChange t).lanes = s.lanes := rfl
@[simp] theorem State.noteChange_sup (s : State) (t : Tag) : (s.noteChange t).sup = s.sup := rfl
@[simp] theorem State.noteChange_conv (s : State) (t : Tag) : (s.noteChange t).conv = s.conv := rfl
@[simp] theorem State.noteChange_link_straps (s : State) (t : Tag) : (s.noteChange t).link.straps =
    s.link.straps := rfl
@[simp] theorem State.noteChange_link_cause (s : State) (t : Tag) : (s.noteChange t).link.cause = s.link.cause := rfl
@[simp] theorem State.noteChange_link_rx (s : State) (t : Tag) : (s.noteChange t).link.rx = s.link.rx := rfl
@[simp] theorem State.noteChange_link_inbound (s : State) (t : Tag) : (s.noteChange t).link.inbound =
    s.link.inbound := rfl
@[simp] theorem State.noteChange_link_handler (s : State) (t : Tag) : (s.noteChange t).link.handler =
    s.link.handler := rfl
@[simp] theorem State.noteChange_link_outbound (s : State) (t : Tag) : (s.noteChange t).link.outbound =
    s.link.outbound := rfl
@[simp] theorem State.noteChange_link_tx (s : State) (t : Tag) : (s.noteChange t).link.tx = s.link.tx := rfl
@[simp] theorem State.noteChange_link_kinds (s : State) (t : Tag) : (s.noteChange t).link.kinds = s.link.kinds := rfl
@[simp] theorem State.noteChange_link_mask (s : State) (t : Tag) : (s.noteChange t).link.mask = s.link.mask := rfl
@[simp] theorem State.noteChange_link_faults (s : State) (t : Tag) : (s.noteChange t).link.faults =
    s.link.faults := rfl
@[simp] theorem State.noteChange_pending (s : State) (t : Tag) : (s.noteChange t).pending = s.pending := rfl
@[simp] theorem State.noteChange_free (s : State) (t : Tag) : (s.noteChange t).free = s.free := rfl
@[simp] theorem State.noteChange_roster_records (s : State) (t : Tag) : (s.noteChange t).roster.records =
    s.roster.records.update t fun r => { r with changes := satInc 255 r.changes } := rfl
@[simp] theorem State.noteChange_link_recFlags (s : State) (t : Tag) : (s.noteChange t).link.recFlags =
    s.link.recFlags.set t true := rfl

/-! ## `State.putTerm` -/

@[simp] theorem State.putTerm_line (s : State) (t : Tag) (h : Option Terminal) : (s.putTerm t h).line = s.line := rfl
@[simp] theorem State.putTerm_roster_expected (s : State) (t : Tag) (h : Option Terminal) : (s.putTerm t h).roster.expected =
    s.roster.expected := rfl
@[simp] theorem State.putTerm_roster_barred (s : State) (t : Tag) (h : Option Terminal) : (s.putTerm t h).roster.barred =
    s.roster.barred := rfl
@[simp] theorem State.putTerm_roster_strangers (s : State) (t : Tag) (h : Option Terminal) : (s.putTerm t h).roster.strangers =
    s.roster.strangers := rfl
@[simp] theorem State.putTerm_roster_overflowed (s : State) (t : Tag) (h : Option Terminal) : (s.putTerm t h).roster.overflowed =
    s.roster.overflowed := rfl
@[simp] theorem State.putTerm_roster_mode (s : State) (t : Tag) (h : Option Terminal) : (s.putTerm t h).roster.mode =
    s.roster.mode := rfl
@[simp] theorem State.putTerm_roster_poolLow (s : State) (t : Tag) (h : Option Terminal) : (s.putTerm t h).roster.poolLow =
    s.roster.poolLow := rfl
@[simp] theorem State.putTerm_roster_poolHigh (s : State) (t : Tag) (h : Option Terminal) : (s.putTerm t h).roster.poolHigh =
    s.roster.poolHigh := rfl
@[simp] theorem State.putTerm_roster_openProfile (s : State) (t : Tag) (h : Option Terminal) : (s.putTerm t h).roster.openProfile =
    s.roster.openProfile := rfl
@[simp] theorem State.putTerm_roster_admission (s : State) (t : Tag) (h : Option Terminal) : (s.putTerm t h).roster.admission =
    s.roster.admission := rfl
@[simp] theorem State.putTerm_roster_profiles (s : State) (t : Tag) (h : Option Terminal) : (s.putTerm t h).roster.profiles =
    s.roster.profiles := rfl
@[simp] theorem State.putTerm_roster_waiting (s : State) (t : Tag) (h : Option Terminal) : (s.putTerm t h).roster.waiting =
    s.roster.waiting := rfl
@[simp] theorem State.putTerm_census (s : State) (t : Tag) (h : Option Terminal) : (s.putTerm t h).census =
    s.census := rfl
@[simp] theorem State.putTerm_planner (s : State) (t : Tag) (h : Option Terminal) : (s.putTerm t h).planner =
    s.planner := rfl
@[simp] theorem State.putTerm_intake (s : State) (t : Tag) (h : Option Terminal) : (s.putTerm t h).intake =
    s.intake := rfl
@[simp] theorem State.putTerm_lanes (s : State) (t : Tag) (h : Option Terminal) : (s.putTerm t h).lanes =
    s.lanes := rfl
@[simp] theorem State.putTerm_sup (s : State) (t : Tag) (h : Option Terminal) : (s.putTerm t h).sup = s.sup := rfl
@[simp] theorem State.putTerm_conv (s : State) (t : Tag) (h : Option Terminal) : (s.putTerm t h).conv = s.conv := rfl
@[simp] theorem State.putTerm_link (s : State) (t : Tag) (h : Option Terminal) : (s.putTerm t h).link = s.link := rfl
@[simp] theorem State.putTerm_pending (s : State) (t : Tag) (h : Option Terminal) : (s.putTerm t h).pending =
    s.pending := rfl
@[simp] theorem State.putTerm_free (s : State) (t : Tag) (h : Option Terminal) : (s.putTerm t h).free = s.free := rfl
@[simp] theorem State.putTerm_roster_records (s : State) (t : Tag) (h : Option Terminal) : (s.putTerm t h).roster.records =
    s.roster.records.update t fun r => { r with term := h } := rfl

/-! ## `State.enterLine` -/

@[simp] theorem State.enterLine_line_tick (s : State) (new : LineState) : (s.enterLine new).line.tick =
    s.line.tick := rfl
@[simp] theorem State.enterLine_line_cycle (s : State) (new : LineState) : (s.enterLine new).line.cycle =
    s.line.cycle := rfl
@[simp] theorem State.enterLine_line_pendingLen (s : State) (new : LineState) : (s.enterLine new).line.pendingLen =
    s.line.pendingLen := rfl
@[simp] theorem State.enterLine_line_warmup (s : State) (new : LineState) : (s.enterLine new).line.warmup =
    s.line.warmup := rfl
@[simp] theorem State.enterLine_line_drainLeft (s : State) (new : LineState) : (s.enterLine new).line.drainLeft =
    s.line.drainLeft := rfl
@[simp] theorem State.enterLine_line_drainCycle (s : State) (new : LineState) : (s.enterLine new).line.drainCycle =
    s.line.drainCycle := rfl
@[simp] theorem State.enterLine_line_head (s : State) (new : LineState) : (s.enterLine new).line.head =
    s.line.head := rfl
@[simp] theorem State.enterLine_line_notices (s : State) (new : LineState) : (s.enterLine new).line.notices =
    s.line.notices := rfl
@[simp] theorem State.enterLine_line_settings (s : State) (new : LineState) : (s.enterLine new).line.settings =
    s.line.settings := rfl
@[simp] theorem State.enterLine_line_txEnable (s : State) (new : LineState) : (s.enterLine new).line.txEnable =
    s.line.txEnable := rfl
@[simp] theorem State.enterLine_line_headOut (s : State) (new : LineState) : (s.enterLine new).line.headOut =
    s.line.headOut := rfl
@[simp] theorem State.enterLine_roster (s : State) (new : LineState) : (s.enterLine new).roster = s.roster := rfl
@[simp] theorem State.enterLine_census (s : State) (new : LineState) : (s.enterLine new).census = s.census := rfl
@[simp] theorem State.enterLine_planner (s : State) (new : LineState) : (s.enterLine new).planner = s.planner := rfl
@[simp] theorem State.enterLine_intake (s : State) (new : LineState) : (s.enterLine new).intake = s.intake := rfl
@[simp] theorem State.enterLine_lanes (s : State) (new : LineState) : (s.enterLine new).lanes = s.lanes := rfl
@[simp] theorem State.enterLine_sup (s : State) (new : LineState) : (s.enterLine new).sup = s.sup := rfl
@[simp] theorem State.enterLine_conv (s : State) (new : LineState) : (s.enterLine new).conv = s.conv := rfl
@[simp] theorem State.enterLine_link_straps (s : State) (new : LineState) : (s.enterLine new).link.straps =
    s.link.straps := rfl
@[simp] theorem State.enterLine_link_cause (s : State) (new : LineState) : (s.enterLine new).link.cause =
    s.link.cause := rfl
@[simp] theorem State.enterLine_link_rx (s : State) (new : LineState) : (s.enterLine new).link.rx = s.link.rx := rfl
@[simp] theorem State.enterLine_link_inbound (s : State) (new : LineState) : (s.enterLine new).link.inbound =
    s.link.inbound := rfl
@[simp] theorem State.enterLine_link_handler (s : State) (new : LineState) : (s.enterLine new).link.handler =
    s.link.handler := rfl
@[simp] theorem State.enterLine_link_outbound (s : State) (new : LineState) : (s.enterLine new).link.outbound =
    s.link.outbound := rfl
@[simp] theorem State.enterLine_link_tx (s : State) (new : LineState) : (s.enterLine new).link.tx = s.link.tx := rfl
@[simp] theorem State.enterLine_link_recFlags (s : State) (new : LineState) : (s.enterLine new).link.recFlags =
    s.link.recFlags := rfl
@[simp] theorem State.enterLine_link_mask (s : State) (new : LineState) : (s.enterLine new).link.mask =
    s.link.mask := rfl
@[simp] theorem State.enterLine_link_faults (s : State) (new : LineState) : (s.enterLine new).link.faults =
    s.link.faults := rfl
@[simp] theorem State.enterLine_pending (s : State) (new : LineState) : (s.enterLine new).pending = s.pending := rfl
@[simp] theorem State.enterLine_free (s : State) (new : LineState) : (s.enterLine new).free = s.free := rfl
@[simp] theorem State.enterLine_line_state (s : State) (new : LineState) : (s.enterLine new).line.state = new := rfl
@[simp] theorem State.enterLine_line_prev (s : State) (new : LineState) : (s.enterLine new).line.prev =
    s.line.state := rfl
@[simp] theorem State.enterLine_line_transitions (s : State) (new : LineState) : (s.enterLine new).line.transitions =
    satInc 255 s.line.transitions := rfl
@[simp] theorem State.enterLine_link_kinds (s : State) (new : LineState) : (s.enterLine new).link.kinds =
    { s.link.kinds with line := true } := rfl

/-! ## `State.setWork` -/

@[simp] theorem State.setWork_line (s : State) (i : LaneNo) (w : Option LaneWork) : (s.setWork i w).line =
    s.line := rfl
@[simp] theorem State.setWork_roster (s : State) (i : LaneNo) (w : Option LaneWork) : (s.setWork i w).roster =
    s.roster := rfl
@[simp] theorem State.setWork_census (s : State) (i : LaneNo) (w : Option LaneWork) : (s.setWork i w).census =
    s.census := rfl
@[simp] theorem State.setWork_planner (s : State) (i : LaneNo) (w : Option LaneWork) : (s.setWork i w).planner =
    s.planner := rfl
@[simp] theorem State.setWork_intake (s : State) (i : LaneNo) (w : Option LaneWork) : (s.setWork i w).intake =
    s.intake := rfl
@[simp] theorem State.setWork_sup (s : State) (i : LaneNo) (w : Option LaneWork) : (s.setWork i w).sup = s.sup := rfl
@[simp] theorem State.setWork_conv (s : State) (i : LaneNo) (w : Option LaneWork) : (s.setWork i w).conv =
    s.conv := rfl
@[simp] theorem State.setWork_link (s : State) (i : LaneNo) (w : Option LaneWork) : (s.setWork i w).link =
    s.link := rfl
@[simp] theorem State.setWork_pending (s : State) (i : LaneNo) (w : Option LaneWork) : (s.setWork i w).pending =
    s.pending := rfl
@[simp] theorem State.setWork_free (s : State) (i : LaneNo) (w : Option LaneWork) : (s.setWork i w).free =
    s.free := rfl
@[simp] theorem State.setWork_lanes (s : State) (i : LaneNo) (w : Option LaneWork) : (s.setWork i w).lanes =
    s.lanes.update i fun l => { l with work := w } := rfl

/-! ## `State.supDrop` -/

@[simp] theorem State.supDrop_line (s : State) (t : Tag) : (s.supDrop t).line = s.line := rfl
@[simp] theorem State.supDrop_roster (s : State) (t : Tag) : (s.supDrop t).roster = s.roster := rfl
@[simp] theorem State.supDrop_census (s : State) (t : Tag) : (s.supDrop t).census = s.census := rfl
@[simp] theorem State.supDrop_planner_built (s : State) (t : Tag) : (s.supDrop t).planner.built =
    s.planner.built := rfl
@[simp] theorem State.supDrop_planner_sweep (s : State) (t : Tag) : (s.supDrop t).planner.sweep =
    s.planner.sweep := rfl
@[simp] theorem State.supDrop_planner_slotWanted (s : State) (t : Tag) : (s.supDrop t).planner.slotWanted =
    s.planner.slotWanted := rfl
@[simp] theorem State.supDrop_planner_overruns (s : State) (t : Tag) : (s.supDrop t).planner.overruns =
    s.planner.overruns := rfl
@[simp] theorem State.supDrop_planner_lastOverrun (s : State) (t : Tag) : (s.supDrop t).planner.lastOverrun =
    s.planner.lastOverrun := rfl
@[simp] theorem State.supDrop_planner_framerPlan (s : State) (t : Tag) : (s.supDrop t).planner.framerPlan =
    s.planner.framerPlan := rfl
@[simp] theorem State.supDrop_intake (s : State) (t : Tag) : (s.supDrop t).intake = s.intake := rfl
@[simp] theorem State.supDrop_lanes (s : State) (t : Tag) : (s.supDrop t).lanes = s.lanes := rfl
@[simp] theorem State.supDrop_conv (s : State) (t : Tag) : (s.supDrop t).conv = s.conv := rfl
@[simp] theorem State.supDrop_link (s : State) (t : Tag) : (s.supDrop t).link = s.link := rfl
@[simp] theorem State.supDrop_pending (s : State) (t : Tag) : (s.supDrop t).pending = s.pending := rfl
@[simp] theorem State.supDrop_free (s : State) (t : Tag) : (s.supDrop t).free = s.free := rfl
@[simp] theorem State.supDrop_planner_shots (s : State) (t : Tag) : (s.supDrop t).planner.shots =
    s.planner.shots.filter fun e => !(e.owner == Owner.supervisor && e.tag == t) := rfl
@[simp] theorem State.supDrop_sup (s : State) (t : Tag) : (s.supDrop t).sup = s.sup.update t fun _ => .empty := rfl

/-! ## `State.withdrawReturn` -/

@[simp] theorem State.withdrawReturn_line (s : State) (t : Tag) : (s.withdrawReturn t).line = s.line := rfl
@[simp] theorem State.withdrawReturn_roster (s : State) (t : Tag) : (s.withdrawReturn t).roster = s.roster := rfl
@[simp] theorem State.withdrawReturn_census (s : State) (t : Tag) : (s.withdrawReturn t).census = s.census := rfl
@[simp] theorem State.withdrawReturn_planner_built (s : State) (t : Tag) : (s.withdrawReturn t).planner.built =
    s.planner.built := rfl
@[simp] theorem State.withdrawReturn_planner_sweep (s : State) (t : Tag) : (s.withdrawReturn t).planner.sweep =
    s.planner.sweep := rfl
@[simp] theorem State.withdrawReturn_planner_slotWanted (s : State) (t : Tag) : (s.withdrawReturn t).planner.slotWanted =
    s.planner.slotWanted := rfl
@[simp] theorem State.withdrawReturn_planner_overruns (s : State) (t : Tag) : (s.withdrawReturn t).planner.overruns =
    s.planner.overruns := rfl
@[simp] theorem State.withdrawReturn_planner_lastOverrun (s : State) (t : Tag) : (s.withdrawReturn t).planner.lastOverrun =
    s.planner.lastOverrun := rfl
@[simp] theorem State.withdrawReturn_planner_framerPlan (s : State) (t : Tag) : (s.withdrawReturn t).planner.framerPlan =
    s.planner.framerPlan := rfl
@[simp] theorem State.withdrawReturn_intake (s : State) (t : Tag) : (s.withdrawReturn t).intake = s.intake := rfl
@[simp] theorem State.withdrawReturn_lanes (s : State) (t : Tag) : (s.withdrawReturn t).lanes = s.lanes := rfl
@[simp] theorem State.withdrawReturn_conv (s : State) (t : Tag) : (s.withdrawReturn t).conv = s.conv := rfl
@[simp] theorem State.withdrawReturn_link (s : State) (t : Tag) : (s.withdrawReturn t).link = s.link := rfl
@[simp] theorem State.withdrawReturn_pending (s : State) (t : Tag) : (s.withdrawReturn t).pending = s.pending := rfl
@[simp] theorem State.withdrawReturn_free (s : State) (t : Tag) : (s.withdrawReturn t).free = s.free := rfl
@[simp] theorem State.withdrawReturn_planner_shots (s : State) (t : Tag) : (s.withdrawReturn t).planner.shots =
    s.planner.shots.filter fun e => !(e.owner == Owner.supervisor && e.tag == t) := rfl
@[simp] theorem State.withdrawReturn_sup (s : State) (t : Tag) : (s.withdrawReturn t).sup =
    s.sup.update t fun x => { x with waitReturn := false } := rfl

/-! ## `State.frameFault` -/

@[simp] theorem State.frameFault_line (s : State) : (s.frameFault).line = s.line := rfl
@[simp] theorem State.frameFault_roster (s : State) : (s.frameFault).roster = s.roster := rfl
@[simp] theorem State.frameFault_census (s : State) : (s.frameFault).census = s.census := rfl
@[simp] theorem State.frameFault_planner (s : State) : (s.frameFault).planner = s.planner := rfl
@[simp] theorem State.frameFault_intake (s : State) : (s.frameFault).intake = s.intake := rfl
@[simp] theorem State.frameFault_lanes (s : State) : (s.frameFault).lanes = s.lanes := rfl
@[simp] theorem State.frameFault_sup (s : State) : (s.frameFault).sup = s.sup := rfl
@[simp] theorem State.frameFault_conv (s : State) : (s.frameFault).conv = s.conv := rfl
@[simp] theorem State.frameFault_link_straps (s : State) : (s.frameFault).link.straps = s.link.straps := rfl
@[simp] theorem State.frameFault_link_cause (s : State) : (s.frameFault).link.cause = s.link.cause := rfl
@[simp] theorem State.frameFault_link_inbound (s : State) : (s.frameFault).link.inbound = s.link.inbound := rfl
@[simp] theorem State.frameFault_link_handler (s : State) : (s.frameFault).link.handler = s.link.handler := rfl
@[simp] theorem State.frameFault_link_outbound (s : State) : (s.frameFault).link.outbound = s.link.outbound := rfl
@[simp] theorem State.frameFault_link_tx (s : State) : (s.frameFault).link.tx = s.link.tx := rfl
@[simp] theorem State.frameFault_link_kinds (s : State) : (s.frameFault).link.kinds = s.link.kinds := rfl
@[simp] theorem State.frameFault_link_recFlags (s : State) : (s.frameFault).link.recFlags = s.link.recFlags := rfl
@[simp] theorem State.frameFault_link_mask (s : State) : (s.frameFault).link.mask = s.link.mask := rfl
@[simp] theorem State.frameFault_pending (s : State) : (s.frameFault).pending = s.pending := rfl
@[simp] theorem State.frameFault_free (s : State) : (s.frameFault).free = s.free := rfl
@[simp] theorem State.frameFault_link_rx (s : State) : (s.frameFault).link.rx = .hunt := rfl
@[simp] theorem State.frameFault_link_faults (s : State) : (s.frameFault).link.faults = s.link.faults + 1 := rfl

/-! ## `State.popRequest` -/

@[simp] theorem State.popRequest_line (s : State) : (s.popRequest).line = s.line := rfl
@[simp] theorem State.popRequest_roster (s : State) : (s.popRequest).roster = s.roster := rfl
@[simp] theorem State.popRequest_census (s : State) : (s.popRequest).census = s.census := rfl
@[simp] theorem State.popRequest_planner (s : State) : (s.popRequest).planner = s.planner := rfl
@[simp] theorem State.popRequest_intake (s : State) : (s.popRequest).intake = s.intake := rfl
@[simp] theorem State.popRequest_lanes (s : State) : (s.popRequest).lanes = s.lanes := rfl
@[simp] theorem State.popRequest_sup (s : State) : (s.popRequest).sup = s.sup := rfl
@[simp] theorem State.popRequest_conv (s : State) : (s.popRequest).conv = s.conv := rfl
@[simp] theorem State.popRequest_link_straps (s : State) : (s.popRequest).link.straps = s.link.straps := rfl
@[simp] theorem State.popRequest_link_cause (s : State) : (s.popRequest).link.cause = s.link.cause := rfl
@[simp] theorem State.popRequest_link_rx (s : State) : (s.popRequest).link.rx = s.link.rx := rfl
@[simp] theorem State.popRequest_link_handler (s : State) : (s.popRequest).link.handler = s.link.handler := rfl
@[simp] theorem State.popRequest_link_outbound (s : State) : (s.popRequest).link.outbound = s.link.outbound := rfl
@[simp] theorem State.popRequest_link_tx (s : State) : (s.popRequest).link.tx = s.link.tx := rfl
@[simp] theorem State.popRequest_link_kinds (s : State) : (s.popRequest).link.kinds = s.link.kinds := rfl
@[simp] theorem State.popRequest_link_recFlags (s : State) : (s.popRequest).link.recFlags = s.link.recFlags := rfl
@[simp] theorem State.popRequest_link_mask (s : State) : (s.popRequest).link.mask = s.link.mask := rfl
@[simp] theorem State.popRequest_link_faults (s : State) : (s.popRequest).link.faults = s.link.faults := rfl
@[simp] theorem State.popRequest_pending (s : State) : (s.popRequest).pending = s.pending := rfl
@[simp] theorem State.popRequest_free (s : State) : (s.popRequest).free = s.free := rfl
@[simp] theorem State.popRequest_link_inbound (s : State) : (s.popRequest).link.inbound = s.link.inbound.tail := rfl

/-! ## `State.transmit` -/

@[simp] theorem State.transmit_line (s : State) (frame : List Byte) : (s.transmit frame).line = s.line := rfl
@[simp] theorem State.transmit_roster (s : State) (frame : List Byte) : (s.transmit frame).roster = s.roster := rfl
@[simp] theorem State.transmit_census (s : State) (frame : List Byte) : (s.transmit frame).census = s.census := rfl
@[simp] theorem State.transmit_planner (s : State) (frame : List Byte) : (s.transmit frame).planner = s.planner := rfl
@[simp] theorem State.transmit_intake (s : State) (frame : List Byte) : (s.transmit frame).intake = s.intake := rfl
@[simp] theorem State.transmit_lanes (s : State) (frame : List Byte) : (s.transmit frame).lanes = s.lanes := rfl
@[simp] theorem State.transmit_sup (s : State) (frame : List Byte) : (s.transmit frame).sup = s.sup := rfl
@[simp] theorem State.transmit_conv (s : State) (frame : List Byte) : (s.transmit frame).conv = s.conv := rfl
@[simp] theorem State.transmit_link_straps (s : State) (frame : List Byte) : (s.transmit frame).link.straps =
    s.link.straps := rfl
@[simp] theorem State.transmit_link_cause (s : State) (frame : List Byte) : (s.transmit frame).link.cause =
    s.link.cause := rfl
@[simp] theorem State.transmit_link_rx (s : State) (frame : List Byte) : (s.transmit frame).link.rx = s.link.rx := rfl
@[simp] theorem State.transmit_link_inbound (s : State) (frame : List Byte) : (s.transmit frame).link.inbound =
    s.link.inbound := rfl
@[simp] theorem State.transmit_link_handler (s : State) (frame : List Byte) : (s.transmit frame).link.handler =
    s.link.handler := rfl
@[simp] theorem State.transmit_link_outbound (s : State) (frame : List Byte) : (s.transmit frame).link.outbound =
    s.link.outbound := rfl
@[simp] theorem State.transmit_link_kinds (s : State) (frame : List Byte) : (s.transmit frame).link.kinds =
    s.link.kinds := rfl
@[simp] theorem State.transmit_link_recFlags (s : State) (frame : List Byte) : (s.transmit frame).link.recFlags =
    s.link.recFlags := rfl
@[simp] theorem State.transmit_link_mask (s : State) (frame : List Byte) : (s.transmit frame).link.mask =
    s.link.mask := rfl
@[simp] theorem State.transmit_link_faults (s : State) (frame : List Byte) : (s.transmit frame).link.faults =
    s.link.faults := rfl
@[simp] theorem State.transmit_pending (s : State) (frame : List Byte) : (s.transmit frame).pending = s.pending := rfl
@[simp] theorem State.transmit_free (s : State) (frame : List Byte) : (s.transmit frame).free = s.free := rfl
@[simp] theorem State.transmit_link_tx (s : State) (frame : List Byte) : (s.transmit frame).link.tx =
    .sending frame := rfl

/-! ## `State.setNext` -/

@[simp] theorem State.setNext_line_state (s : State) (head : Option Head) (built : Option Plan) : (s.setNext head built).line.state =
    s.line.state := rfl
@[simp] theorem State.setNext_line_prev (s : State) (head : Option Head) (built : Option Plan) : (s.setNext head built).line.prev =
    s.line.prev := rfl
@[simp] theorem State.setNext_line_transitions (s : State) (head : Option Head) (built : Option Plan) : (s.setNext head built).line.transitions =
    s.line.transitions := rfl
@[simp] theorem State.setNext_line_tick (s : State) (head : Option Head) (built : Option Plan) : (s.setNext head built).line.tick =
    s.line.tick := rfl
@[simp] theorem State.setNext_line_cycle (s : State) (head : Option Head) (built : Option Plan) : (s.setNext head built).line.cycle =
    s.line.cycle := rfl
@[simp] theorem State.setNext_line_pendingLen (s : State) (head : Option Head) (built : Option Plan) : (s.setNext head built).line.pendingLen =
    s.line.pendingLen := rfl
@[simp] theorem State.setNext_line_warmup (s : State) (head : Option Head) (built : Option Plan) : (s.setNext head built).line.warmup =
    s.line.warmup := rfl
@[simp] theorem State.setNext_line_drainLeft (s : State) (head : Option Head) (built : Option Plan) : (s.setNext head built).line.drainLeft =
    s.line.drainLeft := rfl
@[simp] theorem State.setNext_line_drainCycle (s : State) (head : Option Head) (built : Option Plan) : (s.setNext head built).line.drainCycle =
    s.line.drainCycle := rfl
@[simp] theorem State.setNext_line_notices (s : State) (head : Option Head) (built : Option Plan) : (s.setNext head built).line.notices =
    s.line.notices := rfl
@[simp] theorem State.setNext_line_settings (s : State) (head : Option Head) (built : Option Plan) : (s.setNext head built).line.settings =
    s.line.settings := rfl
@[simp] theorem State.setNext_line_txEnable (s : State) (head : Option Head) (built : Option Plan) : (s.setNext head built).line.txEnable =
    s.line.txEnable := rfl
@[simp] theorem State.setNext_line_headOut (s : State) (head : Option Head) (built : Option Plan) : (s.setNext head built).line.headOut =
    s.line.headOut := rfl
@[simp] theorem State.setNext_roster (s : State) (head : Option Head) (built : Option Plan) : (s.setNext head built).roster =
    s.roster := rfl
@[simp] theorem State.setNext_census (s : State) (head : Option Head) (built : Option Plan) : (s.setNext head built).census =
    s.census := rfl
@[simp] theorem State.setNext_planner_shots (s : State) (head : Option Head) (built : Option Plan) : (s.setNext head built).planner.shots =
    s.planner.shots := rfl
@[simp] theorem State.setNext_planner_sweep (s : State) (head : Option Head) (built : Option Plan) : (s.setNext head built).planner.sweep =
    s.planner.sweep := rfl
@[simp] theorem State.setNext_planner_slotWanted (s : State) (head : Option Head) (built : Option Plan) : (s.setNext head built).planner.slotWanted =
    s.planner.slotWanted := rfl
@[simp] theorem State.setNext_planner_overruns (s : State) (head : Option Head) (built : Option Plan) : (s.setNext head built).planner.overruns =
    s.planner.overruns := rfl
@[simp] theorem State.setNext_planner_lastOverrun (s : State) (head : Option Head) (built : Option Plan) : (s.setNext head built).planner.lastOverrun =
    s.planner.lastOverrun := rfl
@[simp] theorem State.setNext_planner_framerPlan (s : State) (head : Option Head) (built : Option Plan) : (s.setNext head built).planner.framerPlan =
    s.planner.framerPlan := rfl
@[simp] theorem State.setNext_intake (s : State) (head : Option Head) (built : Option Plan) : (s.setNext head built).intake =
    s.intake := rfl
@[simp] theorem State.setNext_lanes (s : State) (head : Option Head) (built : Option Plan) : (s.setNext head built).lanes =
    s.lanes := rfl
@[simp] theorem State.setNext_sup (s : State) (head : Option Head) (built : Option Plan) : (s.setNext head built).sup =
    s.sup := rfl
@[simp] theorem State.setNext_conv (s : State) (head : Option Head) (built : Option Plan) : (s.setNext head built).conv =
    s.conv := rfl
@[simp] theorem State.setNext_link (s : State) (head : Option Head) (built : Option Plan) : (s.setNext head built).link =
    s.link := rfl
@[simp] theorem State.setNext_pending (s : State) (head : Option Head) (built : Option Plan) : (s.setNext head built).pending =
    s.pending := rfl
@[simp] theorem State.setNext_free (s : State) (head : Option Head) (built : Option Plan) : (s.setNext head built).free =
    s.free := rfl
@[simp] theorem State.setNext_line_head (s : State) (head : Option Head) (built : Option Plan) : (s.setNext head built).line.head =
    head := rfl
@[simp] theorem State.setNext_planner_built (s : State) (head : Option Head) (built : Option Plan) : (s.setNext head built).planner.built =
    built := rfl

/-! ## `State.sendHead` -/

@[simp] theorem State.sendHead_line_state (s : State) (h : Head) : (s.sendHead h).line.state = s.line.state := rfl
@[simp] theorem State.sendHead_line_prev (s : State) (h : Head) : (s.sendHead h).line.prev = s.line.prev := rfl
@[simp] theorem State.sendHead_line_transitions (s : State) (h : Head) : (s.sendHead h).line.transitions =
    s.line.transitions := rfl
@[simp] theorem State.sendHead_line_tick (s : State) (h : Head) : (s.sendHead h).line.tick = s.line.tick := rfl
@[simp] theorem State.sendHead_line_cycle (s : State) (h : Head) : (s.sendHead h).line.cycle = s.line.cycle := rfl
@[simp] theorem State.sendHead_line_pendingLen (s : State) (h : Head) : (s.sendHead h).line.pendingLen =
    s.line.pendingLen := rfl
@[simp] theorem State.sendHead_line_warmup (s : State) (h : Head) : (s.sendHead h).line.warmup = s.line.warmup := rfl
@[simp] theorem State.sendHead_line_drainLeft (s : State) (h : Head) : (s.sendHead h).line.drainLeft =
    s.line.drainLeft := rfl
@[simp] theorem State.sendHead_line_drainCycle (s : State) (h : Head) : (s.sendHead h).line.drainCycle =
    s.line.drainCycle := rfl
@[simp] theorem State.sendHead_line_notices (s : State) (h : Head) : (s.sendHead h).line.notices =
    s.line.notices := rfl
@[simp] theorem State.sendHead_line_settings (s : State) (h : Head) : (s.sendHead h).line.settings =
    s.line.settings := rfl
@[simp] theorem State.sendHead_line_txEnable (s : State) (h : Head) : (s.sendHead h).line.txEnable =
    s.line.txEnable := rfl
@[simp] theorem State.sendHead_roster (s : State) (h : Head) : (s.sendHead h).roster = s.roster := rfl
@[simp] theorem State.sendHead_census (s : State) (h : Head) : (s.sendHead h).census = s.census := rfl
@[simp] theorem State.sendHead_planner (s : State) (h : Head) : (s.sendHead h).planner = s.planner := rfl
@[simp] theorem State.sendHead_intake (s : State) (h : Head) : (s.sendHead h).intake = s.intake := rfl
@[simp] theorem State.sendHead_lanes (s : State) (h : Head) : (s.sendHead h).lanes = s.lanes := rfl
@[simp] theorem State.sendHead_sup (s : State) (h : Head) : (s.sendHead h).sup = s.sup := rfl
@[simp] theorem State.sendHead_conv (s : State) (h : Head) : (s.sendHead h).conv = s.conv := rfl
@[simp] theorem State.sendHead_link (s : State) (h : Head) : (s.sendHead h).link = s.link := rfl
@[simp] theorem State.sendHead_pending (s : State) (h : Head) : (s.sendHead h).pending = s.pending := rfl
@[simp] theorem State.sendHead_free (s : State) (h : Head) : (s.sendHead h).free = s.free := rfl
@[simp] theorem State.sendHead_line_head (s : State) (h : Head) : (s.sendHead h).line.head = none := rfl
@[simp] theorem State.sendHead_line_headOut (s : State) (h : Head) : (s.sendHead h).line.headOut = h.bytes := rfl

/-! ## `State.countdowns` -/

@[simp] theorem State.countdowns_line (s : State) : (s.countdowns).line = s.line := rfl
@[simp] theorem State.countdowns_roster_expected (s : State) : (s.countdowns).roster.expected =
    s.roster.expected := rfl
@[simp] theorem State.countdowns_roster_barred (s : State) : (s.countdowns).roster.barred = s.roster.barred := rfl
@[simp] theorem State.countdowns_roster_strangers (s : State) : (s.countdowns).roster.strangers =
    s.roster.strangers := rfl
@[simp] theorem State.countdowns_roster_overflowed (s : State) : (s.countdowns).roster.overflowed =
    s.roster.overflowed := rfl
@[simp] theorem State.countdowns_roster_mode (s : State) : (s.countdowns).roster.mode = s.roster.mode := rfl
@[simp] theorem State.countdowns_roster_poolLow (s : State) : (s.countdowns).roster.poolLow = s.roster.poolLow := rfl
@[simp] theorem State.countdowns_roster_poolHigh (s : State) : (s.countdowns).roster.poolHigh =
    s.roster.poolHigh := rfl
@[simp] theorem State.countdowns_roster_openProfile (s : State) : (s.countdowns).roster.openProfile =
    s.roster.openProfile := rfl
@[simp] theorem State.countdowns_roster_admission (s : State) : (s.countdowns).roster.admission =
    s.roster.admission := rfl
@[simp] theorem State.countdowns_roster_profiles (s : State) : (s.countdowns).roster.profiles =
    s.roster.profiles := rfl
@[simp] theorem State.countdowns_roster_waiting (s : State) : (s.countdowns).roster.waiting = s.roster.waiting := rfl
@[simp] theorem State.countdowns_census_state (s : State) : (s.countdowns).census.state = s.census.state := rfl
@[simp] theorem State.countdowns_census_mode (s : State) : (s.countdowns).census.mode = s.census.mode := rfl
@[simp] theorem State.countdowns_census_interval (s : State) : (s.countdowns).census.interval =
    s.census.interval := rfl
@[simp] theorem State.countdowns_census_splitSet (s : State) : (s.countdowns).census.splitSet =
    s.census.splitSet := rfl
@[simp] theorem State.countdowns_census_effective (s : State) : (s.countdowns).census.effective =
    s.census.effective := rfl
@[simp] theorem State.countdowns_census_rootPattern (s : State) : (s.countdowns).census.rootPattern =
    s.census.rootPattern := rfl
@[simp] theorem State.countdowns_census_rootMask (s : State) : (s.countdowns).census.rootMask =
    s.census.rootMask := rfl
@[simp] theorem State.countdowns_census_stack (s : State) : (s.countdowns).census.stack = s.census.stack := rfl
@[simp] theorem State.countdowns_census_outstanding (s : State) : (s.countdowns).census.outstanding =
    s.census.outstanding := rfl
@[simp] theorem State.countdowns_census_counters (s : State) : (s.countdowns).census.counters =
    s.census.counters := rfl
@[simp] theorem State.countdowns_census_tie (s : State) : (s.countdowns).census.tie = s.census.tie := rfl
@[simp] theorem State.countdowns_census_lastPass (s : State) : (s.countdowns).census.lastPass =
    s.census.lastPass := rfl
@[simp] theorem State.countdowns_census_passes (s : State) : (s.countdowns).census.passes = s.census.passes := rfl
@[simp] theorem State.countdowns_planner (s : State) : (s.countdowns).planner = s.planner := rfl
@[simp] theorem State.countdowns_intake (s : State) : (s.countdowns).intake = s.intake := rfl
@[simp] theorem State.countdowns_lanes (s : State) : (s.countdowns).lanes = s.lanes := rfl
@[simp] theorem State.countdowns_sup (s : State) : (s.countdowns).sup = s.sup := rfl
@[simp] theorem State.countdowns_conv (s : State) : (s.countdowns).conv = s.conv := rfl
@[simp] theorem State.countdowns_link (s : State) : (s.countdowns).link = s.link := rfl
@[simp] theorem State.countdowns_pending (s : State) : (s.countdowns).pending = s.pending := rfl
@[simp] theorem State.countdowns_free (s : State) : (s.countdowns).free = s.free := rfl
@[simp] theorem State.countdowns_roster_records (s : State) : (s.countdowns).roster.records =
    s.roster.records.map Record.holdTick := rfl
@[simp] theorem State.countdowns_census_wait (s : State) : (s.countdowns).census.wait = s.census.wait - 1 := rfl

/-! ## `State.updatePlan` -/

@[simp] theorem State.updatePlan_line (s : State) (k : Nat) (f : StoredPlan → StoredPlan) : (s.updatePlan k f).line =
    s.line := rfl
@[simp] theorem State.updatePlan_roster (s : State) (k : Nat) (f : StoredPlan → StoredPlan) : (s.updatePlan k f).roster =
    s.roster := rfl
@[simp] theorem State.updatePlan_census (s : State) (k : Nat) (f : StoredPlan → StoredPlan) : (s.updatePlan k f).census =
    s.census := rfl
@[simp] theorem State.updatePlan_planner (s : State) (k : Nat) (f : StoredPlan → StoredPlan) : (s.updatePlan k f).planner =
    s.planner := rfl
@[simp] theorem State.updatePlan_intake_strays (s : State) (k : Nat) (f : StoredPlan → StoredPlan) : (s.updatePlan k f).intake.strays =
    s.intake.strays := rfl
@[simp] theorem State.updatePlan_lanes (s : State) (k : Nat) (f : StoredPlan → StoredPlan) : (s.updatePlan k f).lanes =
    s.lanes := rfl
@[simp] theorem State.updatePlan_sup (s : State) (k : Nat) (f : StoredPlan → StoredPlan) : (s.updatePlan k f).sup =
    s.sup := rfl
@[simp] theorem State.updatePlan_conv (s : State) (k : Nat) (f : StoredPlan → StoredPlan) : (s.updatePlan k f).conv =
    s.conv := rfl
@[simp] theorem State.updatePlan_link (s : State) (k : Nat) (f : StoredPlan → StoredPlan) : (s.updatePlan k f).link =
    s.link := rfl
@[simp] theorem State.updatePlan_pending (s : State) (k : Nat) (f : StoredPlan → StoredPlan) : (s.updatePlan k f).pending =
    s.pending := rfl
@[simp] theorem State.updatePlan_free (s : State) (k : Nat) (f : StoredPlan → StoredPlan) : (s.updatePlan k f).free =
    s.free := rfl
@[simp] theorem State.updatePlan_intake_store (s : State) (k : Nat) (f : StoredPlan → StoredPlan) : (s.updatePlan k f).intake.store =
    s.intake.store.modify k f := rfl

/-! ## `State.goDark` -/

@[simp] theorem State.goDark_line_tick (s : State) : (s.goDark).line.tick = s.line.tick := rfl
@[simp] theorem State.goDark_line_pendingLen (s : State) : (s.goDark).line.pendingLen = s.line.pendingLen := rfl
@[simp] theorem State.goDark_line_notices (s : State) : (s.goDark).line.notices = s.line.notices := rfl
@[simp] theorem State.goDark_line_settings (s : State) : (s.goDark).line.settings = s.line.settings := rfl
@[simp] theorem State.goDark_line_headOut (s : State) : (s.goDark).line.headOut = s.line.headOut := rfl
@[simp] theorem State.goDark_roster (s : State) : (s.goDark).roster = s.roster := rfl
@[simp] theorem State.goDark_census (s : State) : (s.goDark).census = s.census := rfl
@[simp] theorem State.goDark_planner_shots (s : State) : (s.goDark).planner.shots = s.planner.shots := rfl
@[simp] theorem State.goDark_planner_sweep (s : State) : (s.goDark).planner.sweep = s.planner.sweep := rfl
@[simp] theorem State.goDark_planner_slotWanted (s : State) : (s.goDark).planner.slotWanted =
    s.planner.slotWanted := rfl
@[simp] theorem State.goDark_planner_overruns (s : State) : (s.goDark).planner.overruns = s.planner.overruns := rfl
@[simp] theorem State.goDark_planner_lastOverrun (s : State) : (s.goDark).planner.lastOverrun =
    s.planner.lastOverrun := rfl
@[simp] theorem State.goDark_planner_framerPlan (s : State) : (s.goDark).planner.framerPlan =
    s.planner.framerPlan := rfl
@[simp] theorem State.goDark_intake_strays (s : State) : (s.goDark).intake.strays = s.intake.strays := rfl
@[simp] theorem State.goDark_lanes (s : State) : (s.goDark).lanes = s.lanes := rfl
@[simp] theorem State.goDark_sup (s : State) : (s.goDark).sup = s.sup := rfl
@[simp] theorem State.goDark_conv (s : State) : (s.goDark).conv = s.conv := rfl
@[simp] theorem State.goDark_link_straps (s : State) : (s.goDark).link.straps = s.link.straps := rfl
@[simp] theorem State.goDark_link_cause (s : State) : (s.goDark).link.cause = s.link.cause := rfl
@[simp] theorem State.goDark_link_rx (s : State) : (s.goDark).link.rx = s.link.rx := rfl
@[simp] theorem State.goDark_link_inbound (s : State) : (s.goDark).link.inbound = s.link.inbound := rfl
@[simp] theorem State.goDark_link_handler (s : State) : (s.goDark).link.handler = s.link.handler := rfl
@[simp] theorem State.goDark_link_outbound (s : State) : (s.goDark).link.outbound = s.link.outbound := rfl
@[simp] theorem State.goDark_link_tx (s : State) : (s.goDark).link.tx = s.link.tx := rfl
@[simp] theorem State.goDark_link_recFlags (s : State) : (s.goDark).link.recFlags = s.link.recFlags := rfl
@[simp] theorem State.goDark_link_mask (s : State) : (s.goDark).link.mask = s.link.mask := rfl
@[simp] theorem State.goDark_link_faults (s : State) : (s.goDark).link.faults = s.link.faults := rfl
@[simp] theorem State.goDark_pending (s : State) : (s.goDark).pending = s.pending := rfl
@[simp] theorem State.goDark_free (s : State) : (s.goDark).free = s.free := rfl
@[simp] theorem State.goDark_line_state (s : State) : (s.goDark).line.state = .dark := rfl
@[simp] theorem State.goDark_line_prev (s : State) : (s.goDark).line.prev = s.line.state := rfl
@[simp] theorem State.goDark_line_transitions (s : State) : (s.goDark).line.transitions =
    satInc 255 s.line.transitions := rfl
@[simp] theorem State.goDark_line_cycle (s : State) : (s.goDark).line.cycle = none := rfl
@[simp] theorem State.goDark_line_warmup (s : State) : (s.goDark).line.warmup = 0 := rfl
@[simp] theorem State.goDark_line_drainLeft (s : State) : (s.goDark).line.drainLeft = 0 := rfl
@[simp] theorem State.goDark_line_drainCycle (s : State) : (s.goDark).line.drainCycle = false := rfl
@[simp] theorem State.goDark_line_head (s : State) : (s.goDark).line.head = none := rfl
@[simp] theorem State.goDark_line_txEnable (s : State) : (s.goDark).line.txEnable = false := rfl
@[simp] theorem State.goDark_planner_built (s : State) : (s.goDark).planner.built = none := rfl
@[simp] theorem State.goDark_intake_store (s : State) : (s.goDark).intake.store = [] := rfl
@[simp] theorem State.goDark_link_kinds (s : State) : (s.goDark).link.kinds =
    { s.link.kinds with line := true } := rfl

/-! ## `State.clearStrangers` -/

@[simp] theorem State.clearStrangers_line (s : State) : (s.clearStrangers).line = s.line := rfl
@[simp] theorem State.clearStrangers_roster_records (s : State) : (s.clearStrangers).roster.records =
    s.roster.records := rfl
@[simp] theorem State.clearStrangers_roster_expected (s : State) : (s.clearStrangers).roster.expected =
    s.roster.expected := rfl
@[simp] theorem State.clearStrangers_roster_barred (s : State) : (s.clearStrangers).roster.barred =
    s.roster.barred := rfl
@[simp] theorem State.clearStrangers_roster_mode (s : State) : (s.clearStrangers).roster.mode = s.roster.mode := rfl
@[simp] theorem State.clearStrangers_roster_poolLow (s : State) : (s.clearStrangers).roster.poolLow =
    s.roster.poolLow := rfl
@[simp] theorem State.clearStrangers_roster_poolHigh (s : State) : (s.clearStrangers).roster.poolHigh =
    s.roster.poolHigh := rfl
@[simp] theorem State.clearStrangers_roster_openProfile (s : State) : (s.clearStrangers).roster.openProfile =
    s.roster.openProfile := rfl
@[simp] theorem State.clearStrangers_roster_admission (s : State) : (s.clearStrangers).roster.admission =
    s.roster.admission := rfl
@[simp] theorem State.clearStrangers_roster_profiles (s : State) : (s.clearStrangers).roster.profiles =
    s.roster.profiles := rfl
@[simp] theorem State.clearStrangers_roster_waiting (s : State) : (s.clearStrangers).roster.waiting =
    s.roster.waiting := rfl
@[simp] theorem State.clearStrangers_census (s : State) : (s.clearStrangers).census = s.census := rfl
@[simp] theorem State.clearStrangers_planner (s : State) : (s.clearStrangers).planner = s.planner := rfl
@[simp] theorem State.clearStrangers_intake (s : State) : (s.clearStrangers).intake = s.intake := rfl
@[simp] theorem State.clearStrangers_lanes (s : State) : (s.clearStrangers).lanes = s.lanes := rfl
@[simp] theorem State.clearStrangers_sup (s : State) : (s.clearStrangers).sup = s.sup := rfl
@[simp] theorem State.clearStrangers_conv (s : State) : (s.clearStrangers).conv = s.conv := rfl
@[simp] theorem State.clearStrangers_link (s : State) : (s.clearStrangers).link = s.link := rfl
@[simp] theorem State.clearStrangers_pending (s : State) : (s.clearStrangers).pending = s.pending := rfl
@[simp] theorem State.clearStrangers_free (s : State) : (s.clearStrangers).free = s.free := rfl
@[simp] theorem State.clearStrangers_roster_strangers (s : State) : (s.clearStrangers).roster.strangers = [] := rfl
@[simp] theorem State.clearStrangers_roster_overflowed (s : State) : (s.clearStrangers).roster.overflowed =
    false := rfl

/-! ## `State.awaitLastWindow` -/

@[simp] theorem State.awaitLastWindow_line (s : State) : (s.awaitLastWindow).line = s.line := rfl
@[simp] theorem State.awaitLastWindow_roster (s : State) : (s.awaitLastWindow).roster = s.roster := rfl
@[simp] theorem State.awaitLastWindow_census_mode (s : State) : (s.awaitLastWindow).census.mode = s.census.mode := rfl
@[simp] theorem State.awaitLastWindow_census_interval (s : State) : (s.awaitLastWindow).census.interval =
    s.census.interval := rfl
@[simp] theorem State.awaitLastWindow_census_splitSet (s : State) : (s.awaitLastWindow).census.splitSet =
    s.census.splitSet := rfl
@[simp] theorem State.awaitLastWindow_census_effective (s : State) : (s.awaitLastWindow).census.effective =
    s.census.effective := rfl
@[simp] theorem State.awaitLastWindow_census_rootPattern (s : State) : (s.awaitLastWindow).census.rootPattern =
    s.census.rootPattern := rfl
@[simp] theorem State.awaitLastWindow_census_rootMask (s : State) : (s.awaitLastWindow).census.rootMask =
    s.census.rootMask := rfl
@[simp] theorem State.awaitLastWindow_census_outstanding (s : State) : (s.awaitLastWindow).census.outstanding =
    s.census.outstanding := rfl
@[simp] theorem State.awaitLastWindow_census_wait (s : State) : (s.awaitLastWindow).census.wait = s.census.wait := rfl
@[simp] theorem State.awaitLastWindow_census_counters (s : State) : (s.awaitLastWindow).census.counters =
    s.census.counters := rfl
@[simp] theorem State.awaitLastWindow_census_tie (s : State) : (s.awaitLastWindow).census.tie = s.census.tie := rfl
@[simp] theorem State.awaitLastWindow_census_lastPass (s : State) : (s.awaitLastWindow).census.lastPass =
    s.census.lastPass := rfl
@[simp] theorem State.awaitLastWindow_census_passes (s : State) : (s.awaitLastWindow).census.passes =
    s.census.passes := rfl
@[simp] theorem State.awaitLastWindow_planner (s : State) : (s.awaitLastWindow).planner = s.planner := rfl
@[simp] theorem State.awaitLastWindow_intake (s : State) : (s.awaitLastWindow).intake = s.intake := rfl
@[simp] theorem State.awaitLastWindow_lanes (s : State) : (s.awaitLastWindow).lanes = s.lanes := rfl
@[simp] theorem State.awaitLastWindow_sup (s : State) : (s.awaitLastWindow).sup = s.sup := rfl
@[simp] theorem State.awaitLastWindow_conv (s : State) : (s.awaitLastWindow).conv = s.conv := rfl
@[simp] theorem State.awaitLastWindow_link (s : State) : (s.awaitLastWindow).link = s.link := rfl
@[simp] theorem State.awaitLastWindow_pending (s : State) : (s.awaitLastWindow).pending = s.pending := rfl
@[simp] theorem State.awaitLastWindow_free (s : State) : (s.awaitLastWindow).free = s.free := rfl
@[simp] theorem State.awaitLastWindow_census_state (s : State) : (s.awaitLastWindow).census.state = .stopping := rfl
@[simp] theorem State.awaitLastWindow_census_stack (s : State) : (s.awaitLastWindow).census.stack = [] := rfl

/-! ## `State.finishNode` -/

@[simp] theorem State.finishNode_line (s : State) : (s.finishNode).line = s.line := rfl
@[simp] theorem State.finishNode_roster (s : State) : (s.finishNode).roster = s.roster := rfl
@[simp] theorem State.finishNode_census_state (s : State) : (s.finishNode).census.state = s.census.state := rfl
@[simp] theorem State.finishNode_census_mode (s : State) : (s.finishNode).census.mode = s.census.mode := rfl
@[simp] theorem State.finishNode_census_interval (s : State) : (s.finishNode).census.interval =
    s.census.interval := rfl
@[simp] theorem State.finishNode_census_splitSet (s : State) : (s.finishNode).census.splitSet =
    s.census.splitSet := rfl
@[simp] theorem State.finishNode_census_effective (s : State) : (s.finishNode).census.effective =
    s.census.effective := rfl
@[simp] theorem State.finishNode_census_rootPattern (s : State) : (s.finishNode).census.rootPattern =
    s.census.rootPattern := rfl
@[simp] theorem State.finishNode_census_rootMask (s : State) : (s.finishNode).census.rootMask =
    s.census.rootMask := rfl
@[simp] theorem State.finishNode_census_stack (s : State) : (s.finishNode).census.stack = s.census.stack := rfl
@[simp] theorem State.finishNode_census_counters (s : State) : (s.finishNode).census.counters =
    s.census.counters := rfl
@[simp] theorem State.finishNode_census_tie (s : State) : (s.finishNode).census.tie = s.census.tie := rfl
@[simp] theorem State.finishNode_census_lastPass (s : State) : (s.finishNode).census.lastPass =
    s.census.lastPass := rfl
@[simp] theorem State.finishNode_census_passes (s : State) : (s.finishNode).census.passes = s.census.passes := rfl
@[simp] theorem State.finishNode_planner (s : State) : (s.finishNode).planner = s.planner := rfl
@[simp] theorem State.finishNode_intake (s : State) : (s.finishNode).intake = s.intake := rfl
@[simp] theorem State.finishNode_lanes (s : State) : (s.finishNode).lanes = s.lanes := rfl
@[simp] theorem State.finishNode_sup (s : State) : (s.finishNode).sup = s.sup := rfl
@[simp] theorem State.finishNode_conv (s : State) : (s.finishNode).conv = s.conv := rfl
@[simp] theorem State.finishNode_link (s : State) : (s.finishNode).link = s.link := rfl
@[simp] theorem State.finishNode_pending (s : State) : (s.finishNode).pending = s.pending := rfl
@[simp] theorem State.finishNode_free (s : State) : (s.finishNode).free = s.free := rfl
@[simp] theorem State.finishNode_census_outstanding (s : State) : (s.finishNode).census.outstanding = none := rfl
@[simp] theorem State.finishNode_census_wait (s : State) : (s.finishNode).census.wait = s.census.interval := rfl

/-! ## `State.endPass` -/

@[simp] theorem State.endPass_line (s : State) (kind : PassEnd) (cycle : CycleNo) : (s.endPass kind cycle).line =
    s.line := rfl
@[simp] theorem State.endPass_roster (s : State) (kind : PassEnd) (cycle : CycleNo) : (s.endPass kind cycle).roster =
    s.roster := rfl
@[simp] theorem State.endPass_census_state (s : State) (kind : PassEnd) (cycle : CycleNo) : (s.endPass kind cycle).census.state =
    s.census.state := rfl
@[simp] theorem State.endPass_census_mode (s : State) (kind : PassEnd) (cycle : CycleNo) : (s.endPass kind cycle).census.mode =
    s.census.mode := rfl
@[simp] theorem State.endPass_census_interval (s : State) (kind : PassEnd) (cycle : CycleNo) : (s.endPass kind cycle).census.interval =
    s.census.interval := rfl
@[simp] theorem State.endPass_census_splitSet (s : State) (kind : PassEnd) (cycle : CycleNo) : (s.endPass kind cycle).census.splitSet =
    s.census.splitSet := rfl
@[simp] theorem State.endPass_census_effective (s : State) (kind : PassEnd) (cycle : CycleNo) : (s.endPass kind cycle).census.effective =
    s.census.effective := rfl
@[simp] theorem State.endPass_census_rootPattern (s : State) (kind : PassEnd) (cycle : CycleNo) : (s.endPass kind cycle).census.rootPattern =
    s.census.rootPattern := rfl
@[simp] theorem State.endPass_census_rootMask (s : State) (kind : PassEnd) (cycle : CycleNo) : (s.endPass kind cycle).census.rootMask =
    s.census.rootMask := rfl
@[simp] theorem State.endPass_census_stack (s : State) (kind : PassEnd) (cycle : CycleNo) : (s.endPass kind cycle).census.stack =
    s.census.stack := rfl
@[simp] theorem State.endPass_census_outstanding (s : State) (kind : PassEnd) (cycle : CycleNo) : (s.endPass kind cycle).census.outstanding =
    s.census.outstanding := rfl
@[simp] theorem State.endPass_census_wait (s : State) (kind : PassEnd) (cycle : CycleNo) : (s.endPass kind cycle).census.wait =
    s.census.wait := rfl
@[simp] theorem State.endPass_census_counters (s : State) (kind : PassEnd) (cycle : CycleNo) : (s.endPass kind cycle).census.counters =
    s.census.counters := rfl
@[simp] theorem State.endPass_census_tie (s : State) (kind : PassEnd) (cycle : CycleNo) : (s.endPass kind cycle).census.tie =
    s.census.tie := rfl
@[simp] theorem State.endPass_planner (s : State) (kind : PassEnd) (cycle : CycleNo) : (s.endPass kind cycle).planner =
    s.planner := rfl
@[simp] theorem State.endPass_intake (s : State) (kind : PassEnd) (cycle : CycleNo) : (s.endPass kind cycle).intake =
    s.intake := rfl
@[simp] theorem State.endPass_lanes (s : State) (kind : PassEnd) (cycle : CycleNo) : (s.endPass kind cycle).lanes =
    s.lanes := rfl
@[simp] theorem State.endPass_sup (s : State) (kind : PassEnd) (cycle : CycleNo) : (s.endPass kind cycle).sup =
    s.sup := rfl
@[simp] theorem State.endPass_conv (s : State) (kind : PassEnd) (cycle : CycleNo) : (s.endPass kind cycle).conv =
    s.conv := rfl
@[simp] theorem State.endPass_link_straps (s : State) (kind : PassEnd) (cycle : CycleNo) : (s.endPass kind cycle).link.straps =
    s.link.straps := rfl
@[simp] theorem State.endPass_link_cause (s : State) (kind : PassEnd) (cycle : CycleNo) : (s.endPass kind cycle).link.cause =
    s.link.cause := rfl
@[simp] theorem State.endPass_link_rx (s : State) (kind : PassEnd) (cycle : CycleNo) : (s.endPass kind cycle).link.rx =
    s.link.rx := rfl
@[simp] theorem State.endPass_link_inbound (s : State) (kind : PassEnd) (cycle : CycleNo) : (s.endPass kind cycle).link.inbound =
    s.link.inbound := rfl
@[simp] theorem State.endPass_link_handler (s : State) (kind : PassEnd) (cycle : CycleNo) : (s.endPass kind cycle).link.handler =
    s.link.handler := rfl
@[simp] theorem State.endPass_link_outbound (s : State) (kind : PassEnd) (cycle : CycleNo) : (s.endPass kind cycle).link.outbound =
    s.link.outbound := rfl
@[simp] theorem State.endPass_link_tx (s : State) (kind : PassEnd) (cycle : CycleNo) : (s.endPass kind cycle).link.tx =
    s.link.tx := rfl
@[simp] theorem State.endPass_link_recFlags (s : State) (kind : PassEnd) (cycle : CycleNo) : (s.endPass kind cycle).link.recFlags =
    s.link.recFlags := rfl
@[simp] theorem State.endPass_link_mask (s : State) (kind : PassEnd) (cycle : CycleNo) : (s.endPass kind cycle).link.mask =
    s.link.mask := rfl
@[simp] theorem State.endPass_link_faults (s : State) (kind : PassEnd) (cycle : CycleNo) : (s.endPass kind cycle).link.faults =
    s.link.faults := rfl
@[simp] theorem State.endPass_pending (s : State) (kind : PassEnd) (cycle : CycleNo) : (s.endPass kind cycle).pending =
    s.pending := rfl
@[simp] theorem State.endPass_free (s : State) (kind : PassEnd) (cycle : CycleNo) : (s.endPass kind cycle).free =
    s.free := rfl
@[simp] theorem State.endPass_census_lastPass (s : State) (kind : PassEnd) (cycle : CycleNo) : (s.endPass kind cycle).census.lastPass =
    some { kind := kind, cycle := cycle, counters := s.census.counters, tie := s.census.tie } := rfl
@[simp] theorem State.endPass_census_passes (s : State) (kind : PassEnd) (cycle : CycleNo) : (s.endPass kind cycle).census.passes =
    if kind = PassEnd.complete then satInc 255 s.census.passes else s.census.passes := rfl
@[simp] theorem State.endPass_link_kinds (s : State) (kind : PassEnd) (cycle : CycleNo) : (s.endPass kind cycle).link.kinds =
    { s.link.kinds with census := true } := rfl

/-! ## `State.haltCensus` -/

@[simp] theorem State.haltCensus_line (s : State) (kind : PassEnd) (cycle : CycleNo) : (s.haltCensus kind cycle).line =
    s.line := rfl
@[simp] theorem State.haltCensus_roster (s : State) (kind : PassEnd) (cycle : CycleNo) : (s.haltCensus kind cycle).roster =
    s.roster := rfl
@[simp] theorem State.haltCensus_census_mode (s : State) (kind : PassEnd) (cycle : CycleNo) : (s.haltCensus kind cycle).census.mode =
    s.census.mode := rfl
@[simp] theorem State.haltCensus_census_interval (s : State) (kind : PassEnd) (cycle : CycleNo) : (s.haltCensus kind cycle).census.interval =
    s.census.interval := rfl
@[simp] theorem State.haltCensus_census_splitSet (s : State) (kind : PassEnd) (cycle : CycleNo) : (s.haltCensus kind cycle).census.splitSet =
    s.census.splitSet := rfl
@[simp] theorem State.haltCensus_census_effective (s : State) (kind : PassEnd) (cycle : CycleNo) : (s.haltCensus kind cycle).census.effective =
    s.census.effective := rfl
@[simp] theorem State.haltCensus_census_rootPattern (s : State) (kind : PassEnd) (cycle : CycleNo) : (s.haltCensus kind cycle).census.rootPattern =
    s.census.rootPattern := rfl
@[simp] theorem State.haltCensus_census_rootMask (s : State) (kind : PassEnd) (cycle : CycleNo) : (s.haltCensus kind cycle).census.rootMask =
    s.census.rootMask := rfl
@[simp] theorem State.haltCensus_census_counters (s : State) (kind : PassEnd) (cycle : CycleNo) : (s.haltCensus kind cycle).census.counters =
    s.census.counters := rfl
@[simp] theorem State.haltCensus_census_tie (s : State) (kind : PassEnd) (cycle : CycleNo) : (s.haltCensus kind cycle).census.tie =
    s.census.tie := rfl
@[simp] theorem State.haltCensus_planner (s : State) (kind : PassEnd) (cycle : CycleNo) : (s.haltCensus kind cycle).planner =
    s.planner := rfl
@[simp] theorem State.haltCensus_intake (s : State) (kind : PassEnd) (cycle : CycleNo) : (s.haltCensus kind cycle).intake =
    s.intake := rfl
@[simp] theorem State.haltCensus_lanes (s : State) (kind : PassEnd) (cycle : CycleNo) : (s.haltCensus kind cycle).lanes =
    s.lanes := rfl
@[simp] theorem State.haltCensus_sup (s : State) (kind : PassEnd) (cycle : CycleNo) : (s.haltCensus kind cycle).sup =
    s.sup := rfl
@[simp] theorem State.haltCensus_conv (s : State) (kind : PassEnd) (cycle : CycleNo) : (s.haltCensus kind cycle).conv =
    s.conv := rfl
@[simp] theorem State.haltCensus_link_straps (s : State) (kind : PassEnd) (cycle : CycleNo) : (s.haltCensus kind cycle).link.straps =
    s.link.straps := rfl
@[simp] theorem State.haltCensus_link_cause (s : State) (kind : PassEnd) (cycle : CycleNo) : (s.haltCensus kind cycle).link.cause =
    s.link.cause := rfl
@[simp] theorem State.haltCensus_link_rx (s : State) (kind : PassEnd) (cycle : CycleNo) : (s.haltCensus kind cycle).link.rx =
    s.link.rx := rfl
@[simp] theorem State.haltCensus_link_inbound (s : State) (kind : PassEnd) (cycle : CycleNo) : (s.haltCensus kind cycle).link.inbound =
    s.link.inbound := rfl
@[simp] theorem State.haltCensus_link_handler (s : State) (kind : PassEnd) (cycle : CycleNo) : (s.haltCensus kind cycle).link.handler =
    s.link.handler := rfl
@[simp] theorem State.haltCensus_link_outbound (s : State) (kind : PassEnd) (cycle : CycleNo) : (s.haltCensus kind cycle).link.outbound =
    s.link.outbound := rfl
@[simp] theorem State.haltCensus_link_tx (s : State) (kind : PassEnd) (cycle : CycleNo) : (s.haltCensus kind cycle).link.tx =
    s.link.tx := rfl
@[simp] theorem State.haltCensus_link_recFlags (s : State) (kind : PassEnd) (cycle : CycleNo) : (s.haltCensus kind cycle).link.recFlags =
    s.link.recFlags := rfl
@[simp] theorem State.haltCensus_link_mask (s : State) (kind : PassEnd) (cycle : CycleNo) : (s.haltCensus kind cycle).link.mask =
    s.link.mask := rfl
@[simp] theorem State.haltCensus_link_faults (s : State) (kind : PassEnd) (cycle : CycleNo) : (s.haltCensus kind cycle).link.faults =
    s.link.faults := rfl
@[simp] theorem State.haltCensus_pending (s : State) (kind : PassEnd) (cycle : CycleNo) : (s.haltCensus kind cycle).pending =
    s.pending := rfl
@[simp] theorem State.haltCensus_free (s : State) (kind : PassEnd) (cycle : CycleNo) : (s.haltCensus kind cycle).free =
    s.free := rfl
@[simp] theorem State.haltCensus_census_state (s : State) (kind : PassEnd) (cycle : CycleNo) : (s.haltCensus kind cycle).census.state =
    .stopped := rfl
@[simp] theorem State.haltCensus_census_stack (s : State) (kind : PassEnd) (cycle : CycleNo) : (s.haltCensus kind cycle).census.stack =
    [] := rfl
@[simp] theorem State.haltCensus_census_outstanding (s : State) (kind : PassEnd) (cycle : CycleNo) : (s.haltCensus kind cycle).census.outstanding =
    none := rfl
@[simp] theorem State.haltCensus_census_wait (s : State) (kind : PassEnd) (cycle : CycleNo) : (s.haltCensus kind cycle).census.wait =
    0 := rfl
@[simp] theorem State.haltCensus_census_lastPass (s : State) (kind : PassEnd) (cycle : CycleNo) : (s.haltCensus kind cycle).census.lastPass =
    some { kind := kind, cycle := cycle, counters := s.census.counters, tie := s.census.tie } := rfl
@[simp] theorem State.haltCensus_census_passes (s : State) (kind : PassEnd) (cycle : CycleNo) : (s.haltCensus kind cycle).census.passes =
    if kind = PassEnd.complete then satInc 255 s.census.passes else s.census.passes := rfl
@[simp] theorem State.haltCensus_link_kinds (s : State) (kind : PassEnd) (cycle : CycleNo) : (s.haltCensus kind cycle).link.kinds =
    { s.link.kinds with census := true } := rfl

/-! ## `State.sendTerminal` -/

@[simp] theorem State.sendTerminal_line (s : State) (t : Tag) : (s.sendTerminal t).line = s.line := rfl
@[simp] theorem State.sendTerminal_roster_expected (s : State) (t : Tag) : (s.sendTerminal t).roster.expected =
    s.roster.expected := rfl
@[simp] theorem State.sendTerminal_roster_barred (s : State) (t : Tag) : (s.sendTerminal t).roster.barred =
    s.roster.barred := rfl
@[simp] theorem State.sendTerminal_roster_strangers (s : State) (t : Tag) : (s.sendTerminal t).roster.strangers =
    s.roster.strangers := rfl
@[simp] theorem State.sendTerminal_roster_overflowed (s : State) (t : Tag) : (s.sendTerminal t).roster.overflowed =
    s.roster.overflowed := rfl
@[simp] theorem State.sendTerminal_roster_mode (s : State) (t : Tag) : (s.sendTerminal t).roster.mode =
    s.roster.mode := rfl
@[simp] theorem State.sendTerminal_roster_poolLow (s : State) (t : Tag) : (s.sendTerminal t).roster.poolLow =
    s.roster.poolLow := rfl
@[simp] theorem State.sendTerminal_roster_poolHigh (s : State) (t : Tag) : (s.sendTerminal t).roster.poolHigh =
    s.roster.poolHigh := rfl
@[simp] theorem State.sendTerminal_roster_openProfile (s : State) (t : Tag) : (s.sendTerminal t).roster.openProfile =
    s.roster.openProfile := rfl
@[simp] theorem State.sendTerminal_roster_admission (s : State) (t : Tag) : (s.sendTerminal t).roster.admission =
    s.roster.admission := rfl
@[simp] theorem State.sendTerminal_roster_profiles (s : State) (t : Tag) : (s.sendTerminal t).roster.profiles =
    s.roster.profiles := rfl
@[simp] theorem State.sendTerminal_roster_waiting (s : State) (t : Tag) : (s.sendTerminal t).roster.waiting =
    s.roster.waiting := rfl
@[simp] theorem State.sendTerminal_census (s : State) (t : Tag) : (s.sendTerminal t).census = s.census := rfl
@[simp] theorem State.sendTerminal_planner (s : State) (t : Tag) : (s.sendTerminal t).planner = s.planner := rfl
@[simp] theorem State.sendTerminal_intake (s : State) (t : Tag) : (s.sendTerminal t).intake = s.intake := rfl
@[simp] theorem State.sendTerminal_lanes (s : State) (t : Tag) : (s.sendTerminal t).lanes = s.lanes := rfl
@[simp] theorem State.sendTerminal_sup (s : State) (t : Tag) : (s.sendTerminal t).sup = s.sup := rfl
@[simp] theorem State.sendTerminal_conv (s : State) (t : Tag) : (s.sendTerminal t).conv = s.conv := rfl
@[simp] theorem State.sendTerminal_link_straps (s : State) (t : Tag) : (s.sendTerminal t).link.straps =
    s.link.straps := rfl
@[simp] theorem State.sendTerminal_link_cause (s : State) (t : Tag) : (s.sendTerminal t).link.cause =
    s.link.cause := rfl
@[simp] theorem State.sendTerminal_link_rx (s : State) (t : Tag) : (s.sendTerminal t).link.rx = s.link.rx := rfl
@[simp] theorem State.sendTerminal_link_inbound (s : State) (t : Tag) : (s.sendTerminal t).link.inbound =
    s.link.inbound := rfl
@[simp] theorem State.sendTerminal_link_handler (s : State) (t : Tag) : (s.sendTerminal t).link.handler =
    s.link.handler := rfl
@[simp] theorem State.sendTerminal_link_outbound (s : State) (t : Tag) : (s.sendTerminal t).link.outbound =
    s.link.outbound := rfl
@[simp] theorem State.sendTerminal_link_kinds (s : State) (t : Tag) : (s.sendTerminal t).link.kinds =
    s.link.kinds := rfl
@[simp] theorem State.sendTerminal_link_mask (s : State) (t : Tag) : (s.sendTerminal t).link.mask = s.link.mask := rfl
@[simp] theorem State.sendTerminal_link_faults (s : State) (t : Tag) : (s.sendTerminal t).link.faults =
    s.link.faults := rfl
@[simp] theorem State.sendTerminal_pending (s : State) (t : Tag) : (s.sendTerminal t).pending = s.pending := rfl
@[simp] theorem State.sendTerminal_free (s : State) (t : Tag) : (s.sendTerminal t).free = s.free := rfl
@[simp] theorem State.sendTerminal_roster_records (s : State) (t : Tag) : (s.sendTerminal t).roster.records =
    s.roster.records.update t fun r => { r with changes := 0 } := rfl
@[simp] theorem State.sendTerminal_link_tx (s : State) (t : Tag) : (s.sendTerminal t).link.tx =
    .sending (noticeFrame 0xF4 (s.terminalBody t)) := rfl
@[simp] theorem State.sendTerminal_link_recFlags (s : State) (t : Tag) : (s.sendTerminal t).link.recFlags =
    s.link.recFlags.set t false := rfl

/-! ## `State.sendPlanNotice` -/

@[simp] theorem State.sendPlanNotice_line (s : State) : (s.sendPlanNotice).line = s.line := rfl
@[simp] theorem State.sendPlanNotice_roster (s : State) : (s.sendPlanNotice).roster = s.roster := rfl
@[simp] theorem State.sendPlanNotice_census (s : State) : (s.sendPlanNotice).census = s.census := rfl
@[simp] theorem State.sendPlanNotice_planner_built (s : State) : (s.sendPlanNotice).planner.built =
    s.planner.built := rfl
@[simp] theorem State.sendPlanNotice_planner_shots (s : State) : (s.sendPlanNotice).planner.shots =
    s.planner.shots := rfl
@[simp] theorem State.sendPlanNotice_planner_sweep (s : State) : (s.sendPlanNotice).planner.sweep =
    s.planner.sweep := rfl
@[simp] theorem State.sendPlanNotice_planner_slotWanted (s : State) : (s.sendPlanNotice).planner.slotWanted =
    s.planner.slotWanted := rfl
@[simp] theorem State.sendPlanNotice_planner_lastOverrun (s : State) : (s.sendPlanNotice).planner.lastOverrun =
    s.planner.lastOverrun := rfl
@[simp] theorem State.sendPlanNotice_planner_framerPlan (s : State) : (s.sendPlanNotice).planner.framerPlan =
    s.planner.framerPlan := rfl
@[simp] theorem State.sendPlanNotice_intake (s : State) : (s.sendPlanNotice).intake = s.intake := rfl
@[simp] theorem State.sendPlanNotice_lanes (s : State) : (s.sendPlanNotice).lanes = s.lanes := rfl
@[simp] theorem State.sendPlanNotice_sup (s : State) : (s.sendPlanNotice).sup = s.sup := rfl
@[simp] theorem State.sendPlanNotice_conv (s : State) : (s.sendPlanNotice).conv = s.conv := rfl
@[simp] theorem State.sendPlanNotice_link_straps (s : State) : (s.sendPlanNotice).link.straps = s.link.straps := rfl
@[simp] theorem State.sendPlanNotice_link_cause (s : State) : (s.sendPlanNotice).link.cause = s.link.cause := rfl
@[simp] theorem State.sendPlanNotice_link_rx (s : State) : (s.sendPlanNotice).link.rx = s.link.rx := rfl
@[simp] theorem State.sendPlanNotice_link_inbound (s : State) : (s.sendPlanNotice).link.inbound =
    s.link.inbound := rfl
@[simp] theorem State.sendPlanNotice_link_handler (s : State) : (s.sendPlanNotice).link.handler =
    s.link.handler := rfl
@[simp] theorem State.sendPlanNotice_link_outbound (s : State) : (s.sendPlanNotice).link.outbound =
    s.link.outbound := rfl
@[simp] theorem State.sendPlanNotice_link_recFlags (s : State) : (s.sendPlanNotice).link.recFlags =
    s.link.recFlags := rfl
@[simp] theorem State.sendPlanNotice_link_mask (s : State) : (s.sendPlanNotice).link.mask = s.link.mask := rfl
@[simp] theorem State.sendPlanNotice_link_faults (s : State) : (s.sendPlanNotice).link.faults = s.link.faults := rfl
@[simp] theorem State.sendPlanNotice_pending (s : State) : (s.sendPlanNotice).pending = s.pending := rfl
@[simp] theorem State.sendPlanNotice_free (s : State) : (s.sendPlanNotice).free = s.free := rfl
@[simp] theorem State.sendPlanNotice_planner_overruns (s : State) : (s.sendPlanNotice).planner.overruns = 0 := rfl
@[simp] theorem State.sendPlanNotice_link_tx (s : State) : (s.sendPlanNotice).link.tx =
    .sending (noticeFrame 0xF5 s.planBody) := rfl
@[simp] theorem State.sendPlanNotice_link_kinds (s : State) : (s.sendPlanNotice).link.kinds =
    { s.link.kinds with plan := false } := rfl

/-! ## `State.endCalibration` -/

@[simp] theorem State.endCalibration_line (s : State) (result : CalibResult) : (s.endCalibration result).line =
    s.line := rfl
@[simp] theorem State.endCalibration_roster (s : State) (result : CalibResult) : (s.endCalibration result).roster =
    s.roster := rfl
@[simp] theorem State.endCalibration_census (s : State) (result : CalibResult) : (s.endCalibration result).census =
    s.census := rfl
@[simp] theorem State.endCalibration_planner_built (s : State) (result : CalibResult) : (s.endCalibration result).planner.built =
    s.planner.built := rfl
@[simp] theorem State.endCalibration_planner_shots (s : State) (result : CalibResult) : (s.endCalibration result).planner.shots =
    s.planner.shots := rfl
@[simp] theorem State.endCalibration_planner_sweep (s : State) (result : CalibResult) : (s.endCalibration result).planner.sweep =
    s.planner.sweep := rfl
@[simp] theorem State.endCalibration_planner_overruns (s : State) (result : CalibResult) : (s.endCalibration result).planner.overruns =
    s.planner.overruns := rfl
@[simp] theorem State.endCalibration_planner_lastOverrun (s : State) (result : CalibResult) : (s.endCalibration result).planner.lastOverrun =
    s.planner.lastOverrun := rfl
@[simp] theorem State.endCalibration_planner_framerPlan (s : State) (result : CalibResult) : (s.endCalibration result).planner.framerPlan =
    s.planner.framerPlan := rfl
@[simp] theorem State.endCalibration_intake (s : State) (result : CalibResult) : (s.endCalibration result).intake =
    s.intake := rfl
@[simp] theorem State.endCalibration_lanes (s : State) (result : CalibResult) : (s.endCalibration result).lanes =
    s.lanes := rfl
@[simp] theorem State.endCalibration_sup (s : State) (result : CalibResult) : (s.endCalibration result).sup =
    s.sup := rfl
@[simp] theorem State.endCalibration_conv_state (s : State) (result : CalibResult) : (s.endCalibration result).conv.state =
    s.conv.state := rfl
@[simp] theorem State.endCalibration_conv_windowCode (s : State) (result : CalibResult) : (s.endCalibration result).conv.windowCode =
    s.conv.windowCode := rfl
@[simp] theorem State.endCalibration_conv_stepCode (s : State) (result : CalibResult) : (s.endCalibration result).conv.stepCode =
    s.conv.stepCode := rfl
@[simp] theorem State.endCalibration_conv_offset (s : State) (result : CalibResult) : (s.endCalibration result).conv.offset =
    s.conv.offset := rfl
@[simp] theorem State.endCalibration_conv_curve (s : State) (result : CalibResult) : (s.endCalibration result).conv.curve =
    s.conv.curve := rfl
@[simp] theorem State.endCalibration_conv_refused (s : State) (result : CalibResult) : (s.endCalibration result).conv.refused =
    s.conv.refused := rfl
@[simp] theorem State.endCalibration_link_straps (s : State) (result : CalibResult) : (s.endCalibration result).link.straps =
    s.link.straps := rfl
@[simp] theorem State.endCalibration_link_cause (s : State) (result : CalibResult) : (s.endCalibration result).link.cause =
    s.link.cause := rfl
@[simp] theorem State.endCalibration_link_rx (s : State) (result : CalibResult) : (s.endCalibration result).link.rx =
    s.link.rx := rfl
@[simp] theorem State.endCalibration_link_inbound (s : State) (result : CalibResult) : (s.endCalibration result).link.inbound =
    s.link.inbound := rfl
@[simp] theorem State.endCalibration_link_handler (s : State) (result : CalibResult) : (s.endCalibration result).link.handler =
    s.link.handler := rfl
@[simp] theorem State.endCalibration_link_outbound (s : State) (result : CalibResult) : (s.endCalibration result).link.outbound =
    s.link.outbound := rfl
@[simp] theorem State.endCalibration_link_tx (s : State) (result : CalibResult) : (s.endCalibration result).link.tx =
    s.link.tx := rfl
@[simp] theorem State.endCalibration_link_recFlags (s : State) (result : CalibResult) : (s.endCalibration result).link.recFlags =
    s.link.recFlags := rfl
@[simp] theorem State.endCalibration_link_mask (s : State) (result : CalibResult) : (s.endCalibration result).link.mask =
    s.link.mask := rfl
@[simp] theorem State.endCalibration_link_faults (s : State) (result : CalibResult) : (s.endCalibration result).link.faults =
    s.link.faults := rfl
@[simp] theorem State.endCalibration_pending (s : State) (result : CalibResult) : (s.endCalibration result).pending =
    s.pending := rfl
@[simp] theorem State.endCalibration_free (s : State) (result : CalibResult) : (s.endCalibration result).free =
    s.free := rfl
@[simp] theorem State.endCalibration_planner_slotWanted (s : State) (result : CalibResult) : (s.endCalibration result).planner.slotWanted =
    false := rfl
@[simp] theorem State.endCalibration_conv_calib (s : State) (result : CalibResult) : (s.endCalibration result).conv.calib =
    none := rfl
@[simp] theorem State.endCalibration_conv_lastCalib (s : State) (result : CalibResult) : (s.endCalibration result).conv.lastCalib =
    some result := rfl
@[simp] theorem State.endCalibration_link_kinds (s : State) (result : CalibResult) : (s.endCalibration result).link.kinds =
    { s.link.kinds with calibration := true } := rfl

/-! ## `State.freeLane` -/

@[simp] theorem State.freeLane_line (s : State) (i : LaneNo) : (s.freeLane i).line = s.line := rfl
@[simp] theorem State.freeLane_roster (s : State) (i : LaneNo) : (s.freeLane i).roster = s.roster := rfl
@[simp] theorem State.freeLane_census (s : State) (i : LaneNo) : (s.freeLane i).census = s.census := rfl
@[simp] theorem State.freeLane_planner_built (s : State) (i : LaneNo) : (s.freeLane i).planner.built =
    s.planner.built := rfl
@[simp] theorem State.freeLane_planner_sweep (s : State) (i : LaneNo) : (s.freeLane i).planner.sweep =
    s.planner.sweep := rfl
@[simp] theorem State.freeLane_planner_slotWanted (s : State) (i : LaneNo) : (s.freeLane i).planner.slotWanted =
    s.planner.slotWanted := rfl
@[simp] theorem State.freeLane_planner_overruns (s : State) (i : LaneNo) : (s.freeLane i).planner.overruns =
    s.planner.overruns := rfl
@[simp] theorem State.freeLane_planner_lastOverrun (s : State) (i : LaneNo) : (s.freeLane i).planner.lastOverrun =
    s.planner.lastOverrun := rfl
@[simp] theorem State.freeLane_planner_framerPlan (s : State) (i : LaneNo) : (s.freeLane i).planner.framerPlan =
    s.planner.framerPlan := rfl
@[simp] theorem State.freeLane_intake (s : State) (i : LaneNo) : (s.freeLane i).intake = s.intake := rfl
@[simp] theorem State.freeLane_sup (s : State) (i : LaneNo) : (s.freeLane i).sup = s.sup := rfl
@[simp] theorem State.freeLane_conv (s : State) (i : LaneNo) : (s.freeLane i).conv = s.conv := rfl
@[simp] theorem State.freeLane_link (s : State) (i : LaneNo) : (s.freeLane i).link = s.link := rfl
@[simp] theorem State.freeLane_pending (s : State) (i : LaneNo) : (s.freeLane i).pending = s.pending := rfl
@[simp] theorem State.freeLane_free (s : State) (i : LaneNo) : (s.freeLane i).free = s.free := rfl
@[simp] theorem State.freeLane_planner_shots (s : State) (i : LaneNo) : (s.freeLane i).planner.shots =
    s.planner.shots.filter fun e => e.owner != Owner.lane i := rfl
@[simp] theorem State.freeLane_lanes (s : State) (i : LaneNo) : (s.freeLane i).lanes =
    s.lanes.update i fun l => { l with work := none } := rfl

end Sys2Proof.Machine
end

