-- ==== Sys2Proof/Laws/Frames.lean ====
section
/-! SUPPORT. The frames of the blocks' own operations: what no event of the line, the lanes, the census, the intake or the converter writes. -/

namespace Sys2Proof.Machine

/-- What the host alone writes, with the link's receiver, queues, handler and transmitter: no event of chapters 1 to 9
touches any of it. -/
structure HostSide where
  pending : List Instr
  free : Nat
  straps : BitVec 2
  cause : ResetCause
  rx : Receiver
  inbound : List Request
  handler : Handler
  outbound : List Reply
  tx : Transmitter
  mask : NoticeMask
  faults : BitVec 32
  settings : LineSettings
  pendingLen : Nat
  expected : List Expected
  barred : List Serial
  mode : AdmissionMode
  poolLow : Nat
  poolHigh : Nat
  openProfile : ProfileNo
  profiles : Bank Profile 8
  windowCode : Fin 4
  stepCode : Fin 3
  curve : Bank Int 33

/-- The host's side of a state. -/
def State.hostSide (s : State) : HostSide :=
  { pending := s.pending, free := s.free, straps := s.link.straps, cause := s.link.cause, rx := s.link.rx,
    inbound := s.link.inbound, handler := s.link.handler, outbound := s.link.outbound, tx := s.link.tx,
    mask := s.link.mask, faults := s.link.faults, settings := s.line.settings, pendingLen := s.line.pendingLen,
    expected := s.roster.expected, barred := s.roster.barred, mode := s.roster.mode, poolLow := s.roster.poolLow,
    poolHigh := s.roster.poolHigh, openProfile := s.roster.openProfile, profiles := s.roster.profiles,
    windowCode := s.conv.windowCode, stepCode := s.conv.stepCode, curve := s.conv.curve }

/-- The Line Timer but for its line notice queue, which every poster writes. -/
def State.lineSide (s : State) : LineTimer := { s.line with notices := [] }

/-- A projection that each step of a fold keeps is kept by the fold. -/
theorem foldl_proj {α β : Type} (P : State → β) (f : State → α → State) (h : ∀ s x, P (f s x) = P s) (l : List α)
    (s : State) : P (l.foldl f s) = P s := by
  induction l generalizing s with
  | nil => rfl
  | cons x l ih => rw [List.foldl_cons, ih, h]

/-! ## The host's side -/

@[simp] theorem State.setTick_hostSide (s : State) (x : Tick) : (s.setTick x).hostSide = s.hostSide := rfl

@[simp] theorem State.setNotices_hostSide (s : State) (l : List LineNotice) :
    (s.setNotices l).hostSide = s.hostSide :=
  rfl

@[simp] theorem State.setHead_hostSide (s : State) (x : Option Head) : (s.setHead x).hostSide = s.hostSide := rfl

@[simp] theorem State.setCycle_hostSide (s : State) (x : Option Cycle) : (s.setCycle x).hostSide = s.hostSide := rfl

@[simp] theorem State.setWarmup_hostSide (s : State) (n : Nat) : (s.setWarmup n).hostSide = s.hostSide := rfl

@[simp] theorem State.setDrain_hostSide (s : State) (n : Nat) (inside : Bool) :
    (s.setDrain n inside).hostSide = s.hostSide :=
  rfl

@[simp] theorem State.setEnable_hostSide (s : State) (b : Bool) : (s.setEnable b).hostSide = s.hostSide := rfl

@[simp] theorem State.setAdmissionQueue_hostSide (s : State) (l : List Tag) :
    (s.setAdmissionQueue l).hostSide = s.hostSide :=
  rfl

@[simp] theorem State.setStrangers_hostSide (s : State) (l : List Stranger) :
    (s.setStrangers l).hostSide = s.hostSide :=
  rfl

@[simp] theorem State.setOverflowed_hostSide (s : State) : (s.setOverflowed).hostSide = s.hostSide := rfl

@[simp] theorem State.setWaiting_hostSide (s : State) (l : List LineNotice) :
    (s.setWaiting l).hostSide = s.hostSide :=
  rfl

@[simp] theorem State.setCensus_hostSide (s : State) (c : Census) : (s.setCensus c).hostSide = s.hostSide := rfl

@[simp] theorem State.setShots_hostSide (s : State) (l : List OneShot) : (s.setShots l).hostSide = s.hostSide := rfl

@[simp] theorem State.setSlotWanted_hostSide (s : State) (b : Bool) : (s.setSlotWanted b).hostSide = s.hostSide := rfl

@[simp] theorem State.setOverruns_hostSide (s : State) (n : Nat) (c : CycleNo) :
    (s.setOverruns n c).hostSide = s.hostSide :=
  rfl

@[simp] theorem State.setSweep_hostSide (s : State) (n : Nat) : (s.setSweep n).hostSide = s.hostSide := rfl

@[simp] theorem State.setBuilt_hostSide (s : State) (p : Option Plan) : (s.setBuilt p).hostSide = s.hostSide := rfl

@[simp] theorem State.setFramerPlan_hostSide (s : State) (p : Plan) : (s.setFramerPlan p).hostSide = s.hostSide := rfl

@[simp] theorem State.setStore_hostSide (s : State) (l : List StoredPlan) : (s.setStore l).hostSide = s.hostSide :=
  rfl

@[simp] theorem State.countStray_hostSide (s : State) : (s.countStray).hostSide = s.hostSide := rfl

@[simp] theorem State.setLanes_hostSide (s : State) (b : Bank Lane 8) : (s.setLanes b).hostSide = s.hostSide := rfl

@[simp] theorem State.bumpSeizure_hostSide (s : State) (i : LaneNo) : (s.bumpSeizure i).hostSide = s.hostSide := rfl

@[simp] theorem State.setSup_hostSide (s : State) (b : Bank SupEntry 128) : (s.setSup b).hostSide = s.hostSide := rfl

@[simp] theorem State.updSup_hostSide (s : State) (t : Tag) (f : SupEntry → SupEntry) :
    (s.updSup t f).hostSide = s.hostSide :=
  rfl

@[simp] theorem State.setConvState_hostSide (s : State) (x : ConvState) : (s.setConvState x).hostSide = s.hostSide :=
  rfl

@[simp] theorem State.setCalib_hostSide (s : State) (c : Option Calibration) : (s.setCalib c).hostSide = s.hostSide :=
  rfl

@[simp] theorem State.setOffset_hostSide (s : State) (v : Int) : (s.setOffset v).hostSide = s.hostSide := rfl

@[simp] theorem State.countRefused_hostSide (s : State) : (s.countRefused).hostSide = s.hostSide := rfl

@[simp] theorem State.raiseLine_hostSide (s : State) : (s.raiseLine).hostSide = s.hostSide := rfl

@[simp] theorem State.raiseCalibration_hostSide (s : State) : (s.raiseCalibration).hostSide = s.hostSide := rfl

@[simp] theorem State.raiseCensus_hostSide (s : State) : (s.raiseCensus).hostSide = s.hostSide := rfl

@[simp] theorem State.raisePlan_hostSide (s : State) : (s.raisePlan).hostSide = s.hostSide := rfl

@[simp] theorem State.noteChange_hostSide (s : State) (t : Tag) : (s.noteChange t).hostSide = s.hostSide := rfl

@[simp] theorem State.putTerm_hostSide (s : State) (t : Tag) (h : Option Terminal) :
    (s.putTerm t h).hostSide = s.hostSide :=
  rfl

@[simp] theorem State.changeTerm_hostSide (s : State) (t : Tag) (h : Option Terminal) :
    (s.changeTerm t h).hostSide = s.hostSide := by
  unfold State.changeTerm; split <;> simp

@[simp] theorem State.enterLine_hostSide (s : State) (new : LineState) : (s.enterLine new).hostSide = s.hostSide :=
  rfl

@[simp] theorem State.queueNotice_hostSide (s : State) (n : LineNotice) :
    (s.queueNotice n).hostSide = s.hostSide := by
  unfold State.queueNotice; split <;> simp

@[simp] theorem State.queueShot_hostSide (s : State) (e : OneShot) : (s.queueShot e).hostSide = s.hostSide := by
  unfold State.queueShot; split <;> simp

@[simp] theorem State.rosterPost_hostSide (s : State) (body : NoticeBody) :
    (s.rosterPost body).hostSide = s.hostSide := by
  unfold State.rosterPost; split <;> simp

@[simp] theorem State.standDown_hostSide (s : State) (t : Tag) (reason : Reason) :
    (s.standDown t reason).hostSide = s.hostSide := by
  simp [State.standDown]

@[simp] theorem State.setWork_hostSide (s : State) (i : LaneNo) (w : Option LaneWork) :
    (s.setWork i w).hostSide = s.hostSide :=
  rfl

@[simp] theorem State.lanePostNotice_hostSide (s : State) (i : LaneNo) (w : LaneWork) (body : NoticeBody) :
    (s.lanePostNotice i w body).hostSide = s.hostSide := by
  simp [State.lanePostNotice]

@[simp] theorem State.lanePostShot_hostSide (s : State) (i : LaneNo) (w : LaneWork) (e : OneShot) :
    (s.lanePostShot i w e).hostSide = s.hostSide := by
  simp [State.lanePostShot]

@[simp] theorem State.freeLane_hostSide (s : State) (i : LaneNo) : (s.freeLane i).hostSide = s.hostSide := rfl

@[simp] theorem State.supDrop_hostSide (s : State) (t : Tag) : (s.supDrop t).hostSide = s.hostSide := rfl
@[simp] theorem State.withdrawReturn_hostSide (s : State) (t : Tag) : (s.withdrawReturn t).hostSide = s.hostSide := rfl

@[simp] theorem State.hushLong_hostSide (s : State) (serial : Serial) :
    (s.hushLong serial).hostSide = s.hostSide := by
  simp [State.hushLong]

@[simp] theorem State.refuseStranger_hostSide (s : State) (serial : Serial) (reason : StrangerReason) :
    (s.refuseStranger serial reason).hostSide = s.hostSide := by
  unfold State.refuseStranger; split <;> (try split) <;> simp

@[simp] theorem State.enroll_hostSide (s : State) (t : Tag) (serial : Serial) (listed : Bool) (profile : ProfileNo) (coarse : Int) :
    (s.enroll t serial listed profile coarse).hostSide = s.hostSide := by
  simp [State.enroll]

@[simp] theorem State.hearNew_hostSide (s : State) (serial : Serial) (coarse : Int) :
    (s.hearNew serial coarse).1.hostSide = s.hostSide := by
  unfold State.hearNew; dsimp only; (repeat' split) <;> simp

@[simp] theorem State.readmit_hostSide (s : State) (t : Tag) (h : Terminal) (coarse : Int) :
    (s.readmit t h coarse).hostSide = s.hostSide := by
  simp [State.readmit]

@[simp] theorem State.hearHeld_hostSide (s : State) (t : Tag) (h : Terminal) (coarse : Int) :
    (s.hearHeld t h coarse).1.hostSide = s.hostSide := by
  unfold State.hearHeld; (repeat' split) <;> simp

@[simp] theorem State.hear_hostSide (s : State) (serial : Serial) (coarse : Int) :
    (s.hear serial coarse).1.hostSide = s.hostSide := by
  unfold State.hear; (repeat' split) <;> simp

@[simp] theorem State.parkRecord_hostSide (s : State) (t : Tag) (h : Terminal) (reason : Reason) (hold : Nat) :
    (s.parkRecord t h reason hold).hostSide = s.hostSide := by
  simp [State.parkRecord]

@[simp] theorem State.detach_hostSide (s : State) (t : Tag) (h : Terminal) :
    (s.detach t h).hostSide = s.hostSide := by
  unfold State.detach; split <;> simp

@[simp] theorem State.freeRecord_hostSide (s : State) (t : Tag) (h : Terminal) :
    (s.freeRecord t h).hostSide = s.hostSide := by
  simp [State.freeRecord]

@[simp] theorem State.laneFail_hostSide (s : State) (i : LaneNo) (w : LaneWork) (reason : Reason) :
    (s.laneFail i w reason).hostSide = s.hostSide := by
  unfold State.laneFail; dsimp only; (repeat' split) <;> simp

@[simp] theorem State.laneComplete_hostSide (s : State) (i : LaneNo) (w : LaneWork) :
    (s.laneComplete i w).hostSide = s.hostSide := by
  unfold State.laneComplete; dsimp only; (repeat' split) <;> simp

@[simp] theorem State.seize_hostSide (s : State) (i : LaneNo) : (s.seize i).hostSide = s.hostSide := by
  unfold State.seize; dsimp only; (repeat' split) <;> simp

@[simp] theorem State.seizeAll_hostSide (s : State) : (s.seizeAll).hostSide = s.hostSide :=
  foldl_proj _ _ (fun s x => by simp) _ _

@[simp] theorem State.laneDeparture_hostSide (s : State) (carried : List LineNotice) (i : LaneNo) :
    (s.laneDeparture carried i).hostSide = s.hostSide := by
  unfold State.laneDeparture; (repeat' split) <;> simp

@[simp] theorem State.laneRepostNotice_hostSide (s : State) (i : LaneNo) :
    (s.laneRepostNotice i).hostSide = s.hostSide := by
  unfold State.laneRepostNotice; split <;> (try split) <;> simp

@[simp] theorem State.laneRepostShot_hostSide (s : State) (i : LaneNo) :
    (s.laneRepostShot i).hostSide = s.hostSide := by
  unfold State.laneRepostShot; split <;> (try split) <;> simp

@[simp] theorem State.lanePlaced_hostSide (s : State) (i : LaneNo) (cycle : CycleNo) (kind : GrantKind) :
    (s.lanePlaced i cycle kind).hostSide = s.hostSide := by
  unfold State.lanePlaced; split <;> (try split) <;> simp

@[simp] theorem State.postProbe_hostSide (s : State) (i : LaneNo) (w : LaneWork) (p : ProbeWork) :
    (s.postProbe i w p).hostSide = s.hostSide := by
  simp [State.postProbe]

@[simp] theorem State.enterProbe_hostSide (s : State) (i : LaneNo) (w : LaneWork) :
    (s.enterProbe i w).hostSide = s.hostSide := by
  simp [State.enterProbe]

@[simp] theorem State.laneCompute_hostSide (s : State) (i : LaneNo) (w : LaneWork) (p : ProbeWork) :
    (s.laneCompute i w p).hostSide = s.hostSide := by
  unfold State.laneCompute; dsimp only; (repeat' split) <;> simp

@[simp] theorem State.probeGoOn_hostSide (s : State) (i : LaneNo) (w : LaneWork) (p : ProbeWork) :
    (s.probeGoOn i w p).hostSide = s.hostSide := by
  unfold State.probeGoOn; split <;> (try split) <;> simp

@[simp] theorem State.probeFailure_hostSide (s : State) (i : LaneNo) (w : LaneWork) (p : ProbeWork) (kind : FailKind) :
    (s.probeFailure i w p kind).hostSide = s.hostSide := by
  unfold State.probeFailure; dsimp only; (repeat' split) <;> simp

@[simp] theorem State.settleProbe_hostSide (s : State) (i : LaneNo) (w : LaneWork) (p : ProbeWork) (held : HeldGrant) (outcome : CloseOutcome) :
    (s.settleProbe i w p held outcome).hostSide = s.hostSide := by
  unfold State.settleProbe; dsimp only; (repeat' split) <;> simp

@[simp] theorem State.offerFailure_hostSide (s : State) (i : LaneNo) (w : LaneWork) (attempts : Nat) (kind : FailKind) :
    (s.offerFailure i w attempts kind).hostSide = s.hostSide := by
  unfold State.offerFailure; dsimp only; (repeat' split) <;> simp

@[simp] theorem State.settleOffer_hostSide (s : State) (i : LaneNo) (w : LaneWork) (attempts : Nat) (held : HeldGrant) (outcome : CloseOutcome) :
    (s.settleOffer i w attempts held outcome).hostSide = s.hostSide := by
  unfold State.settleOffer; dsimp only; (repeat' split) <;> simp

@[simp] theorem State.trimFailure_hostSide (s : State) (i : LaneNo) (w : LaneWork) (attempts : Nat) (last : Option SettledTrim) (kind : FailKind) :
    (s.trimFailure i w attempts last kind).hostSide = s.hostSide := by
  unfold State.trimFailure; dsimp only; (repeat' split) <;> simp

@[simp] theorem State.settleTrim_hostSide (s : State) (i : LaneNo) (w : LaneWork) (attempts : Nat) (cycle : CycleNo) (held : HeldGrant) (outcome : CloseOutcome) :
    (s.settleTrim i w attempts cycle held outcome).hostSide = s.hostSide := by
  unfold State.settleTrim; split <;> (try split) <;> simp

@[simp] theorem State.settleIfDue_hostSide (s : State) (i : LaneNo) (w : LaneWork) (cycle : CycleNo) (held : HeldGrant) :
    (s.settleIfDue i w cycle held).hostSide = s.hostSide := by
  unfold State.settleIfDue; (repeat' split) <;> simp

@[simp] theorem State.laneBurst_hostSide (s : State) (i : LaneNo) (t : Tag) (r : BurstResult) :
    (s.laneBurst i t r).hostSide = s.hostSide := by
  unfold State.laneBurst; (repeat' split) <;> simp

@[simp] theorem State.laneClose_hostSide (s : State) (i : LaneNo) (t : Tag) (cycle : CycleNo) (kind : GrantKind) (outcome : CloseOutcome) :
    (s.laneClose i t cycle kind outcome).hostSide = s.hostSide := by
  unfold State.laneClose; split <;> simp

@[simp] theorem State.laneCapture_hostSide (s : State) (i : LaneNo) (t : Tag) (cycle : CycleNo) (answer : CaptureAnswer) :
    (s.laneCapture i t cycle answer).hostSide = s.hostSide := by
  unfold State.laneCapture; split <;> (try split) <;> simp

@[simp] theorem State.laneSighting_hostSide (s : State) (i : LaneNo) (t : Tag) (cycle : CycleNo) :
    (s.laneSighting i t cycle).hostSide = s.hostSide := by
  unfold State.laneSighting; (repeat' split) <;> simp

@[simp] theorem State.parkPowerLoss_hostSide (s : State) (t : Tag) (h : Terminal) :
    (s.parkPowerLoss t h).hostSide = s.hostSide := by
  simp [State.parkPowerLoss]

@[simp] theorem State.parkLost_hostSide (s : State) (t : Tag) (h : Terminal) : (s.parkLost t h).hostSide = s.hostSide := by
  simp [State.parkLost]

@[simp] theorem State.postNudge_hostSide (s : State) (t : Tag) (delta : Int) :
    (s.postNudge t delta).hostSide = s.hostSide := by
  unfold State.postNudge; split <;> simp

@[simp] theorem State.repostNudge_hostSide (s : State) (t : Tag) : (s.repostNudge t).hostSide = s.hostSide := by
  unfold State.repostNudge; split <;> simp

@[simp] theorem State.nudgeDeparture_hostSide (s : State) (cycle : CycleNo) (t : Tag) :
    (s.nudgeDeparture cycle t).hostSide = s.hostSide := by
  unfold State.nudgeDeparture; split <;> (try split) <;> simp

@[simp] theorem State.standingMiss_hostSide (s : State) (t : Tag) (h : Terminal) (svc : Service) :
    (s.standingMiss t h svc).hostSide = s.hostSide := by
  simp [State.standingMiss]

@[simp] theorem State.standingClean_hostSide (s : State) (t : Tag) (h : Terminal) (svc : Service) (r : BurstResult) :
    (s.standingClean t h svc r).hostSide = s.hostSide := by
  unfold State.standingClean; dsimp only; (repeat' split) <;> simp

@[simp] theorem State.standingClose_hostSide (s : State) (t : Tag) (outcome : CloseOutcome) :
    (s.standingClose t outcome).hostSide = s.hostSide := by
  unfold State.standingClose; dsimp only; (repeat' split) <;> simp

@[simp] theorem State.returnClean_hostSide (s : State) (t : Tag) (h : Terminal) (svc : Service) :
    (s.returnClean t h svc).hostSide = s.hostSide := by
  simp [State.returnClean]

@[simp] theorem State.supBurst_hostSide (s : State) (t : Tag) (r : BurstResult) :
    (s.supBurst t r).hostSide = s.hostSide := by
  unfold State.supBurst; (repeat' split) <;> simp

@[simp] theorem State.returnPlaced_hostSide (s : State) (t : Tag) : (s.returnPlaced t).hostSide = s.hostSide := by
  unfold State.returnPlaced; (repeat' split) <;> simp

@[simp] theorem State.supCapture_hostSide (s : State) (t : Tag) (answer : CaptureAnswer) :
    (s.supCapture t answer).hostSide = s.hostSide := by
  unfold State.supCapture; split <;> (try split) <;> simp

@[simp] theorem State.postReturn_hostSide (s : State) (t : Tag) : (s.postReturn t).hostSide = s.hostSide := by
  unfold State.postReturn; split <;> simp

@[simp] theorem State.repostReturn_hostSide (s : State) (t : Tag) : (s.repostReturn t).hostSide = s.hostSide := by
  unfold State.repostReturn; split <;> simp

@[simp] theorem State.graceTick_hostSide (s : State) (t : Tag) : (s.graceTick t).hostSide = s.hostSide := by
  unfold State.graceTick; dsimp only; (repeat' split) <;> simp

@[simp] theorem State.returnDue_hostSide (s : State) (t : Tag) : (s.returnDue t).hostSide = s.hostSide := by
  unfold State.returnDue; (repeat' split) <;> simp

@[simp] theorem State.answerCapture_hostSide (s : State) (owner : Owner) (t : Tag) (cycle : CycleNo) (answer : CaptureAnswer) :
    (s.answerCapture owner t cycle answer).hostSide = s.hostSide := by
  unfold State.answerCapture; split <;> simp

@[simp] theorem State.refuseCapture_hostSide (s : State) (owner : Owner) (t : Tag) (cycle : CycleNo) :
    (s.refuseCapture owner t cycle).hostSide = s.hostSide := by
  simp [State.refuseCapture]

@[simp] theorem State.requestCapture_hostSide (s : State) (owner : Owner) (t : Tag) (cycle : CycleNo) (begun : Tick) :
    (s.requestCapture owner t cycle begun).hostSide = s.hostSide := by
  unfold State.requestCapture; dsimp only; (repeat' split) <;> simp

@[simp] theorem State.endCalibration_hostSide (s : State) (result : CalibResult) :
    (s.endCalibration result).hostSide = s.hostSide :=
  rfl

@[simp] theorem State.failCalibration_hostSide (s : State) (c : Calibration) (cause : CalibCause) :
    (s.failCalibration c cause).hostSide = s.hostSide :=
  rfl

@[simp] theorem State.failAttempt_hostSide (s : State) (c : Calibration) (cause : CalibCause) :
    (s.failAttempt c cause).hostSide = s.hostSide := by
  unfold State.failAttempt; split <;> simp

@[simp] theorem State.succeedAttempt_hostSide (s : State) (c : Calibration) (code : BitVec 12) :
    (s.succeedAttempt c code).hostSide = s.hostSide :=
  rfl

@[simp] theorem State.intrude_hostSide (s : State) (cycle : CycleNo) : (s.intrude cycle).hostSide = s.hostSide := by
  unfold State.intrude; (repeat' split) <;> simp

@[simp] theorem State.calibFrameEnd_hostSide (s : State) (cycle : CycleNo) :
    (s.calibFrameEnd cycle).hostSide = s.hostSide := by
  unfold State.calibFrameEnd; (repeat' split) <;> simp

@[simp] theorem State.issueSlot_hostSide (s : State) (cycle : CycleNo) (start : Tick) (slot : Option Slot) :
    (s.issueSlot cycle start slot).hostSide = s.hostSide := by
  unfold State.issueSlot; split <;> (try split) <;> simp

@[simp] theorem State.holdDarkCode_hostSide (s : State) (code : BitVec 12) :
    (s.holdDarkCode code).hostSide = s.hostSide := by
  unfold State.holdDarkCode; split <;> (try split) <;> simp

@[simp] theorem State.converterLineDown_hostSide (s : State) : (s.converterLineDown).hostSide = s.hostSide := by
  unfold State.converterLineDown; dsimp only; (repeat' split) <;> simp

@[simp] theorem State.candidate_hostSide (s : State) (serial : Serial) (p gapStart : Nat) :
    (s.candidate serial p gapStart).hostSide = s.hostSide := by
  simp [State.candidate]

@[simp] theorem State.endPass_hostSide (s : State) (kind : PassEnd) (cycle : CycleNo) :
    (s.endPass kind cycle).hostSide = s.hostSide :=
  rfl

@[simp] theorem State.testPassEnd_hostSide (s : State) : (s.testPassEnd).hostSide = s.hostSide := by
  unfold State.testPassEnd; dsimp only; (repeat' split) <;> simp

@[simp] theorem State.countGarbled_hostSide (s : State) (garble : Bool) :
    (s.countGarbled garble).hostSide = s.hostSide := by
  unfold State.countGarbled; split <;> simp

@[simp] theorem State.finishNode_hostSide (s : State) : (s.finishNode).hostSide = s.hostSide := rfl

@[simp] theorem State.splitNode_hostSide (s : State) (o : Outstanding) : (s.splitNode o).hostSide = s.hostSide := by
  unfold State.splitNode; split <;> simp

@[simp] theorem State.censusClose_hostSide (s : State) (garble : Bool) :
    (s.censusClose garble).hostSide = s.hostSide := by
  unfold State.censusClose; dsimp only; (repeat' split) <;> simp

@[simp] theorem State.haltCensus_hostSide (s : State) (kind : PassEnd) (cycle : CycleNo) :
    (s.haltCensus kind cycle).hostSide = s.hostSide :=
  rfl

@[simp] theorem State.censusLineDown_hostSide (s : State) : (s.censusLineDown).hostSide = s.hostSide := by
  unfold State.censusLineDown; split <;> simp

@[simp] theorem State.updatePlan_hostSide (s : State) (k : Nat) (f : StoredPlan → StoredPlan) :
    (s.updatePlan k f).hostSide = s.hostSide :=
  rfl

@[simp] theorem State.deliverBurst_hostSide (s : State) (g : Grant) (r : BurstResult) :
    (s.deliverBurst g r).hostSide = s.hostSide := by
  unfold State.deliverBurst; split <;> simp

@[simp] theorem State.deliverClose_hostSide (s : State) (g : Grant) (cycle : CycleNo) (garble : Bool) (outcome : CloseOutcome) :
    (s.deliverClose g cycle garble outcome).hostSide = s.hostSide := by
  unfold State.deliverClose; split <;> (try split) <;> simp

@[simp] theorem State.deliverSighting_hostSide (s : State) (g : Grant) (cycle : CycleNo) :
    (s.deliverSighting g cycle).hostSide = s.hostSide := by
  unfold State.deliverSighting; split <;> simp

@[simp] theorem State.sight_hostSide (s : State) (k : Nat) (plan : StoredPlan) (r : Report) :
    (s.sight k plan r).hostSide = s.hostSide := by
  unfold State.sight; (repeat' split) <;> simp

@[simp] theorem State.stray_hostSide (s : State) (k : Nat) (plan : StoredPlan) (r : Report) :
    (s.stray k plan r).hostSide = s.hostSide := by
  simp [State.stray]

@[simp] theorem State.censusBurst_hostSide (s : State) (k j : Nat) (plan : StoredPlan) (g : Grant) (r : Report) (p : Nat) :
    (s.censusBurst k j plan g r p).hostSide = s.hostSide := by
  unfold State.censusBurst; (repeat' split) <;> simp

@[simp] theorem State.matchBurst_hostSide (s : State) (k j : Nat) (plan : StoredPlan) (g : Grant) (r : Report) (p : Nat) :
    (s.matchBurst k j plan g r p).hostSide = s.hostSide := by
  unfold State.matchBurst; dsimp only; (repeat' split) <;> simp

@[simp] theorem State.placeBurst_hostSide (s : State) (k : Nat) (plan : StoredPlan) (r : Report) (p : Nat) :
    (s.placeBurst k plan r p).hostSide = s.hostSide := by
  unfold State.placeBurst; (repeat' split) <;> simp

@[simp] theorem State.judge_hostSide (s : State) (r : Report) : (s.judge r).hostSide = s.hostSide := by
  unfold State.judge; dsimp only; (repeat' split) <;> simp

@[simp] theorem State.closeNext_hostSide (s : State) : (s.closeNext).hostSide = s.hostSide := by
  unfold State.closeNext; (repeat' split) <;> simp

@[simp] theorem State.closeMany_hostSide (n : Nat) (s : State) : (s.closeMany n).hostSide = s.hostSide := by
  induction n generalizing s with
  | zero => rfl
  | succ n ih => rw [State.closeMany, ih, State.closeNext_hostSide]

@[simp] theorem State.endFrame_hostSide (s : State) : (s.endFrame).hostSide = s.hostSide := by
  unfold State.endFrame; split <;> simp

@[simp] theorem State.tellPlaced_hostSide (cycle : CycleNo) (s : State) (e : OneShot) :
    (s.tellPlaced cycle e).hostSide = s.hostSide := by
  unfold State.tellPlaced; split <;> simp

@[simp] theorem State.placeGap_hostSide (s : State) (cycle : CycleNo) (len : Nat) (p : Placing) :
    (s.placeGap cycle len p).1.hostSide = s.hostSide := by
  unfold State.placeGap; dsimp only; (repeat' split) <;> simp

@[simp] theorem State.placeSlot_hostSide (s : State) (len : Nat) (p : Placing) :
    (s.placeSlot len p).1.hostSide = s.hostSide := by
  unfold State.placeSlot; dsimp only; (repeat' split) <;> simp

@[simp] theorem State.countOverrun_hostSide (s : State) (cycle : CycleNo) (skipped : Bool) :
    (s.countOverrun cycle skipped).hostSide = s.hostSide := by
  unfold State.countOverrun; split <;> simp

@[simp] theorem State.repostShots_hostSide (s : State) : (s.repostShots).hostSide = s.hostSide := by
  simp [State.repostShots, foldl_proj]

@[simp] theorem State.buildPlan_hostSide (s : State) (cycle : CycleNo) (len : Nat) :
    (s.buildPlan cycle len).hostSide = s.hostSide := by
  simp [State.buildPlan, foldl_proj]

@[simp] theorem State.setNext_hostSide (s : State) (head : Option Head) (built : Option Plan) :
    (s.setNext head built).hostSide = s.hostSide :=
  rfl

@[simp] theorem State.closeRunning_hostSide (s : State) (cycle : CycleNo) (len : Nat) :
    (s.closeRunning cycle len).hostSide = s.hostSide := by
  simp [State.closeRunning]

@[simp] theorem State.closePlan_hostSide (s : State) : (s.closePlan).hostSide = s.hostSide := by
  unfold State.closePlan; (repeat' split) <;> simp

@[simp] theorem State.issuePlan_hostSide (s : State) (p : Plan) (start : Tick) :
    (s.issuePlan p start).hostSide = s.hostSide := by
  simp [State.issuePlan]

@[simp] theorem State.sendHead_hostSide (s : State) (h : Head) : (s.sendHead h).hostSide = s.hostSide := rfl

@[simp] theorem State.departures_hostSide (s : State) (carried : List LineNotice) :
    (s.departures carried).hostSide = s.hostSide := by
  simp [State.departures, foldl_proj]

@[simp] theorem State.countdowns_hostSide (s : State) : (s.countdowns).hostSide = s.hostSide := rfl

@[simp] theorem State.repostRoster_hostSide (s : State) : (s.repostRoster).hostSide = s.hostSide :=
  foldl_proj _ _ (fun s x => by simp) _ _

@[simp] theorem State.cycleStartPostings_hostSide (s : State) : (s.cycleStartPostings).hostSide = s.hostSide := by
  simp [State.cycleStartPostings, foldl_proj]

@[simp] theorem State.advanceCycle_hostSide (s : State) (c : Cycle) (len : Nat) :
    (s.advanceCycle c len).hostSide = s.hostSide := by
  unfold State.advanceCycle; dsimp only; (repeat' split) <;> simp

@[simp] theorem State.startCycle_hostSide (s : State) : (s.startCycle).hostSide = s.hostSide := by
  unfold State.startCycle; dsimp only; (repeat' split) <;> simp

@[simp] theorem State.light_hostSide (s : State) (now : Tick) : (s.light now).hostSide = s.hostSide := by
  simp [State.light]

@[simp] theorem State.goDark_hostSide (s : State) : (s.goDark).hostSide = s.hostSide := rfl

@[simp] theorem State.lineDownRecord_hostSide (s : State) (t : Tag) : (s.lineDownRecord t).hostSide = s.hostSide := by
  unfold State.lineDownRecord; split <;> (try split) <;> simp

@[simp] theorem State.lineDown_hostSide (s : State) : (s.lineDown).hostSide = s.hostSide := by
  simp [State.lineDown, foldl_proj]

@[simp] theorem State.enterDraining_hostSide (s : State) : (s.enterDraining).hostSide = s.hostSide := by
  unfold State.enterDraining; (repeat' split) <;> simp

@[simp] theorem State.darken_hostSide (s : State) : (s.darken).hostSide = s.hostSide := by
  unfold State.darken; split <;> simp

@[simp] theorem State.endDraining_hostSide (s : State) : (s.endDraining).hostSide = s.hostSide := by
  unfold State.endDraining; split <;> (try split) <;> simp

/-! ## The Line Timer but for its notices -/

@[simp] theorem State.setNotices_lineSide (s : State) (l : List LineNotice) :
    (s.setNotices l).lineSide = s.lineSide :=
  rfl

@[simp] theorem State.setAdmissionQueue_lineSide (s : State) (l : List Tag) :
    (s.setAdmissionQueue l).lineSide = s.lineSide :=
  rfl

@[simp] theorem State.setStrangers_lineSide (s : State) (l : List Stranger) :
    (s.setStrangers l).lineSide = s.lineSide :=
  rfl

@[simp] theorem State.setOverflowed_lineSide (s : State) : (s.setOverflowed).lineSide = s.lineSide := rfl

@[simp] theorem State.setWaiting_lineSide (s : State) (l : List LineNotice) :
    (s.setWaiting l).lineSide = s.lineSide :=
  rfl

@[simp] theorem State.setCensus_lineSide (s : State) (c : Census) : (s.setCensus c).lineSide = s.lineSide := rfl

@[simp] theorem State.setShots_lineSide (s : State) (l : List OneShot) : (s.setShots l).lineSide = s.lineSide := rfl

@[simp] theorem State.setSlotWanted_lineSide (s : State) (b : Bool) : (s.setSlotWanted b).lineSide = s.lineSide := rfl

@[simp] theorem State.setOverruns_lineSide (s : State) (n : Nat) (c : CycleNo) :
    (s.setOverruns n c).lineSide = s.lineSide :=
  rfl

@[simp] theorem State.setSweep_lineSide (s : State) (n : Nat) : (s.setSweep n).lineSide = s.lineSide := rfl

@[simp] theorem State.setBuilt_lineSide (s : State) (p : Option Plan) : (s.setBuilt p).lineSide = s.lineSide := rfl

@[simp] theorem State.setFramerPlan_lineSide (s : State) (p : Plan) : (s.setFramerPlan p).lineSide = s.lineSide := rfl

@[simp] theorem State.setStore_lineSide (s : State) (l : List StoredPlan) : (s.setStore l).lineSide = s.lineSide :=
  rfl

@[simp] theorem State.countStray_lineSide (s : State) : (s.countStray).lineSide = s.lineSide := rfl

@[simp] theorem State.setLanes_lineSide (s : State) (b : Bank Lane 8) : (s.setLanes b).lineSide = s.lineSide := rfl

@[simp] theorem State.bumpSeizure_lineSide (s : State) (i : LaneNo) : (s.bumpSeizure i).lineSide = s.lineSide := rfl

@[simp] theorem State.setSup_lineSide (s : State) (b : Bank SupEntry 128) : (s.setSup b).lineSide = s.lineSide := rfl

@[simp] theorem State.updSup_lineSide (s : State) (t : Tag) (f : SupEntry → SupEntry) :
    (s.updSup t f).lineSide = s.lineSide :=
  rfl

@[simp] theorem State.setConvState_lineSide (s : State) (x : ConvState) : (s.setConvState x).lineSide = s.lineSide :=
  rfl

@[simp] theorem State.setCalib_lineSide (s : State) (c : Option Calibration) : (s.setCalib c).lineSide = s.lineSide :=
  rfl

@[simp] theorem State.setOffset_lineSide (s : State) (v : Int) : (s.setOffset v).lineSide = s.lineSide := rfl

@[simp] theorem State.countRefused_lineSide (s : State) : (s.countRefused).lineSide = s.lineSide := rfl

@[simp] theorem State.raiseLine_lineSide (s : State) : (s.raiseLine).lineSide = s.lineSide := rfl

@[simp] theorem State.raiseCalibration_lineSide (s : State) : (s.raiseCalibration).lineSide = s.lineSide := rfl

@[simp] theorem State.raiseCensus_lineSide (s : State) : (s.raiseCensus).lineSide = s.lineSide := rfl

@[simp] theorem State.raisePlan_lineSide (s : State) : (s.raisePlan).lineSide = s.lineSide := rfl

@[simp] theorem State.noteChange_lineSide (s : State) (t : Tag) : (s.noteChange t).lineSide = s.lineSide := rfl

@[simp] theorem State.putTerm_lineSide (s : State) (t : Tag) (h : Option Terminal) :
    (s.putTerm t h).lineSide = s.lineSide :=
  rfl

@[simp] theorem State.changeTerm_lineSide (s : State) (t : Tag) (h : Option Terminal) :
    (s.changeTerm t h).lineSide = s.lineSide := by
  unfold State.changeTerm; split <;> simp

@[simp] theorem State.queueNotice_lineSide (s : State) (n : LineNotice) :
    (s.queueNotice n).lineSide = s.lineSide := by
  unfold State.queueNotice; split <;> simp

@[simp] theorem State.queueShot_lineSide (s : State) (e : OneShot) : (s.queueShot e).lineSide = s.lineSide := by
  unfold State.queueShot; split <;> simp

@[simp] theorem State.rosterPost_lineSide (s : State) (body : NoticeBody) :
    (s.rosterPost body).lineSide = s.lineSide := by
  unfold State.rosterPost; split <;> simp

@[simp] theorem State.standDown_lineSide (s : State) (t : Tag) (reason : Reason) :
    (s.standDown t reason).lineSide = s.lineSide := by
  simp [State.standDown]

@[simp] theorem State.setWork_lineSide (s : State) (i : LaneNo) (w : Option LaneWork) :
    (s.setWork i w).lineSide = s.lineSide :=
  rfl

@[simp] theorem State.lanePostNotice_lineSide (s : State) (i : LaneNo) (w : LaneWork) (body : NoticeBody) :
    (s.lanePostNotice i w body).lineSide = s.lineSide := by
  simp [State.lanePostNotice]

@[simp] theorem State.lanePostShot_lineSide (s : State) (i : LaneNo) (w : LaneWork) (e : OneShot) :
    (s.lanePostShot i w e).lineSide = s.lineSide := by
  simp [State.lanePostShot]

@[simp] theorem State.freeLane_lineSide (s : State) (i : LaneNo) : (s.freeLane i).lineSide = s.lineSide := rfl

@[simp] theorem State.supDrop_lineSide (s : State) (t : Tag) : (s.supDrop t).lineSide = s.lineSide := rfl
@[simp] theorem State.withdrawReturn_lineSide (s : State) (t : Tag) : (s.withdrawReturn t).lineSide = s.lineSide := rfl

@[simp] theorem State.hushLong_lineSide (s : State) (serial : Serial) :
    (s.hushLong serial).lineSide = s.lineSide := by
  simp [State.hushLong]

@[simp] theorem State.refuseStranger_lineSide (s : State) (serial : Serial) (reason : StrangerReason) :
    (s.refuseStranger serial reason).lineSide = s.lineSide := by
  unfold State.refuseStranger; split <;> (try split) <;> simp

@[simp] theorem State.enroll_lineSide (s : State) (t : Tag) (serial : Serial) (listed : Bool) (profile : ProfileNo) (coarse : Int) :
    (s.enroll t serial listed profile coarse).lineSide = s.lineSide := by
  simp [State.enroll]

@[simp] theorem State.hearNew_lineSide (s : State) (serial : Serial) (coarse : Int) :
    (s.hearNew serial coarse).1.lineSide = s.lineSide := by
  unfold State.hearNew; dsimp only; (repeat' split) <;> simp

@[simp] theorem State.readmit_lineSide (s : State) (t : Tag) (h : Terminal) (coarse : Int) :
    (s.readmit t h coarse).lineSide = s.lineSide := by
  simp [State.readmit]

@[simp] theorem State.hearHeld_lineSide (s : State) (t : Tag) (h : Terminal) (coarse : Int) :
    (s.hearHeld t h coarse).1.lineSide = s.lineSide := by
  unfold State.hearHeld; (repeat' split) <;> simp

@[simp] theorem State.hear_lineSide (s : State) (serial : Serial) (coarse : Int) :
    (s.hear serial coarse).1.lineSide = s.lineSide := by
  unfold State.hear; (repeat' split) <;> simp

@[simp] theorem State.parkRecord_lineSide (s : State) (t : Tag) (h : Terminal) (reason : Reason) (hold : Nat) :
    (s.parkRecord t h reason hold).lineSide = s.lineSide := by
  simp [State.parkRecord]

@[simp] theorem State.detach_lineSide (s : State) (t : Tag) (h : Terminal) :
    (s.detach t h).lineSide = s.lineSide := by
  unfold State.detach; split <;> simp

@[simp] theorem State.freeRecord_lineSide (s : State) (t : Tag) (h : Terminal) :
    (s.freeRecord t h).lineSide = s.lineSide := by
  simp [State.freeRecord]

@[simp] theorem State.laneFail_lineSide (s : State) (i : LaneNo) (w : LaneWork) (reason : Reason) :
    (s.laneFail i w reason).lineSide = s.lineSide := by
  unfold State.laneFail; dsimp only; (repeat' split) <;> simp

@[simp] theorem State.laneComplete_lineSide (s : State) (i : LaneNo) (w : LaneWork) :
    (s.laneComplete i w).lineSide = s.lineSide := by
  unfold State.laneComplete; dsimp only; (repeat' split) <;> simp

@[simp] theorem State.seize_lineSide (s : State) (i : LaneNo) : (s.seize i).lineSide = s.lineSide := by
  unfold State.seize; dsimp only; (repeat' split) <;> simp

@[simp] theorem State.seizeAll_lineSide (s : State) : (s.seizeAll).lineSide = s.lineSide :=
  foldl_proj _ _ (fun s x => by simp) _ _

@[simp] theorem State.laneDeparture_lineSide (s : State) (carried : List LineNotice) (i : LaneNo) :
    (s.laneDeparture carried i).lineSide = s.lineSide := by
  unfold State.laneDeparture; (repeat' split) <;> simp

@[simp] theorem State.laneRepostNotice_lineSide (s : State) (i : LaneNo) :
    (s.laneRepostNotice i).lineSide = s.lineSide := by
  unfold State.laneRepostNotice; split <;> (try split) <;> simp

@[simp] theorem State.laneRepostShot_lineSide (s : State) (i : LaneNo) :
    (s.laneRepostShot i).lineSide = s.lineSide := by
  unfold State.laneRepostShot; split <;> (try split) <;> simp

@[simp] theorem State.lanePlaced_lineSide (s : State) (i : LaneNo) (cycle : CycleNo) (kind : GrantKind) :
    (s.lanePlaced i cycle kind).lineSide = s.lineSide := by
  unfold State.lanePlaced; split <;> (try split) <;> simp

@[simp] theorem State.postProbe_lineSide (s : State) (i : LaneNo) (w : LaneWork) (p : ProbeWork) :
    (s.postProbe i w p).lineSide = s.lineSide := by
  simp [State.postProbe]

@[simp] theorem State.enterProbe_lineSide (s : State) (i : LaneNo) (w : LaneWork) :
    (s.enterProbe i w).lineSide = s.lineSide := by
  simp [State.enterProbe]

@[simp] theorem State.laneCompute_lineSide (s : State) (i : LaneNo) (w : LaneWork) (p : ProbeWork) :
    (s.laneCompute i w p).lineSide = s.lineSide := by
  unfold State.laneCompute; dsimp only; (repeat' split) <;> simp

@[simp] theorem State.probeGoOn_lineSide (s : State) (i : LaneNo) (w : LaneWork) (p : ProbeWork) :
    (s.probeGoOn i w p).lineSide = s.lineSide := by
  unfold State.probeGoOn; split <;> (try split) <;> simp

@[simp] theorem State.probeFailure_lineSide (s : State) (i : LaneNo) (w : LaneWork) (p : ProbeWork) (kind : FailKind) :
    (s.probeFailure i w p kind).lineSide = s.lineSide := by
  unfold State.probeFailure; dsimp only; (repeat' split) <;> simp

@[simp] theorem State.settleProbe_lineSide (s : State) (i : LaneNo) (w : LaneWork) (p : ProbeWork) (held : HeldGrant) (outcome : CloseOutcome) :
    (s.settleProbe i w p held outcome).lineSide = s.lineSide := by
  unfold State.settleProbe; dsimp only; (repeat' split) <;> simp

@[simp] theorem State.offerFailure_lineSide (s : State) (i : LaneNo) (w : LaneWork) (attempts : Nat) (kind : FailKind) :
    (s.offerFailure i w attempts kind).lineSide = s.lineSide := by
  unfold State.offerFailure; dsimp only; (repeat' split) <;> simp

@[simp] theorem State.settleOffer_lineSide (s : State) (i : LaneNo) (w : LaneWork) (attempts : Nat) (held : HeldGrant) (outcome : CloseOutcome) :
    (s.settleOffer i w attempts held outcome).lineSide = s.lineSide := by
  unfold State.settleOffer; dsimp only; (repeat' split) <;> simp

@[simp] theorem State.trimFailure_lineSide (s : State) (i : LaneNo) (w : LaneWork) (attempts : Nat) (last : Option SettledTrim) (kind : FailKind) :
    (s.trimFailure i w attempts last kind).lineSide = s.lineSide := by
  unfold State.trimFailure; dsimp only; (repeat' split) <;> simp

@[simp] theorem State.settleTrim_lineSide (s : State) (i : LaneNo) (w : LaneWork) (attempts : Nat) (cycle : CycleNo) (held : HeldGrant) (outcome : CloseOutcome) :
    (s.settleTrim i w attempts cycle held outcome).lineSide = s.lineSide := by
  unfold State.settleTrim; split <;> (try split) <;> simp

@[simp] theorem State.settleIfDue_lineSide (s : State) (i : LaneNo) (w : LaneWork) (cycle : CycleNo) (held : HeldGrant) :
    (s.settleIfDue i w cycle held).lineSide = s.lineSide := by
  unfold State.settleIfDue; (repeat' split) <;> simp

@[simp] theorem State.laneBurst_lineSide (s : State) (i : LaneNo) (t : Tag) (r : BurstResult) :
    (s.laneBurst i t r).lineSide = s.lineSide := by
  unfold State.laneBurst; (repeat' split) <;> simp

@[simp] theorem State.laneClose_lineSide (s : State) (i : LaneNo) (t : Tag) (cycle : CycleNo) (kind : GrantKind) (outcome : CloseOutcome) :
    (s.laneClose i t cycle kind outcome).lineSide = s.lineSide := by
  unfold State.laneClose; split <;> simp

@[simp] theorem State.laneCapture_lineSide (s : State) (i : LaneNo) (t : Tag) (cycle : CycleNo) (answer : CaptureAnswer) :
    (s.laneCapture i t cycle answer).lineSide = s.lineSide := by
  unfold State.laneCapture; split <;> (try split) <;> simp

@[simp] theorem State.laneSighting_lineSide (s : State) (i : LaneNo) (t : Tag) (cycle : CycleNo) :
    (s.laneSighting i t cycle).lineSide = s.lineSide := by
  unfold State.laneSighting; (repeat' split) <;> simp

@[simp] theorem State.parkPowerLoss_lineSide (s : State) (t : Tag) (h : Terminal) :
    (s.parkPowerLoss t h).lineSide = s.lineSide := by
  simp [State.parkPowerLoss]

@[simp] theorem State.parkLost_lineSide (s : State) (t : Tag) (h : Terminal) : (s.parkLost t h).lineSide = s.lineSide := by
  simp [State.parkLost]

@[simp] theorem State.postNudge_lineSide (s : State) (t : Tag) (delta : Int) :
    (s.postNudge t delta).lineSide = s.lineSide := by
  unfold State.postNudge; split <;> simp

@[simp] theorem State.repostNudge_lineSide (s : State) (t : Tag) : (s.repostNudge t).lineSide = s.lineSide := by
  unfold State.repostNudge; split <;> simp

@[simp] theorem State.nudgeDeparture_lineSide (s : State) (cycle : CycleNo) (t : Tag) :
    (s.nudgeDeparture cycle t).lineSide = s.lineSide := by
  unfold State.nudgeDeparture; split <;> (try split) <;> simp

@[simp] theorem State.standingMiss_lineSide (s : State) (t : Tag) (h : Terminal) (svc : Service) :
    (s.standingMiss t h svc).lineSide = s.lineSide := by
  simp [State.standingMiss]

@[simp] theorem State.standingClean_lineSide (s : State) (t : Tag) (h : Terminal) (svc : Service) (r : BurstResult) :
    (s.standingClean t h svc r).lineSide = s.lineSide := by
  unfold State.standingClean; dsimp only; (repeat' split) <;> simp

@[simp] theorem State.standingClose_lineSide (s : State) (t : Tag) (outcome : CloseOutcome) :
    (s.standingClose t outcome).lineSide = s.lineSide := by
  unfold State.standingClose; dsimp only; (repeat' split) <;> simp

@[simp] theorem State.returnClean_lineSide (s : State) (t : Tag) (h : Terminal) (svc : Service) :
    (s.returnClean t h svc).lineSide = s.lineSide := by
  simp [State.returnClean]

@[simp] theorem State.supBurst_lineSide (s : State) (t : Tag) (r : BurstResult) :
    (s.supBurst t r).lineSide = s.lineSide := by
  unfold State.supBurst; (repeat' split) <;> simp

@[simp] theorem State.returnPlaced_lineSide (s : State) (t : Tag) : (s.returnPlaced t).lineSide = s.lineSide := by
  unfold State.returnPlaced; (repeat' split) <;> simp

@[simp] theorem State.supCapture_lineSide (s : State) (t : Tag) (answer : CaptureAnswer) :
    (s.supCapture t answer).lineSide = s.lineSide := by
  unfold State.supCapture; split <;> (try split) <;> simp

@[simp] theorem State.postReturn_lineSide (s : State) (t : Tag) : (s.postReturn t).lineSide = s.lineSide := by
  unfold State.postReturn; split <;> simp

@[simp] theorem State.repostReturn_lineSide (s : State) (t : Tag) : (s.repostReturn t).lineSide = s.lineSide := by
  unfold State.repostReturn; split <;> simp

@[simp] theorem State.graceTick_lineSide (s : State) (t : Tag) : (s.graceTick t).lineSide = s.lineSide := by
  unfold State.graceTick; dsimp only; (repeat' split) <;> simp

@[simp] theorem State.returnDue_lineSide (s : State) (t : Tag) : (s.returnDue t).lineSide = s.lineSide := by
  unfold State.returnDue; (repeat' split) <;> simp

@[simp] theorem State.answerCapture_lineSide (s : State) (owner : Owner) (t : Tag) (cycle : CycleNo) (answer : CaptureAnswer) :
    (s.answerCapture owner t cycle answer).lineSide = s.lineSide := by
  unfold State.answerCapture; split <;> simp

@[simp] theorem State.refuseCapture_lineSide (s : State) (owner : Owner) (t : Tag) (cycle : CycleNo) :
    (s.refuseCapture owner t cycle).lineSide = s.lineSide := by
  simp [State.refuseCapture]

@[simp] theorem State.requestCapture_lineSide (s : State) (owner : Owner) (t : Tag) (cycle : CycleNo) (begun : Tick) :
    (s.requestCapture owner t cycle begun).lineSide = s.lineSide := by
  unfold State.requestCapture; dsimp only; (repeat' split) <;> simp

@[simp] theorem State.endCalibration_lineSide (s : State) (result : CalibResult) :
    (s.endCalibration result).lineSide = s.lineSide :=
  rfl

@[simp] theorem State.failCalibration_lineSide (s : State) (c : Calibration) (cause : CalibCause) :
    (s.failCalibration c cause).lineSide = s.lineSide :=
  rfl

@[simp] theorem State.failAttempt_lineSide (s : State) (c : Calibration) (cause : CalibCause) :
    (s.failAttempt c cause).lineSide = s.lineSide := by
  unfold State.failAttempt; split <;> simp

@[simp] theorem State.succeedAttempt_lineSide (s : State) (c : Calibration) (code : BitVec 12) :
    (s.succeedAttempt c code).lineSide = s.lineSide :=
  rfl

@[simp] theorem State.intrude_lineSide (s : State) (cycle : CycleNo) : (s.intrude cycle).lineSide = s.lineSide := by
  unfold State.intrude; (repeat' split) <;> simp

@[simp] theorem State.calibFrameEnd_lineSide (s : State) (cycle : CycleNo) :
    (s.calibFrameEnd cycle).lineSide = s.lineSide := by
  unfold State.calibFrameEnd; (repeat' split) <;> simp

@[simp] theorem State.issueSlot_lineSide (s : State) (cycle : CycleNo) (start : Tick) (slot : Option Slot) :
    (s.issueSlot cycle start slot).lineSide = s.lineSide := by
  unfold State.issueSlot; split <;> (try split) <;> simp

@[simp] theorem State.holdDarkCode_lineSide (s : State) (code : BitVec 12) :
    (s.holdDarkCode code).lineSide = s.lineSide := by
  unfold State.holdDarkCode; split <;> (try split) <;> simp

@[simp] theorem State.converterLineDown_lineSide (s : State) : (s.converterLineDown).lineSide = s.lineSide := by
  unfold State.converterLineDown; dsimp only; (repeat' split) <;> simp

@[simp] theorem State.candidate_lineSide (s : State) (serial : Serial) (p gapStart : Nat) :
    (s.candidate serial p gapStart).lineSide = s.lineSide := by
  simp [State.candidate]

@[simp] theorem State.endPass_lineSide (s : State) (kind : PassEnd) (cycle : CycleNo) :
    (s.endPass kind cycle).lineSide = s.lineSide :=
  rfl

@[simp] theorem State.testPassEnd_lineSide (s : State) : (s.testPassEnd).lineSide = s.lineSide := by
  unfold State.testPassEnd; dsimp only; (repeat' split) <;> simp

@[simp] theorem State.countGarbled_lineSide (s : State) (garble : Bool) :
    (s.countGarbled garble).lineSide = s.lineSide := by
  unfold State.countGarbled; split <;> simp

@[simp] theorem State.finishNode_lineSide (s : State) : (s.finishNode).lineSide = s.lineSide := rfl

@[simp] theorem State.splitNode_lineSide (s : State) (o : Outstanding) : (s.splitNode o).lineSide = s.lineSide := by
  unfold State.splitNode; split <;> simp

@[simp] theorem State.censusClose_lineSide (s : State) (garble : Bool) :
    (s.censusClose garble).lineSide = s.lineSide := by
  unfold State.censusClose; dsimp only; (repeat' split) <;> simp

@[simp] theorem State.haltCensus_lineSide (s : State) (kind : PassEnd) (cycle : CycleNo) :
    (s.haltCensus kind cycle).lineSide = s.lineSide :=
  rfl

@[simp] theorem State.censusLineDown_lineSide (s : State) : (s.censusLineDown).lineSide = s.lineSide := by
  unfold State.censusLineDown; split <;> simp

@[simp] theorem State.updatePlan_lineSide (s : State) (k : Nat) (f : StoredPlan → StoredPlan) :
    (s.updatePlan k f).lineSide = s.lineSide :=
  rfl

@[simp] theorem State.deliverBurst_lineSide (s : State) (g : Grant) (r : BurstResult) :
    (s.deliverBurst g r).lineSide = s.lineSide := by
  unfold State.deliverBurst; split <;> simp

@[simp] theorem State.deliverClose_lineSide (s : State) (g : Grant) (cycle : CycleNo) (garble : Bool) (outcome : CloseOutcome) :
    (s.deliverClose g cycle garble outcome).lineSide = s.lineSide := by
  unfold State.deliverClose; split <;> (try split) <;> simp

@[simp] theorem State.deliverSighting_lineSide (s : State) (g : Grant) (cycle : CycleNo) :
    (s.deliverSighting g cycle).lineSide = s.lineSide := by
  unfold State.deliverSighting; split <;> simp

@[simp] theorem State.sight_lineSide (s : State) (k : Nat) (plan : StoredPlan) (r : Report) :
    (s.sight k plan r).lineSide = s.lineSide := by
  unfold State.sight; (repeat' split) <;> simp

@[simp] theorem State.stray_lineSide (s : State) (k : Nat) (plan : StoredPlan) (r : Report) :
    (s.stray k plan r).lineSide = s.lineSide := by
  simp [State.stray]

@[simp] theorem State.censusBurst_lineSide (s : State) (k j : Nat) (plan : StoredPlan) (g : Grant) (r : Report) (p : Nat) :
    (s.censusBurst k j plan g r p).lineSide = s.lineSide := by
  unfold State.censusBurst; (repeat' split) <;> simp

@[simp] theorem State.matchBurst_lineSide (s : State) (k j : Nat) (plan : StoredPlan) (g : Grant) (r : Report) (p : Nat) :
    (s.matchBurst k j plan g r p).lineSide = s.lineSide := by
  unfold State.matchBurst; dsimp only; (repeat' split) <;> simp

@[simp] theorem State.placeBurst_lineSide (s : State) (k : Nat) (plan : StoredPlan) (r : Report) (p : Nat) :
    (s.placeBurst k plan r p).lineSide = s.lineSide := by
  unfold State.placeBurst; (repeat' split) <;> simp

@[simp] theorem State.judge_lineSide (s : State) (r : Report) : (s.judge r).lineSide = s.lineSide := by
  unfold State.judge; dsimp only; (repeat' split) <;> simp

@[simp] theorem State.tellPlaced_lineSide (cycle : CycleNo) (s : State) (e : OneShot) :
    (s.tellPlaced cycle e).lineSide = s.lineSide := by
  unfold State.tellPlaced; split <;> simp

@[simp] theorem State.placeGap_lineSide (s : State) (cycle : CycleNo) (len : Nat) (p : Placing) :
    (s.placeGap cycle len p).1.lineSide = s.lineSide := by
  unfold State.placeGap; dsimp only; (repeat' split) <;> simp

@[simp] theorem State.placeSlot_lineSide (s : State) (len : Nat) (p : Placing) :
    (s.placeSlot len p).1.lineSide = s.lineSide := by
  unfold State.placeSlot; dsimp only; (repeat' split) <;> simp

@[simp] theorem State.countOverrun_lineSide (s : State) (cycle : CycleNo) (skipped : Bool) :
    (s.countOverrun cycle skipped).lineSide = s.lineSide := by
  unfold State.countOverrun; split <;> simp

@[simp] theorem State.repostShots_lineSide (s : State) : (s.repostShots).lineSide = s.lineSide := by
  simp [State.repostShots, foldl_proj]

@[simp] theorem State.buildPlan_lineSide (s : State) (cycle : CycleNo) (len : Nat) :
    (s.buildPlan cycle len).lineSide = s.lineSide := by
  simp [State.buildPlan, foldl_proj]

@[simp] theorem State.issuePlan_lineSide (s : State) (p : Plan) (start : Tick) :
    (s.issuePlan p start).lineSide = s.lineSide := by
  simp [State.issuePlan]

@[simp] theorem State.departures_lineSide (s : State) (carried : List LineNotice) :
    (s.departures carried).lineSide = s.lineSide := by
  simp [State.departures, foldl_proj]

@[simp] theorem State.countdowns_lineSide (s : State) : (s.countdowns).lineSide = s.lineSide := rfl

@[simp] theorem State.repostRoster_lineSide (s : State) : (s.repostRoster).lineSide = s.lineSide :=
  foldl_proj _ _ (fun s x => by simp) _ _

@[simp] theorem State.cycleStartPostings_lineSide (s : State) : (s.cycleStartPostings).lineSide = s.lineSide := by
  simp [State.cycleStartPostings, foldl_proj]

@[simp] theorem State.lineDownRecord_lineSide (s : State) (t : Tag) : (s.lineDownRecord t).lineSide = s.lineSide := by
  unfold State.lineDownRecord; split <;> (try split) <;> simp

@[simp] theorem State.lineDown_lineSide (s : State) : (s.lineDown).lineSide = s.lineSide := by
  simp [State.lineDown, foldl_proj]

/-! ## The plan store and the strays -/

@[simp] theorem State.changeTerm_intake (s : State) (t : Tag) (h : Option Terminal) :
    (s.changeTerm t h).intake = s.intake := by
  unfold State.changeTerm; split <;> simp

@[simp] theorem State.queueNotice_intake (s : State) (n : LineNotice) : (s.queueNotice n).intake = s.intake := by
  unfold State.queueNotice; split <;> simp

@[simp] theorem State.queueShot_intake (s : State) (e : OneShot) : (s.queueShot e).intake = s.intake := by
  unfold State.queueShot; split <;> simp

@[simp] theorem State.rosterPost_intake (s : State) (body : NoticeBody) : (s.rosterPost body).intake = s.intake := by
  unfold State.rosterPost; split <;> simp

@[simp] theorem State.standDown_intake (s : State) (t : Tag) (reason : Reason) :
    (s.standDown t reason).intake = s.intake := by
  simp [State.standDown]

@[simp] theorem State.lanePostNotice_intake (s : State) (i : LaneNo) (w : LaneWork) (body : NoticeBody) :
    (s.lanePostNotice i w body).intake = s.intake := by
  simp [State.lanePostNotice]

@[simp] theorem State.lanePostShot_intake (s : State) (i : LaneNo) (w : LaneWork) (e : OneShot) :
    (s.lanePostShot i w e).intake = s.intake := by
  simp [State.lanePostShot]

@[simp] theorem State.hushLong_intake (s : State) (serial : Serial) : (s.hushLong serial).intake = s.intake := by
  simp [State.hushLong]

@[simp] theorem State.refuseStranger_intake (s : State) (serial : Serial) (reason : StrangerReason) :
    (s.refuseStranger serial reason).intake = s.intake := by
  unfold State.refuseStranger; split <;> (try split) <;> simp

@[simp] theorem State.enroll_intake (s : State) (t : Tag) (serial : Serial) (listed : Bool) (profile : ProfileNo) (coarse : Int) :
    (s.enroll t serial listed profile coarse).intake = s.intake := by
  simp [State.enroll]

@[simp] theorem State.hearNew_intake (s : State) (serial : Serial) (coarse : Int) :
    (s.hearNew serial coarse).1.intake = s.intake := by
  unfold State.hearNew; dsimp only; (repeat' split) <;> simp

@[simp] theorem State.readmit_intake (s : State) (t : Tag) (h : Terminal) (coarse : Int) :
    (s.readmit t h coarse).intake = s.intake := by
  simp [State.readmit]

@[simp] theorem State.hearHeld_intake (s : State) (t : Tag) (h : Terminal) (coarse : Int) :
    (s.hearHeld t h coarse).1.intake = s.intake := by
  unfold State.hearHeld; (repeat' split) <;> simp

@[simp] theorem State.hear_intake (s : State) (serial : Serial) (coarse : Int) :
    (s.hear serial coarse).1.intake = s.intake := by
  unfold State.hear; (repeat' split) <;> simp

@[simp] theorem State.parkRecord_intake (s : State) (t : Tag) (h : Terminal) (reason : Reason) (hold : Nat) :
    (s.parkRecord t h reason hold).intake = s.intake := by
  simp [State.parkRecord]

@[simp] theorem State.detach_intake (s : State) (t : Tag) (h : Terminal) : (s.detach t h).intake = s.intake := by
  unfold State.detach; split <;> simp

@[simp] theorem State.freeRecord_intake (s : State) (t : Tag) (h : Terminal) :
    (s.freeRecord t h).intake = s.intake := by
  simp [State.freeRecord]

@[simp] theorem State.laneFail_intake (s : State) (i : LaneNo) (w : LaneWork) (reason : Reason) :
    (s.laneFail i w reason).intake = s.intake := by
  unfold State.laneFail; dsimp only; (repeat' split) <;> simp

@[simp] theorem State.laneComplete_intake (s : State) (i : LaneNo) (w : LaneWork) :
    (s.laneComplete i w).intake = s.intake := by
  unfold State.laneComplete; dsimp only; (repeat' split) <;> simp

@[simp] theorem State.seize_intake (s : State) (i : LaneNo) : (s.seize i).intake = s.intake := by
  unfold State.seize; dsimp only; (repeat' split) <;> simp

@[simp] theorem State.seizeAll_intake (s : State) : (s.seizeAll).intake = s.intake :=
  foldl_proj _ _ (fun s x => by simp) _ _

@[simp] theorem State.laneDeparture_intake (s : State) (carried : List LineNotice) (i : LaneNo) :
    (s.laneDeparture carried i).intake = s.intake := by
  unfold State.laneDeparture; (repeat' split) <;> simp

@[simp] theorem State.laneRepostNotice_intake (s : State) (i : LaneNo) :
    (s.laneRepostNotice i).intake = s.intake := by
  unfold State.laneRepostNotice; split <;> (try split) <;> simp

@[simp] theorem State.laneRepostShot_intake (s : State) (i : LaneNo) : (s.laneRepostShot i).intake = s.intake := by
  unfold State.laneRepostShot; split <;> (try split) <;> simp

@[simp] theorem State.lanePlaced_intake (s : State) (i : LaneNo) (cycle : CycleNo) (kind : GrantKind) :
    (s.lanePlaced i cycle kind).intake = s.intake := by
  unfold State.lanePlaced; split <;> (try split) <;> simp

@[simp] theorem State.postProbe_intake (s : State) (i : LaneNo) (w : LaneWork) (p : ProbeWork) :
    (s.postProbe i w p).intake = s.intake := by
  simp [State.postProbe]

@[simp] theorem State.enterProbe_intake (s : State) (i : LaneNo) (w : LaneWork) :
    (s.enterProbe i w).intake = s.intake := by
  simp [State.enterProbe]

@[simp] theorem State.laneCompute_intake (s : State) (i : LaneNo) (w : LaneWork) (p : ProbeWork) :
    (s.laneCompute i w p).intake = s.intake := by
  unfold State.laneCompute; dsimp only; (repeat' split) <;> simp

@[simp] theorem State.probeGoOn_intake (s : State) (i : LaneNo) (w : LaneWork) (p : ProbeWork) :
    (s.probeGoOn i w p).intake = s.intake := by
  unfold State.probeGoOn; split <;> (try split) <;> simp

@[simp] theorem State.probeFailure_intake (s : State) (i : LaneNo) (w : LaneWork) (p : ProbeWork) (kind : FailKind) :
    (s.probeFailure i w p kind).intake = s.intake := by
  unfold State.probeFailure; dsimp only; (repeat' split) <;> simp

@[simp] theorem State.settleProbe_intake (s : State) (i : LaneNo) (w : LaneWork) (p : ProbeWork) (held : HeldGrant) (outcome : CloseOutcome) :
    (s.settleProbe i w p held outcome).intake = s.intake := by
  unfold State.settleProbe; dsimp only; (repeat' split) <;> simp

@[simp] theorem State.offerFailure_intake (s : State) (i : LaneNo) (w : LaneWork) (attempts : Nat) (kind : FailKind) :
    (s.offerFailure i w attempts kind).intake = s.intake := by
  unfold State.offerFailure; dsimp only; (repeat' split) <;> simp

@[simp] theorem State.settleOffer_intake (s : State) (i : LaneNo) (w : LaneWork) (attempts : Nat) (held : HeldGrant) (outcome : CloseOutcome) :
    (s.settleOffer i w attempts held outcome).intake = s.intake := by
  unfold State.settleOffer; dsimp only; (repeat' split) <;> simp

@[simp] theorem State.trimFailure_intake (s : State) (i : LaneNo) (w : LaneWork) (attempts : Nat) (last : Option SettledTrim) (kind : FailKind) :
    (s.trimFailure i w attempts last kind).intake = s.intake := by
  unfold State.trimFailure; dsimp only; (repeat' split) <;> simp

@[simp] theorem State.settleTrim_intake (s : State) (i : LaneNo) (w : LaneWork) (attempts : Nat) (cycle : CycleNo) (held : HeldGrant) (outcome : CloseOutcome) :
    (s.settleTrim i w attempts cycle held outcome).intake = s.intake := by
  unfold State.settleTrim; split <;> (try split) <;> simp

@[simp] theorem State.settleIfDue_intake (s : State) (i : LaneNo) (w : LaneWork) (cycle : CycleNo) (held : HeldGrant) :
    (s.settleIfDue i w cycle held).intake = s.intake := by
  unfold State.settleIfDue; (repeat' split) <;> simp

@[simp] theorem State.laneBurst_intake (s : State) (i : LaneNo) (t : Tag) (r : BurstResult) :
    (s.laneBurst i t r).intake = s.intake := by
  unfold State.laneBurst; (repeat' split) <;> simp

@[simp] theorem State.laneClose_intake (s : State) (i : LaneNo) (t : Tag) (cycle : CycleNo) (kind : GrantKind) (outcome : CloseOutcome) :
    (s.laneClose i t cycle kind outcome).intake = s.intake := by
  unfold State.laneClose; split <;> simp

@[simp] theorem State.laneCapture_intake (s : State) (i : LaneNo) (t : Tag) (cycle : CycleNo) (answer : CaptureAnswer) :
    (s.laneCapture i t cycle answer).intake = s.intake := by
  unfold State.laneCapture; split <;> (try split) <;> simp

@[simp] theorem State.laneSighting_intake (s : State) (i : LaneNo) (t : Tag) (cycle : CycleNo) :
    (s.laneSighting i t cycle).intake = s.intake := by
  unfold State.laneSighting; (repeat' split) <;> simp

@[simp] theorem State.parkPowerLoss_intake (s : State) (t : Tag) (h : Terminal) :
    (s.parkPowerLoss t h).intake = s.intake := by
  simp [State.parkPowerLoss]

@[simp] theorem State.parkLost_intake (s : State) (t : Tag) (h : Terminal) : (s.parkLost t h).intake = s.intake := by
  simp [State.parkLost]

@[simp] theorem State.postNudge_intake (s : State) (t : Tag) (delta : Int) :
    (s.postNudge t delta).intake = s.intake := by
  unfold State.postNudge; split <;> simp

@[simp] theorem State.repostNudge_intake (s : State) (t : Tag) : (s.repostNudge t).intake = s.intake := by
  unfold State.repostNudge; split <;> simp

@[simp] theorem State.nudgeDeparture_intake (s : State) (cycle : CycleNo) (t : Tag) :
    (s.nudgeDeparture cycle t).intake = s.intake := by
  unfold State.nudgeDeparture; split <;> (try split) <;> simp

@[simp] theorem State.standingMiss_intake (s : State) (t : Tag) (h : Terminal) (svc : Service) :
    (s.standingMiss t h svc).intake = s.intake := by
  simp [State.standingMiss]

@[simp] theorem State.standingClean_intake (s : State) (t : Tag) (h : Terminal) (svc : Service) (r : BurstResult) :
    (s.standingClean t h svc r).intake = s.intake := by
  unfold State.standingClean; dsimp only; (repeat' split) <;> simp

@[simp] theorem State.standingClose_intake (s : State) (t : Tag) (outcome : CloseOutcome) :
    (s.standingClose t outcome).intake = s.intake := by
  unfold State.standingClose; dsimp only; (repeat' split) <;> simp

@[simp] theorem State.returnClean_intake (s : State) (t : Tag) (h : Terminal) (svc : Service) :
    (s.returnClean t h svc).intake = s.intake := by
  simp [State.returnClean]

@[simp] theorem State.supBurst_intake (s : State) (t : Tag) (r : BurstResult) :
    (s.supBurst t r).intake = s.intake := by
  unfold State.supBurst; (repeat' split) <;> simp

@[simp] theorem State.returnPlaced_intake (s : State) (t : Tag) : (s.returnPlaced t).intake = s.intake := by
  unfold State.returnPlaced; (repeat' split) <;> simp

@[simp] theorem State.supCapture_intake (s : State) (t : Tag) (answer : CaptureAnswer) :
    (s.supCapture t answer).intake = s.intake := by
  unfold State.supCapture; split <;> (try split) <;> simp

@[simp] theorem State.postReturn_intake (s : State) (t : Tag) : (s.postReturn t).intake = s.intake := by
  unfold State.postReturn; split <;> simp

@[simp] theorem State.repostReturn_intake (s : State) (t : Tag) : (s.repostReturn t).intake = s.intake := by
  unfold State.repostReturn; split <;> simp

@[simp] theorem State.graceTick_intake (s : State) (t : Tag) : (s.graceTick t).intake = s.intake := by
  unfold State.graceTick; dsimp only; (repeat' split) <;> simp

@[simp] theorem State.returnDue_intake (s : State) (t : Tag) : (s.returnDue t).intake = s.intake := by
  unfold State.returnDue; (repeat' split) <;> simp

@[simp] theorem State.answerCapture_intake (s : State) (owner : Owner) (t : Tag) (cycle : CycleNo) (answer : CaptureAnswer) :
    (s.answerCapture owner t cycle answer).intake = s.intake := by
  unfold State.answerCapture; split <;> simp

@[simp] theorem State.refuseCapture_intake (s : State) (owner : Owner) (t : Tag) (cycle : CycleNo) :
    (s.refuseCapture owner t cycle).intake = s.intake := by
  simp [State.refuseCapture]

@[simp] theorem State.requestCapture_intake (s : State) (owner : Owner) (t : Tag) (cycle : CycleNo) (begun : Tick) :
    (s.requestCapture owner t cycle begun).intake = s.intake := by
  unfold State.requestCapture; dsimp only; (repeat' split) <;> simp

@[simp] theorem State.failCalibration_intake (s : State) (c : Calibration) (cause : CalibCause) :
    (s.failCalibration c cause).intake = s.intake :=
  rfl

@[simp] theorem State.failAttempt_intake (s : State) (c : Calibration) (cause : CalibCause) :
    (s.failAttempt c cause).intake = s.intake := by
  unfold State.failAttempt; split <;> simp

@[simp] theorem State.succeedAttempt_intake (s : State) (c : Calibration) (code : BitVec 12) :
    (s.succeedAttempt c code).intake = s.intake :=
  rfl

@[simp] theorem State.intrude_intake (s : State) (cycle : CycleNo) : (s.intrude cycle).intake = s.intake := by
  unfold State.intrude; (repeat' split) <;> simp

@[simp] theorem State.calibFrameEnd_intake (s : State) (cycle : CycleNo) :
    (s.calibFrameEnd cycle).intake = s.intake := by
  unfold State.calibFrameEnd; (repeat' split) <;> simp

@[simp] theorem State.issueSlot_intake (s : State) (cycle : CycleNo) (start : Tick) (slot : Option Slot) :
    (s.issueSlot cycle start slot).intake = s.intake := by
  unfold State.issueSlot; split <;> (try split) <;> simp

@[simp] theorem State.holdDarkCode_intake (s : State) (code : BitVec 12) :
    (s.holdDarkCode code).intake = s.intake := by
  unfold State.holdDarkCode; split <;> (try split) <;> simp

@[simp] theorem State.converterLineDown_intake (s : State) : (s.converterLineDown).intake = s.intake := by
  unfold State.converterLineDown; dsimp only; (repeat' split) <;> simp

@[simp] theorem State.candidate_intake (s : State) (serial : Serial) (p gapStart : Nat) :
    (s.candidate serial p gapStart).intake = s.intake := by
  simp [State.candidate]

@[simp] theorem State.testPassEnd_intake (s : State) : (s.testPassEnd).intake = s.intake := by
  unfold State.testPassEnd; dsimp only; (repeat' split) <;> simp

@[simp] theorem State.countGarbled_intake (s : State) (garble : Bool) :
    (s.countGarbled garble).intake = s.intake := by
  unfold State.countGarbled; split <;> simp

@[simp] theorem State.splitNode_intake (s : State) (o : Outstanding) : (s.splitNode o).intake = s.intake := by
  unfold State.splitNode; split <;> simp

@[simp] theorem State.censusClose_intake (s : State) (garble : Bool) : (s.censusClose garble).intake = s.intake := by
  unfold State.censusClose; dsimp only; (repeat' split) <;> simp

@[simp] theorem State.censusLineDown_intake (s : State) : (s.censusLineDown).intake = s.intake := by
  unfold State.censusLineDown; split <;> simp

@[simp] theorem State.deliverBurst_intake (s : State) (g : Grant) (r : BurstResult) :
    (s.deliverBurst g r).intake = s.intake := by
  unfold State.deliverBurst; split <;> simp

@[simp] theorem State.deliverClose_intake (s : State) (g : Grant) (cycle : CycleNo) (garble : Bool) (outcome : CloseOutcome) :
    (s.deliverClose g cycle garble outcome).intake = s.intake := by
  unfold State.deliverClose; split <;> (try split) <;> simp

@[simp] theorem State.deliverSighting_intake (s : State) (g : Grant) (cycle : CycleNo) :
    (s.deliverSighting g cycle).intake = s.intake := by
  unfold State.deliverSighting; split <;> simp

@[simp] theorem State.tellPlaced_intake (cycle : CycleNo) (s : State) (e : OneShot) :
    (s.tellPlaced cycle e).intake = s.intake := by
  unfold State.tellPlaced; split <;> simp

@[simp] theorem State.placeGap_intake (s : State) (cycle : CycleNo) (len : Nat) (p : Placing) :
    (s.placeGap cycle len p).1.intake = s.intake := by
  unfold State.placeGap; dsimp only; (repeat' split) <;> simp

@[simp] theorem State.placeSlot_intake (s : State) (len : Nat) (p : Placing) :
    (s.placeSlot len p).1.intake = s.intake := by
  unfold State.placeSlot; dsimp only; (repeat' split) <;> simp

@[simp] theorem State.countOverrun_intake (s : State) (cycle : CycleNo) (skipped : Bool) :
    (s.countOverrun cycle skipped).intake = s.intake := by
  unfold State.countOverrun; split <;> simp

@[simp] theorem State.repostShots_intake (s : State) : (s.repostShots).intake = s.intake := by
  simp [State.repostShots, foldl_proj]

@[simp] theorem State.buildPlan_intake (s : State) (cycle : CycleNo) (len : Nat) :
    (s.buildPlan cycle len).intake = s.intake := by
  simp [State.buildPlan, foldl_proj]

@[simp] theorem State.closeRunning_intake (s : State) (cycle : CycleNo) (len : Nat) :
    (s.closeRunning cycle len).intake = s.intake := by
  simp [State.closeRunning]

@[simp] theorem State.closePlan_intake (s : State) : (s.closePlan).intake = s.intake := by
  unfold State.closePlan; (repeat' split) <;> simp

@[simp] theorem State.departures_intake (s : State) (carried : List LineNotice) :
    (s.departures carried).intake = s.intake := by
  simp [State.departures, foldl_proj]

@[simp] theorem State.repostRoster_intake (s : State) : (s.repostRoster).intake = s.intake :=
  foldl_proj _ _ (fun s x => by simp) _ _

@[simp] theorem State.cycleStartPostings_intake (s : State) : (s.cycleStartPostings).intake = s.intake := by
  simp [State.cycleStartPostings, foldl_proj]

@[simp] theorem State.advanceCycle_intake (s : State) (c : Cycle) (len : Nat) :
    (s.advanceCycle c len).intake = s.intake := by
  unfold State.advanceCycle; dsimp only; (repeat' split) <;> simp

@[simp] theorem State.lineDownRecord_intake (s : State) (t : Tag) : (s.lineDownRecord t).intake = s.intake := by
  unfold State.lineDownRecord; split <;> (try split) <;> simp

/-! ## The Census Unit -/

@[simp] theorem State.changeTerm_census (s : State) (t : Tag) (h : Option Terminal) :
    (s.changeTerm t h).census = s.census := by
  unfold State.changeTerm; split <;> simp

@[simp] theorem State.queueNotice_census (s : State) (n : LineNotice) : (s.queueNotice n).census = s.census := by
  unfold State.queueNotice; split <;> simp

@[simp] theorem State.queueShot_census (s : State) (e : OneShot) : (s.queueShot e).census = s.census := by
  unfold State.queueShot; split <;> simp

@[simp] theorem State.rosterPost_census (s : State) (body : NoticeBody) : (s.rosterPost body).census = s.census := by
  unfold State.rosterPost; split <;> simp

@[simp] theorem State.standDown_census (s : State) (t : Tag) (reason : Reason) :
    (s.standDown t reason).census = s.census := by
  simp [State.standDown]

@[simp] theorem State.lanePostNotice_census (s : State) (i : LaneNo) (w : LaneWork) (body : NoticeBody) :
    (s.lanePostNotice i w body).census = s.census := by
  simp [State.lanePostNotice]

@[simp] theorem State.lanePostShot_census (s : State) (i : LaneNo) (w : LaneWork) (e : OneShot) :
    (s.lanePostShot i w e).census = s.census := by
  simp [State.lanePostShot]

@[simp] theorem State.hushLong_census (s : State) (serial : Serial) : (s.hushLong serial).census = s.census := by
  simp [State.hushLong]

@[simp] theorem State.refuseStranger_census (s : State) (serial : Serial) (reason : StrangerReason) :
    (s.refuseStranger serial reason).census = s.census := by
  unfold State.refuseStranger; split <;> (try split) <;> simp

@[simp] theorem State.enroll_census (s : State) (t : Tag) (serial : Serial) (listed : Bool) (profile : ProfileNo) (coarse : Int) :
    (s.enroll t serial listed profile coarse).census = s.census := by
  simp [State.enroll]

@[simp] theorem State.hearNew_census (s : State) (serial : Serial) (coarse : Int) :
    (s.hearNew serial coarse).1.census = s.census := by
  unfold State.hearNew; dsimp only; (repeat' split) <;> simp

@[simp] theorem State.readmit_census (s : State) (t : Tag) (h : Terminal) (coarse : Int) :
    (s.readmit t h coarse).census = s.census := by
  simp [State.readmit]

@[simp] theorem State.hearHeld_census (s : State) (t : Tag) (h : Terminal) (coarse : Int) :
    (s.hearHeld t h coarse).1.census = s.census := by
  unfold State.hearHeld; (repeat' split) <;> simp

@[simp] theorem State.hear_census (s : State) (serial : Serial) (coarse : Int) :
    (s.hear serial coarse).1.census = s.census := by
  unfold State.hear; (repeat' split) <;> simp

@[simp] theorem State.parkRecord_census (s : State) (t : Tag) (h : Terminal) (reason : Reason) (hold : Nat) :
    (s.parkRecord t h reason hold).census = s.census := by
  simp [State.parkRecord]

@[simp] theorem State.detach_census (s : State) (t : Tag) (h : Terminal) : (s.detach t h).census = s.census := by
  unfold State.detach; split <;> simp

@[simp] theorem State.freeRecord_census (s : State) (t : Tag) (h : Terminal) :
    (s.freeRecord t h).census = s.census := by
  simp [State.freeRecord]

@[simp] theorem State.laneFail_census (s : State) (i : LaneNo) (w : LaneWork) (reason : Reason) :
    (s.laneFail i w reason).census = s.census := by
  unfold State.laneFail; dsimp only; (repeat' split) <;> simp

@[simp] theorem State.laneComplete_census (s : State) (i : LaneNo) (w : LaneWork) :
    (s.laneComplete i w).census = s.census := by
  unfold State.laneComplete; dsimp only; (repeat' split) <;> simp

@[simp] theorem State.seize_census (s : State) (i : LaneNo) : (s.seize i).census = s.census := by
  unfold State.seize; dsimp only; (repeat' split) <;> simp

@[simp] theorem State.seizeAll_census (s : State) : (s.seizeAll).census = s.census :=
  foldl_proj _ _ (fun s x => by simp) _ _

@[simp] theorem State.laneDeparture_census (s : State) (carried : List LineNotice) (i : LaneNo) :
    (s.laneDeparture carried i).census = s.census := by
  unfold State.laneDeparture; (repeat' split) <;> simp

@[simp] theorem State.laneRepostNotice_census (s : State) (i : LaneNo) :
    (s.laneRepostNotice i).census = s.census := by
  unfold State.laneRepostNotice; split <;> (try split) <;> simp

@[simp] theorem State.laneRepostShot_census (s : State) (i : LaneNo) : (s.laneRepostShot i).census = s.census := by
  unfold State.laneRepostShot; split <;> (try split) <;> simp

@[simp] theorem State.lanePlaced_census (s : State) (i : LaneNo) (cycle : CycleNo) (kind : GrantKind) :
    (s.lanePlaced i cycle kind).census = s.census := by
  unfold State.lanePlaced; split <;> (try split) <;> simp

@[simp] theorem State.postProbe_census (s : State) (i : LaneNo) (w : LaneWork) (p : ProbeWork) :
    (s.postProbe i w p).census = s.census := by
  simp [State.postProbe]

@[simp] theorem State.enterProbe_census (s : State) (i : LaneNo) (w : LaneWork) :
    (s.enterProbe i w).census = s.census := by
  simp [State.enterProbe]

@[simp] theorem State.laneCompute_census (s : State) (i : LaneNo) (w : LaneWork) (p : ProbeWork) :
    (s.laneCompute i w p).census = s.census := by
  unfold State.laneCompute; dsimp only; (repeat' split) <;> simp

@[simp] theorem State.probeGoOn_census (s : State) (i : LaneNo) (w : LaneWork) (p : ProbeWork) :
    (s.probeGoOn i w p).census = s.census := by
  unfold State.probeGoOn; split <;> (try split) <;> simp

@[simp] theorem State.probeFailure_census (s : State) (i : LaneNo) (w : LaneWork) (p : ProbeWork) (kind : FailKind) :
    (s.probeFailure i w p kind).census = s.census := by
  unfold State.probeFailure; dsimp only; (repeat' split) <;> simp

@[simp] theorem State.settleProbe_census (s : State) (i : LaneNo) (w : LaneWork) (p : ProbeWork) (held : HeldGrant) (outcome : CloseOutcome) :
    (s.settleProbe i w p held outcome).census = s.census := by
  unfold State.settleProbe; dsimp only; (repeat' split) <;> simp

@[simp] theorem State.offerFailure_census (s : State) (i : LaneNo) (w : LaneWork) (attempts : Nat) (kind : FailKind) :
    (s.offerFailure i w attempts kind).census = s.census := by
  unfold State.offerFailure; dsimp only; (repeat' split) <;> simp

@[simp] theorem State.settleOffer_census (s : State) (i : LaneNo) (w : LaneWork) (attempts : Nat) (held : HeldGrant) (outcome : CloseOutcome) :
    (s.settleOffer i w attempts held outcome).census = s.census := by
  unfold State.settleOffer; dsimp only; (repeat' split) <;> simp

@[simp] theorem State.trimFailure_census (s : State) (i : LaneNo) (w : LaneWork) (attempts : Nat) (last : Option SettledTrim) (kind : FailKind) :
    (s.trimFailure i w attempts last kind).census = s.census := by
  unfold State.trimFailure; dsimp only; (repeat' split) <;> simp

@[simp] theorem State.settleTrim_census (s : State) (i : LaneNo) (w : LaneWork) (attempts : Nat) (cycle : CycleNo) (held : HeldGrant) (outcome : CloseOutcome) :
    (s.settleTrim i w attempts cycle held outcome).census = s.census := by
  unfold State.settleTrim; split <;> (try split) <;> simp

@[simp] theorem State.settleIfDue_census (s : State) (i : LaneNo) (w : LaneWork) (cycle : CycleNo) (held : HeldGrant) :
    (s.settleIfDue i w cycle held).census = s.census := by
  unfold State.settleIfDue; (repeat' split) <;> simp

@[simp] theorem State.laneBurst_census (s : State) (i : LaneNo) (t : Tag) (r : BurstResult) :
    (s.laneBurst i t r).census = s.census := by
  unfold State.laneBurst; (repeat' split) <;> simp

@[simp] theorem State.laneClose_census (s : State) (i : LaneNo) (t : Tag) (cycle : CycleNo) (kind : GrantKind) (outcome : CloseOutcome) :
    (s.laneClose i t cycle kind outcome).census = s.census := by
  unfold State.laneClose; split <;> simp

@[simp] theorem State.laneCapture_census (s : State) (i : LaneNo) (t : Tag) (cycle : CycleNo) (answer : CaptureAnswer) :
    (s.laneCapture i t cycle answer).census = s.census := by
  unfold State.laneCapture; split <;> (try split) <;> simp

@[simp] theorem State.laneSighting_census (s : State) (i : LaneNo) (t : Tag) (cycle : CycleNo) :
    (s.laneSighting i t cycle).census = s.census := by
  unfold State.laneSighting; (repeat' split) <;> simp

@[simp] theorem State.parkPowerLoss_census (s : State) (t : Tag) (h : Terminal) :
    (s.parkPowerLoss t h).census = s.census := by
  simp [State.parkPowerLoss]

@[simp] theorem State.parkLost_census (s : State) (t : Tag) (h : Terminal) : (s.parkLost t h).census = s.census := by
  simp [State.parkLost]

@[simp] theorem State.postNudge_census (s : State) (t : Tag) (delta : Int) :
    (s.postNudge t delta).census = s.census := by
  unfold State.postNudge; split <;> simp

@[simp] theorem State.repostNudge_census (s : State) (t : Tag) : (s.repostNudge t).census = s.census := by
  unfold State.repostNudge; split <;> simp

@[simp] theorem State.nudgeDeparture_census (s : State) (cycle : CycleNo) (t : Tag) :
    (s.nudgeDeparture cycle t).census = s.census := by
  unfold State.nudgeDeparture; split <;> (try split) <;> simp

@[simp] theorem State.standingMiss_census (s : State) (t : Tag) (h : Terminal) (svc : Service) :
    (s.standingMiss t h svc).census = s.census := by
  simp [State.standingMiss]

@[simp] theorem State.standingClean_census (s : State) (t : Tag) (h : Terminal) (svc : Service) (r : BurstResult) :
    (s.standingClean t h svc r).census = s.census := by
  unfold State.standingClean; dsimp only; (repeat' split) <;> simp

@[simp] theorem State.standingClose_census (s : State) (t : Tag) (outcome : CloseOutcome) :
    (s.standingClose t outcome).census = s.census := by
  unfold State.standingClose; dsimp only; (repeat' split) <;> simp

@[simp] theorem State.returnClean_census (s : State) (t : Tag) (h : Terminal) (svc : Service) :
    (s.returnClean t h svc).census = s.census := by
  simp [State.returnClean]

@[simp] theorem State.supBurst_census (s : State) (t : Tag) (r : BurstResult) :
    (s.supBurst t r).census = s.census := by
  unfold State.supBurst; (repeat' split) <;> simp

@[simp] theorem State.returnPlaced_census (s : State) (t : Tag) : (s.returnPlaced t).census = s.census := by
  unfold State.returnPlaced; (repeat' split) <;> simp

@[simp] theorem State.supCapture_census (s : State) (t : Tag) (answer : CaptureAnswer) :
    (s.supCapture t answer).census = s.census := by
  unfold State.supCapture; split <;> (try split) <;> simp

@[simp] theorem State.postReturn_census (s : State) (t : Tag) : (s.postReturn t).census = s.census := by
  unfold State.postReturn; split <;> simp

@[simp] theorem State.repostReturn_census (s : State) (t : Tag) : (s.repostReturn t).census = s.census := by
  unfold State.repostReturn; split <;> simp

@[simp] theorem State.graceTick_census (s : State) (t : Tag) : (s.graceTick t).census = s.census := by
  unfold State.graceTick; dsimp only; (repeat' split) <;> simp

@[simp] theorem State.returnDue_census (s : State) (t : Tag) : (s.returnDue t).census = s.census := by
  unfold State.returnDue; (repeat' split) <;> simp

@[simp] theorem State.answerCapture_census (s : State) (owner : Owner) (t : Tag) (cycle : CycleNo) (answer : CaptureAnswer) :
    (s.answerCapture owner t cycle answer).census = s.census := by
  unfold State.answerCapture; split <;> simp

@[simp] theorem State.refuseCapture_census (s : State) (owner : Owner) (t : Tag) (cycle : CycleNo) :
    (s.refuseCapture owner t cycle).census = s.census := by
  simp [State.refuseCapture]

@[simp] theorem State.requestCapture_census (s : State) (owner : Owner) (t : Tag) (cycle : CycleNo) (begun : Tick) :
    (s.requestCapture owner t cycle begun).census = s.census := by
  unfold State.requestCapture; dsimp only; (repeat' split) <;> simp

@[simp] theorem State.failCalibration_census (s : State) (c : Calibration) (cause : CalibCause) :
    (s.failCalibration c cause).census = s.census :=
  rfl

@[simp] theorem State.failAttempt_census (s : State) (c : Calibration) (cause : CalibCause) :
    (s.failAttempt c cause).census = s.census := by
  unfold State.failAttempt; split <;> simp

@[simp] theorem State.succeedAttempt_census (s : State) (c : Calibration) (code : BitVec 12) :
    (s.succeedAttempt c code).census = s.census :=
  rfl

@[simp] theorem State.intrude_census (s : State) (cycle : CycleNo) : (s.intrude cycle).census = s.census := by
  unfold State.intrude; (repeat' split) <;> simp

@[simp] theorem State.calibFrameEnd_census (s : State) (cycle : CycleNo) :
    (s.calibFrameEnd cycle).census = s.census := by
  unfold State.calibFrameEnd; (repeat' split) <;> simp

@[simp] theorem State.issueSlot_census (s : State) (cycle : CycleNo) (start : Tick) (slot : Option Slot) :
    (s.issueSlot cycle start slot).census = s.census := by
  unfold State.issueSlot; split <;> (try split) <;> simp

@[simp] theorem State.holdDarkCode_census (s : State) (code : BitVec 12) :
    (s.holdDarkCode code).census = s.census := by
  unfold State.holdDarkCode; split <;> (try split) <;> simp

@[simp] theorem State.converterLineDown_census (s : State) : (s.converterLineDown).census = s.census := by
  unfold State.converterLineDown; dsimp only; (repeat' split) <;> simp

@[simp] theorem State.deliverBurst_census (s : State) (g : Grant) (r : BurstResult) :
    (s.deliverBurst g r).census = s.census := by
  unfold State.deliverBurst; split <;> simp

@[simp] theorem State.deliverSighting_census (s : State) (g : Grant) (cycle : CycleNo) :
    (s.deliverSighting g cycle).census = s.census := by
  unfold State.deliverSighting; split <;> simp

@[simp] theorem State.sight_census (s : State) (k : Nat) (plan : StoredPlan) (r : Report) :
    (s.sight k plan r).census = s.census := by
  unfold State.sight; (repeat' split) <;> simp

@[simp] theorem State.stray_census (s : State) (k : Nat) (plan : StoredPlan) (r : Report) :
    (s.stray k plan r).census = s.census := by
  simp [State.stray]

@[simp] theorem State.matchBurst_census (s : State) (k j : Nat) (plan : StoredPlan) (g : Grant) (r : Report) (p : Nat) :
    (s.matchBurst k j plan g r p).census = s.census := by
  unfold State.matchBurst; dsimp only; (repeat' split) <;> simp

@[simp] theorem State.tellPlaced_census (cycle : CycleNo) (s : State) (e : OneShot) :
    (s.tellPlaced cycle e).census = s.census := by
  unfold State.tellPlaced; split <;> simp

@[simp] theorem State.placeSlot_census (s : State) (len : Nat) (p : Placing) :
    (s.placeSlot len p).1.census = s.census := by
  unfold State.placeSlot; dsimp only; (repeat' split) <;> simp

@[simp] theorem State.countOverrun_census (s : State) (cycle : CycleNo) (skipped : Bool) :
    (s.countOverrun cycle skipped).census = s.census := by
  unfold State.countOverrun; split <;> simp

@[simp] theorem State.repostShots_census (s : State) : (s.repostShots).census = s.census := by
  simp [State.repostShots, foldl_proj]

@[simp] theorem State.issuePlan_census (s : State) (p : Plan) (start : Tick) :
    (s.issuePlan p start).census = s.census := by
  simp [State.issuePlan]

@[simp] theorem State.departures_census (s : State) (carried : List LineNotice) :
    (s.departures carried).census = s.census := by
  simp [State.departures, foldl_proj]

@[simp] theorem State.repostRoster_census (s : State) : (s.repostRoster).census = s.census :=
  foldl_proj _ _ (fun s x => by simp) _ _

@[simp] theorem State.cycleStartPostings_census (s : State) : (s.cycleStartPostings).census = s.census := by
  simp [State.cycleStartPostings, foldl_proj]

@[simp] theorem State.advanceCycle_census (s : State) (c : Cycle) (len : Nat) :
    (s.advanceCycle c len).census = s.census := by
  unfold State.advanceCycle; dsimp only; (repeat' split) <;> simp

@[simp] theorem State.lineDownRecord_census (s : State) (t : Tag) : (s.lineDownRecord t).census = s.census := by
  unfold State.lineDownRecord; split <;> (try split) <;> simp

@[simp] theorem State.endDraining_census (s : State) : (s.endDraining).census = s.census := by
  unfold State.endDraining; split <;> (try split) <;> simp

/-! ## The lanes -/

@[simp] theorem State.changeTerm_lanes (s : State) (t : Tag) (h : Option Terminal) :
    (s.changeTerm t h).lanes = s.lanes := by
  unfold State.changeTerm; split <;> simp

@[simp] theorem State.queueNotice_lanes (s : State) (n : LineNotice) : (s.queueNotice n).lanes = s.lanes := by
  unfold State.queueNotice; split <;> simp

@[simp] theorem State.queueShot_lanes (s : State) (e : OneShot) : (s.queueShot e).lanes = s.lanes := by
  unfold State.queueShot; split <;> simp

@[simp] theorem State.rosterPost_lanes (s : State) (body : NoticeBody) : (s.rosterPost body).lanes = s.lanes := by
  unfold State.rosterPost; split <;> simp

@[simp] theorem State.standDown_lanes (s : State) (t : Tag) (reason : Reason) :
    (s.standDown t reason).lanes = s.lanes := by
  simp [State.standDown]

@[simp] theorem State.hushLong_lanes (s : State) (serial : Serial) : (s.hushLong serial).lanes = s.lanes := by
  simp [State.hushLong]

@[simp] theorem State.refuseStranger_lanes (s : State) (serial : Serial) (reason : StrangerReason) :
    (s.refuseStranger serial reason).lanes = s.lanes := by
  unfold State.refuseStranger; split <;> (try split) <;> simp

@[simp] theorem State.enroll_lanes (s : State) (t : Tag) (serial : Serial) (listed : Bool) (profile : ProfileNo) (coarse : Int) :
    (s.enroll t serial listed profile coarse).lanes = s.lanes := by
  simp [State.enroll]

@[simp] theorem State.hearNew_lanes (s : State) (serial : Serial) (coarse : Int) :
    (s.hearNew serial coarse).1.lanes = s.lanes := by
  unfold State.hearNew; dsimp only; (repeat' split) <;> simp

@[simp] theorem State.readmit_lanes (s : State) (t : Tag) (h : Terminal) (coarse : Int) :
    (s.readmit t h coarse).lanes = s.lanes := by
  simp [State.readmit]

@[simp] theorem State.hearHeld_lanes (s : State) (t : Tag) (h : Terminal) (coarse : Int) :
    (s.hearHeld t h coarse).1.lanes = s.lanes := by
  unfold State.hearHeld; (repeat' split) <;> simp

@[simp] theorem State.hear_lanes (s : State) (serial : Serial) (coarse : Int) :
    (s.hear serial coarse).1.lanes = s.lanes := by
  unfold State.hear; (repeat' split) <;> simp

@[simp] theorem State.parkRecord_lanes (s : State) (t : Tag) (h : Terminal) (reason : Reason) (hold : Nat) :
    (s.parkRecord t h reason hold).lanes = s.lanes := by
  simp [State.parkRecord]

@[simp] theorem State.parkPowerLoss_lanes (s : State) (t : Tag) (h : Terminal) :
    (s.parkPowerLoss t h).lanes = s.lanes := by
  simp [State.parkPowerLoss]

@[simp] theorem State.parkLost_lanes (s : State) (t : Tag) (h : Terminal) : (s.parkLost t h).lanes = s.lanes := by
  simp [State.parkLost]

@[simp] theorem State.postNudge_lanes (s : State) (t : Tag) (delta : Int) :
    (s.postNudge t delta).lanes = s.lanes := by
  unfold State.postNudge; split <;> simp

@[simp] theorem State.repostNudge_lanes (s : State) (t : Tag) : (s.repostNudge t).lanes = s.lanes := by
  unfold State.repostNudge; split <;> simp

@[simp] theorem State.nudgeDeparture_lanes (s : State) (cycle : CycleNo) (t : Tag) :
    (s.nudgeDeparture cycle t).lanes = s.lanes := by
  unfold State.nudgeDeparture; split <;> (try split) <;> simp

@[simp] theorem State.standingMiss_lanes (s : State) (t : Tag) (h : Terminal) (svc : Service) :
    (s.standingMiss t h svc).lanes = s.lanes := by
  simp [State.standingMiss]

@[simp] theorem State.standingClean_lanes (s : State) (t : Tag) (h : Terminal) (svc : Service) (r : BurstResult) :
    (s.standingClean t h svc r).lanes = s.lanes := by
  unfold State.standingClean; dsimp only; (repeat' split) <;> simp

@[simp] theorem State.standingClose_lanes (s : State) (t : Tag) (outcome : CloseOutcome) :
    (s.standingClose t outcome).lanes = s.lanes := by
  unfold State.standingClose; dsimp only; (repeat' split) <;> simp

@[simp] theorem State.returnClean_lanes (s : State) (t : Tag) (h : Terminal) (svc : Service) :
    (s.returnClean t h svc).lanes = s.lanes := by
  simp [State.returnClean]

@[simp] theorem State.supBurst_lanes (s : State) (t : Tag) (r : BurstResult) : (s.supBurst t r).lanes = s.lanes := by
  unfold State.supBurst; (repeat' split) <;> simp

@[simp] theorem State.returnPlaced_lanes (s : State) (t : Tag) : (s.returnPlaced t).lanes = s.lanes := by
  unfold State.returnPlaced; (repeat' split) <;> simp

@[simp] theorem State.supCapture_lanes (s : State) (t : Tag) (answer : CaptureAnswer) :
    (s.supCapture t answer).lanes = s.lanes := by
  unfold State.supCapture; split <;> (try split) <;> simp

@[simp] theorem State.postReturn_lanes (s : State) (t : Tag) : (s.postReturn t).lanes = s.lanes := by
  unfold State.postReturn; split <;> simp

@[simp] theorem State.repostReturn_lanes (s : State) (t : Tag) : (s.repostReturn t).lanes = s.lanes := by
  unfold State.repostReturn; split <;> simp

@[simp] theorem State.graceTick_lanes (s : State) (t : Tag) : (s.graceTick t).lanes = s.lanes := by
  unfold State.graceTick; dsimp only; (repeat' split) <;> simp

@[simp] theorem State.returnDue_lanes (s : State) (t : Tag) : (s.returnDue t).lanes = s.lanes := by
  unfold State.returnDue; (repeat' split) <;> simp

@[simp] theorem State.failCalibration_lanes (s : State) (c : Calibration) (cause : CalibCause) :
    (s.failCalibration c cause).lanes = s.lanes :=
  rfl

@[simp] theorem State.failAttempt_lanes (s : State) (c : Calibration) (cause : CalibCause) :
    (s.failAttempt c cause).lanes = s.lanes := by
  unfold State.failAttempt; split <;> simp

@[simp] theorem State.succeedAttempt_lanes (s : State) (c : Calibration) (code : BitVec 12) :
    (s.succeedAttempt c code).lanes = s.lanes :=
  rfl

@[simp] theorem State.intrude_lanes (s : State) (cycle : CycleNo) : (s.intrude cycle).lanes = s.lanes := by
  unfold State.intrude; (repeat' split) <;> simp

@[simp] theorem State.calibFrameEnd_lanes (s : State) (cycle : CycleNo) :
    (s.calibFrameEnd cycle).lanes = s.lanes := by
  unfold State.calibFrameEnd; (repeat' split) <;> simp

@[simp] theorem State.issueSlot_lanes (s : State) (cycle : CycleNo) (start : Tick) (slot : Option Slot) :
    (s.issueSlot cycle start slot).lanes = s.lanes := by
  unfold State.issueSlot; split <;> (try split) <;> simp

@[simp] theorem State.holdDarkCode_lanes (s : State) (code : BitVec 12) : (s.holdDarkCode code).lanes = s.lanes := by
  unfold State.holdDarkCode; split <;> (try split) <;> simp

@[simp] theorem State.converterLineDown_lanes (s : State) : (s.converterLineDown).lanes = s.lanes := by
  unfold State.converterLineDown; dsimp only; (repeat' split) <;> simp

@[simp] theorem State.candidate_lanes (s : State) (serial : Serial) (p gapStart : Nat) :
    (s.candidate serial p gapStart).lanes = s.lanes := by
  simp [State.candidate]

@[simp] theorem State.testPassEnd_lanes (s : State) : (s.testPassEnd).lanes = s.lanes := by
  unfold State.testPassEnd; dsimp only; (repeat' split) <;> simp

@[simp] theorem State.countGarbled_lanes (s : State) (garble : Bool) : (s.countGarbled garble).lanes = s.lanes := by
  unfold State.countGarbled; split <;> simp

@[simp] theorem State.splitNode_lanes (s : State) (o : Outstanding) : (s.splitNode o).lanes = s.lanes := by
  unfold State.splitNode; split <;> simp

@[simp] theorem State.censusClose_lanes (s : State) (garble : Bool) : (s.censusClose garble).lanes = s.lanes := by
  unfold State.censusClose; dsimp only; (repeat' split) <;> simp

@[simp] theorem State.censusLineDown_lanes (s : State) : (s.censusLineDown).lanes = s.lanes := by
  unfold State.censusLineDown; split <;> simp

@[simp] theorem State.placeGap_lanes (s : State) (cycle : CycleNo) (len : Nat) (p : Placing) :
    (s.placeGap cycle len p).1.lanes = s.lanes := by
  unfold State.placeGap; dsimp only; (repeat' split) <;> simp

@[simp] theorem State.placeSlot_lanes (s : State) (len : Nat) (p : Placing) :
    (s.placeSlot len p).1.lanes = s.lanes := by
  unfold State.placeSlot; dsimp only; (repeat' split) <;> simp

@[simp] theorem State.countOverrun_lanes (s : State) (cycle : CycleNo) (skipped : Bool) :
    (s.countOverrun cycle skipped).lanes = s.lanes := by
  unfold State.countOverrun; split <;> simp

@[simp] theorem State.issuePlan_lanes (s : State) (p : Plan) (start : Tick) :
    (s.issuePlan p start).lanes = s.lanes := by
  simp [State.issuePlan]

@[simp] theorem State.repostRoster_lanes (s : State) : (s.repostRoster).lanes = s.lanes :=
  foldl_proj _ _ (fun s x => by simp) _ _

@[simp] theorem State.advanceCycle_lanes (s : State) (c : Cycle) (len : Nat) :
    (s.advanceCycle c len).lanes = s.lanes := by
  unfold State.advanceCycle; dsimp only; (repeat' split) <;> simp

@[simp] theorem State.light_lanes (s : State) (now : Tick) : (s.light now).lanes = s.lanes := by simp [State.light]

@[simp] theorem State.lineDownRecord_lanes (s : State) (t : Tag) : (s.lineDownRecord t).lanes = s.lanes := by
  unfold State.lineDownRecord; split <;> (try split) <;> simp

@[simp] theorem State.endDraining_lanes (s : State) : (s.endDraining).lanes = s.lanes := by
  unfold State.endDraining; split <;> (try split) <;> simp

/-! ## The Supervisor -/

@[simp] theorem State.changeTerm_sup (s : State) (t : Tag) (h : Option Terminal) :
    (s.changeTerm t h).sup = s.sup := by
  unfold State.changeTerm; split <;> simp

@[simp] theorem State.queueNotice_sup (s : State) (n : LineNotice) : (s.queueNotice n).sup = s.sup := by
  unfold State.queueNotice; split <;> simp

@[simp] theorem State.queueShot_sup (s : State) (e : OneShot) : (s.queueShot e).sup = s.sup := by
  unfold State.queueShot; split <;> simp

@[simp] theorem State.rosterPost_sup (s : State) (body : NoticeBody) : (s.rosterPost body).sup = s.sup := by
  unfold State.rosterPost; split <;> simp

@[simp] theorem State.standDown_sup (s : State) (t : Tag) (reason : Reason) : (s.standDown t reason).sup = s.sup := by
  simp [State.standDown]

@[simp] theorem State.lanePostNotice_sup (s : State) (i : LaneNo) (w : LaneWork) (body : NoticeBody) :
    (s.lanePostNotice i w body).sup = s.sup := by
  simp [State.lanePostNotice]

@[simp] theorem State.lanePostShot_sup (s : State) (i : LaneNo) (w : LaneWork) (e : OneShot) :
    (s.lanePostShot i w e).sup = s.sup := by
  simp [State.lanePostShot]

@[simp] theorem State.hushLong_sup (s : State) (serial : Serial) : (s.hushLong serial).sup = s.sup := by
  simp [State.hushLong]

@[simp] theorem State.refuseStranger_sup (s : State) (serial : Serial) (reason : StrangerReason) :
    (s.refuseStranger serial reason).sup = s.sup := by
  unfold State.refuseStranger; split <;> (try split) <;> simp

@[simp] theorem State.enroll_sup (s : State) (t : Tag) (serial : Serial) (listed : Bool) (profile : ProfileNo) (coarse : Int) :
    (s.enroll t serial listed profile coarse).sup = s.sup := by
  simp [State.enroll]

@[simp] theorem State.hearNew_sup (s : State) (serial : Serial) (coarse : Int) :
    (s.hearNew serial coarse).1.sup = s.sup := by
  unfold State.hearNew; dsimp only; (repeat' split) <;> simp

@[simp] theorem State.readmit_sup (s : State) (t : Tag) (h : Terminal) (coarse : Int) :
    (s.readmit t h coarse).sup = s.sup := by
  simp [State.readmit]

@[simp] theorem State.hearHeld_sup (s : State) (t : Tag) (h : Terminal) (coarse : Int) :
    (s.hearHeld t h coarse).1.sup = s.sup := by
  unfold State.hearHeld; (repeat' split) <;> simp

@[simp] theorem State.hear_sup (s : State) (serial : Serial) (coarse : Int) :
    (s.hear serial coarse).1.sup = s.sup := by
  unfold State.hear; (repeat' split) <;> simp

@[simp] theorem State.parkRecord_sup (s : State) (t : Tag) (h : Terminal) (reason : Reason) (hold : Nat) :
    (s.parkRecord t h reason hold).sup = s.sup := by
  simp [State.parkRecord]

@[simp] theorem State.laneFail_sup (s : State) (i : LaneNo) (w : LaneWork) (reason : Reason) :
    (s.laneFail i w reason).sup = s.sup := by
  unfold State.laneFail; dsimp only; (repeat' split) <;> simp

@[simp] theorem State.laneComplete_sup (s : State) (i : LaneNo) (w : LaneWork) :
    (s.laneComplete i w).sup = s.sup := by
  unfold State.laneComplete; dsimp only; (repeat' split) <;> simp

@[simp] theorem State.seize_sup (s : State) (i : LaneNo) : (s.seize i).sup = s.sup := by
  unfold State.seize; dsimp only; (repeat' split) <;> simp

@[simp] theorem State.seizeAll_sup (s : State) : (s.seizeAll).sup = s.sup := foldl_proj _ _ (fun s x => by simp) _ _

@[simp] theorem State.laneDeparture_sup (s : State) (carried : List LineNotice) (i : LaneNo) :
    (s.laneDeparture carried i).sup = s.sup := by
  unfold State.laneDeparture; (repeat' split) <;> simp

@[simp] theorem State.laneRepostNotice_sup (s : State) (i : LaneNo) : (s.laneRepostNotice i).sup = s.sup := by
  unfold State.laneRepostNotice; split <;> (try split) <;> simp

@[simp] theorem State.laneRepostShot_sup (s : State) (i : LaneNo) : (s.laneRepostShot i).sup = s.sup := by
  unfold State.laneRepostShot; split <;> (try split) <;> simp

@[simp] theorem State.lanePlaced_sup (s : State) (i : LaneNo) (cycle : CycleNo) (kind : GrantKind) :
    (s.lanePlaced i cycle kind).sup = s.sup := by
  unfold State.lanePlaced; split <;> (try split) <;> simp

@[simp] theorem State.postProbe_sup (s : State) (i : LaneNo) (w : LaneWork) (p : ProbeWork) :
    (s.postProbe i w p).sup = s.sup := by
  simp [State.postProbe]

@[simp] theorem State.enterProbe_sup (s : State) (i : LaneNo) (w : LaneWork) : (s.enterProbe i w).sup = s.sup := by
  simp [State.enterProbe]

@[simp] theorem State.laneCompute_sup (s : State) (i : LaneNo) (w : LaneWork) (p : ProbeWork) :
    (s.laneCompute i w p).sup = s.sup := by
  unfold State.laneCompute; dsimp only; (repeat' split) <;> simp

@[simp] theorem State.probeGoOn_sup (s : State) (i : LaneNo) (w : LaneWork) (p : ProbeWork) :
    (s.probeGoOn i w p).sup = s.sup := by
  unfold State.probeGoOn; split <;> (try split) <;> simp

@[simp] theorem State.probeFailure_sup (s : State) (i : LaneNo) (w : LaneWork) (p : ProbeWork) (kind : FailKind) :
    (s.probeFailure i w p kind).sup = s.sup := by
  unfold State.probeFailure; dsimp only; (repeat' split) <;> simp

@[simp] theorem State.settleProbe_sup (s : State) (i : LaneNo) (w : LaneWork) (p : ProbeWork) (held : HeldGrant) (outcome : CloseOutcome) :
    (s.settleProbe i w p held outcome).sup = s.sup := by
  unfold State.settleProbe; dsimp only; (repeat' split) <;> simp

@[simp] theorem State.offerFailure_sup (s : State) (i : LaneNo) (w : LaneWork) (attempts : Nat) (kind : FailKind) :
    (s.offerFailure i w attempts kind).sup = s.sup := by
  unfold State.offerFailure; dsimp only; (repeat' split) <;> simp

@[simp] theorem State.settleOffer_sup (s : State) (i : LaneNo) (w : LaneWork) (attempts : Nat) (held : HeldGrant) (outcome : CloseOutcome) :
    (s.settleOffer i w attempts held outcome).sup = s.sup := by
  unfold State.settleOffer; dsimp only; (repeat' split) <;> simp

@[simp] theorem State.trimFailure_sup (s : State) (i : LaneNo) (w : LaneWork) (attempts : Nat) (last : Option SettledTrim) (kind : FailKind) :
    (s.trimFailure i w attempts last kind).sup = s.sup := by
  unfold State.trimFailure; dsimp only; (repeat' split) <;> simp

@[simp] theorem State.settleTrim_sup (s : State) (i : LaneNo) (w : LaneWork) (attempts : Nat) (cycle : CycleNo) (held : HeldGrant) (outcome : CloseOutcome) :
    (s.settleTrim i w attempts cycle held outcome).sup = s.sup := by
  unfold State.settleTrim; split <;> (try split) <;> simp

@[simp] theorem State.settleIfDue_sup (s : State) (i : LaneNo) (w : LaneWork) (cycle : CycleNo) (held : HeldGrant) :
    (s.settleIfDue i w cycle held).sup = s.sup := by
  unfold State.settleIfDue; (repeat' split) <;> simp

@[simp] theorem State.laneBurst_sup (s : State) (i : LaneNo) (t : Tag) (r : BurstResult) :
    (s.laneBurst i t r).sup = s.sup := by
  unfold State.laneBurst; (repeat' split) <;> simp

@[simp] theorem State.laneClose_sup (s : State) (i : LaneNo) (t : Tag) (cycle : CycleNo) (kind : GrantKind) (outcome : CloseOutcome) :
    (s.laneClose i t cycle kind outcome).sup = s.sup := by
  unfold State.laneClose; split <;> simp

@[simp] theorem State.laneCapture_sup (s : State) (i : LaneNo) (t : Tag) (cycle : CycleNo) (answer : CaptureAnswer) :
    (s.laneCapture i t cycle answer).sup = s.sup := by
  unfold State.laneCapture; split <;> (try split) <;> simp

@[simp] theorem State.laneSighting_sup (s : State) (i : LaneNo) (t : Tag) (cycle : CycleNo) :
    (s.laneSighting i t cycle).sup = s.sup := by
  unfold State.laneSighting; (repeat' split) <;> simp

@[simp] theorem State.nudgeDeparture_sup (s : State) (cycle : CycleNo) (t : Tag) :
    (s.nudgeDeparture cycle t).sup = s.sup := by
  unfold State.nudgeDeparture; split <;> (try split) <;> simp

@[simp] theorem State.standingMiss_sup (s : State) (t : Tag) (h : Terminal) (svc : Service) :
    (s.standingMiss t h svc).sup = s.sup := by
  simp [State.standingMiss]

@[simp] theorem State.returnPlaced_sup (s : State) (t : Tag) : (s.returnPlaced t).sup = s.sup := by
  unfold State.returnPlaced; (repeat' split) <;> simp

@[simp] theorem State.supCapture_sup (s : State) (t : Tag) (answer : CaptureAnswer) :
    (s.supCapture t answer).sup = s.sup := by
  unfold State.supCapture; split <;> (try split) <;> simp

@[simp] theorem State.answerCapture_sup (s : State) (owner : Owner) (t : Tag) (cycle : CycleNo) (answer : CaptureAnswer) :
    (s.answerCapture owner t cycle answer).sup = s.sup := by
  unfold State.answerCapture; split <;> simp

@[simp] theorem State.refuseCapture_sup (s : State) (owner : Owner) (t : Tag) (cycle : CycleNo) :
    (s.refuseCapture owner t cycle).sup = s.sup := by
  simp [State.refuseCapture]

@[simp] theorem State.requestCapture_sup (s : State) (owner : Owner) (t : Tag) (cycle : CycleNo) (begun : Tick) :
    (s.requestCapture owner t cycle begun).sup = s.sup := by
  unfold State.requestCapture; dsimp only; (repeat' split) <;> simp

@[simp] theorem State.failCalibration_sup (s : State) (c : Calibration) (cause : CalibCause) :
    (s.failCalibration c cause).sup = s.sup :=
  rfl

@[simp] theorem State.failAttempt_sup (s : State) (c : Calibration) (cause : CalibCause) :
    (s.failAttempt c cause).sup = s.sup := by
  unfold State.failAttempt; split <;> simp

@[simp] theorem State.succeedAttempt_sup (s : State) (c : Calibration) (code : BitVec 12) :
    (s.succeedAttempt c code).sup = s.sup :=
  rfl

@[simp] theorem State.intrude_sup (s : State) (cycle : CycleNo) : (s.intrude cycle).sup = s.sup := by
  unfold State.intrude; (repeat' split) <;> simp

@[simp] theorem State.calibFrameEnd_sup (s : State) (cycle : CycleNo) : (s.calibFrameEnd cycle).sup = s.sup := by
  unfold State.calibFrameEnd; (repeat' split) <;> simp

@[simp] theorem State.issueSlot_sup (s : State) (cycle : CycleNo) (start : Tick) (slot : Option Slot) :
    (s.issueSlot cycle start slot).sup = s.sup := by
  unfold State.issueSlot; split <;> (try split) <;> simp

@[simp] theorem State.holdDarkCode_sup (s : State) (code : BitVec 12) : (s.holdDarkCode code).sup = s.sup := by
  unfold State.holdDarkCode; split <;> (try split) <;> simp

@[simp] theorem State.converterLineDown_sup (s : State) : (s.converterLineDown).sup = s.sup := by
  unfold State.converterLineDown; dsimp only; (repeat' split) <;> simp

@[simp] theorem State.candidate_sup (s : State) (serial : Serial) (p gapStart : Nat) :
    (s.candidate serial p gapStart).sup = s.sup := by
  simp [State.candidate]

@[simp] theorem State.testPassEnd_sup (s : State) : (s.testPassEnd).sup = s.sup := by
  unfold State.testPassEnd; dsimp only; (repeat' split) <;> simp

@[simp] theorem State.countGarbled_sup (s : State) (garble : Bool) : (s.countGarbled garble).sup = s.sup := by
  unfold State.countGarbled; split <;> simp

@[simp] theorem State.splitNode_sup (s : State) (o : Outstanding) : (s.splitNode o).sup = s.sup := by
  unfold State.splitNode; split <;> simp

@[simp] theorem State.censusClose_sup (s : State) (garble : Bool) : (s.censusClose garble).sup = s.sup := by
  unfold State.censusClose; dsimp only; (repeat' split) <;> simp

@[simp] theorem State.censusLineDown_sup (s : State) : (s.censusLineDown).sup = s.sup := by
  unfold State.censusLineDown; split <;> simp

@[simp] theorem State.deliverSighting_sup (s : State) (g : Grant) (cycle : CycleNo) :
    (s.deliverSighting g cycle).sup = s.sup := by
  unfold State.deliverSighting; split <;> simp

@[simp] theorem State.sight_sup (s : State) (k : Nat) (plan : StoredPlan) (r : Report) :
    (s.sight k plan r).sup = s.sup := by
  unfold State.sight; (repeat' split) <;> simp

@[simp] theorem State.stray_sup (s : State) (k : Nat) (plan : StoredPlan) (r : Report) :
    (s.stray k plan r).sup = s.sup := by
  simp [State.stray]

@[simp] theorem State.censusBurst_sup (s : State) (k j : Nat) (plan : StoredPlan) (g : Grant) (r : Report) (p : Nat) :
    (s.censusBurst k j plan g r p).sup = s.sup := by
  unfold State.censusBurst; (repeat' split) <;> simp

@[simp] theorem State.tellPlaced_sup (cycle : CycleNo) (s : State) (e : OneShot) :
    (s.tellPlaced cycle e).sup = s.sup := by
  unfold State.tellPlaced; split <;> simp

@[simp] theorem State.placeGap_sup (s : State) (cycle : CycleNo) (len : Nat) (p : Placing) :
    (s.placeGap cycle len p).1.sup = s.sup := by
  unfold State.placeGap; dsimp only; (repeat' split) <;> simp

@[simp] theorem State.placeSlot_sup (s : State) (len : Nat) (p : Placing) : (s.placeSlot len p).1.sup = s.sup := by
  unfold State.placeSlot; dsimp only; (repeat' split) <;> simp

@[simp] theorem State.countOverrun_sup (s : State) (cycle : CycleNo) (skipped : Bool) :
    (s.countOverrun cycle skipped).sup = s.sup := by
  unfold State.countOverrun; split <;> simp

@[simp] theorem State.issuePlan_sup (s : State) (p : Plan) (start : Tick) : (s.issuePlan p start).sup = s.sup := by
  simp [State.issuePlan]

@[simp] theorem State.departures_sup (s : State) (carried : List LineNotice) :
    (s.departures carried).sup = s.sup := by
  simp [State.departures, foldl_proj]

@[simp] theorem State.repostRoster_sup (s : State) : (s.repostRoster).sup = s.sup :=
  foldl_proj _ _ (fun s x => by simp) _ _

@[simp] theorem State.advanceCycle_sup (s : State) (c : Cycle) (len : Nat) : (s.advanceCycle c len).sup = s.sup := by
  unfold State.advanceCycle; dsimp only; (repeat' split) <;> simp

@[simp] theorem State.light_sup (s : State) (now : Tick) : (s.light now).sup = s.sup := by simp [State.light]

@[simp] theorem State.lineDownRecord_sup (s : State) (t : Tag) : (s.lineDownRecord t).sup = s.sup := by
  unfold State.lineDownRecord; split <;> (try split) <;> simp

@[simp] theorem State.endDraining_sup (s : State) : (s.endDraining).sup = s.sup := by
  unfold State.endDraining; split <;> (try split) <;> simp

end Sys2Proof.Machine
end

