-- ==== Sys2Proof/Laws/Ops.lean ====
section
/-! SUPPORT. One lemma for each shared operation that says what it can do: records and their flags, postings, lanes, the Supervisor's drop, pass ends, the receiver, and the request handler. -/

namespace Sys2Proof.Machine

/-! ## Records (R23, R24) -/

theorem satInc_eq_min (cap n : Nat) : satInc cap n = min cap (n + 1) := by
  unfold satInc; split <;> omega

theorem satInc_le (cap n : Nat) : satInc cap n ≤ cap := by
  unfold satInc; split <;> omega

theorem State.term_putTerm (s : State) (t u : Tag) (h : Option Terminal) :
    (s.putTerm t h).term u = if u = t then h else s.term u := by
  simp only [State.term, State.putTerm, Bank.get_update]; split <;> simp

@[simp] theorem State.term_noteChange (s : State) (t u : Tag) : (s.noteChange t).term u = s.term u := by
  simp only [State.term, State.noteChange, Bank.get_update]; split <;> simp

/-- What a change of a record leaves in the records. -/
theorem State.term_changeTerm (s : State) (t u : Tag) (h : Option Terminal) :
    (s.changeTerm t h).term u = if u = t then h else s.term u := by
  unfold State.changeTerm; split <;> simp [State.term_putTerm]

@[simp] theorem State.term_changeTerm_self (s : State) (t : Tag) (h : Option Terminal) :
    (s.changeTerm t h).term t = h := by
  simp [State.term_changeTerm]

theorem State.term_changeTerm_of_ne (s : State) {t u : Tag} (h : Option Terminal) (ne : u ≠ t) :
    (s.changeTerm t h).term u = s.term u := by
  simp [State.term_changeTerm, ne]

theorem notedOnce_noteChange (s : State) (t : Tag) : notedOnce s (s.noteChange t) t := by
  simp [notedOnce, State.noteChange, satInc_eq_min]

theorem notNoted_noteChange (s : State) {t u : Tag} (ne : u ≠ t) : notNoted s (s.noteChange t) u := by
  simp [notNoted, State.noteChange, Bank.get_set_of_ne, Bank.get_update_of_ne, ne]

theorem notNoted_putTerm (s : State) (t u : Tag) (h : Option Terminal) : notNoted s (s.putTerm t h) u := by
  simp only [notNoted, State.putTerm, Bank.get_update]; split <;> simp

/-- A change that shows is noted once, in the record it changes. -/
theorem notedOnce_changeTerm (s : State) (t : Tag) (h : Option Terminal) (ne : visibleOf (s.term t) ≠ visibleOf h) :
    notedOnce s (s.changeTerm t h) t := by
  simp [notedOnce, State.changeTerm, ne, State.noteChange, State.putTerm, satInc_eq_min]

/-- A change that does not show is not noted. -/
theorem notNoted_changeTerm_of_eq (s : State) (t u : Tag) (h : Option Terminal)
    (e : visibleOf (s.term t) = visibleOf h) : notNoted s (s.changeTerm t h) u := by
  simpa [State.changeTerm, e] using notNoted_putTerm s t u h

/-- No other record's change is noted. -/
theorem notNoted_changeTerm_of_ne (s : State) {t u : Tag} (h : Option Terminal) (ne : u ≠ t) :
    notNoted s (s.changeTerm t h) u := by
  unfold State.changeTerm
  split
  · exact notNoted_putTerm s t u h
  · simp [notNoted, State.noteChange, State.putTerm, Bank.get_set_of_ne, Bank.get_update_of_ne, ne]

/-! ## The line notice queue (R13) -/

theorem postingOf_cases (state : LineState) (fill cap : Nat) :
    (postingOf state fill cap = .queued ∧ state = .running ∧ fill < cap) ∨
      (postingOf state fill cap = .full ∧ state = .running ∧ cap ≤ fill) ∨
      (postingOf state fill cap = .discarded ∧ state ≠ .running) := by
  unfold postingOf; split
  · split <;> simp_all
  · simp_all

/-- All that queueing a line notice can do. -/
theorem State.queueNotice_eq (s : State) (n : LineNotice) :
    s.queueNotice n =
      if s.line.state = .running ∧ s.line.notices.length < 16 then s.setNotices (s.line.notices ++ [n]) else s := by
  unfold State.queueNotice State.noticePosting
  rcases postingOf_cases s.line.state s.line.notices.length 16 with ⟨e, a, b⟩ | ⟨e, a, b⟩ | ⟨e, a⟩ <;> rw [e]
  · simp [a, b]
  · simp [Nat.not_lt.mpr b]
  · simp [a]

/-- All that a posting of the Roster's can do. -/
theorem State.rosterPost_eq (s : State) (body : NoticeBody) :
    s.rosterPost body =
      if s.line.state ≠ .running then s
      else if s.line.notices.length < 16 then s.setNotices (s.line.notices ++ [⟨body, .roster⟩])
      else s.setWaiting (s.roster.waiting ++ [⟨body, .roster⟩]) := by
  unfold State.rosterPost State.queueNotice State.noticePosting
  rcases postingOf_cases s.line.state s.line.notices.length 16 with ⟨e, a, b⟩ | ⟨e, a, b⟩ | ⟨e, a⟩ <;>
    simp only [e]
  · simp [a, b]
  · simp [a, Nat.not_lt.mpr b]
  · simp [a]

/-- In RUNNING a posting of the Roster's is queued at the tail, or waits behind those that wait. -/
theorem State.rosterPosts_rosterPost (s : State) (body : NoticeBody) (h : s.line.state = .running) :
    s.RosterPosts (s.rosterPost body) body := by
  rw [State.rosterPost_eq]
  by_cases full : s.line.notices.length < 16 <;>
    simp [h, full, State.RosterPosts, Nat.not_le.mpr, Nat.not_lt.mp]

/-- Outside RUNNING a posting of the Roster's is discarded. -/
theorem State.postsNothing_rosterPost (s : State) (body : NoticeBody) (h : s.line.state ≠ .running) :
    s.PostsNothing (s.rosterPost body) := by
  rw [State.rosterPost_eq]
  simp [h, State.PostsNothing]

/-- All that a posting of a lane's can do. -/
theorem State.lanePostNotice_eq (s : State) (i : LaneNo) (w : LaneWork) (body : NoticeBody) :
    s.lanePostNotice i w body =
      if s.line.state ≠ .running then s.setWork i (some { w with notice := .absent })
      else if s.line.notices.length < 16 then
        (s.setNotices (s.line.notices ++ [⟨body, .lane i (s.lanes.get i).seizure⟩])).setWork i
          (some { w with notice := .queued body })
      else s.setWork i (some { w with notice := .waiting body }) := by
  unfold State.lanePostNotice State.queueNotice State.noticePosting
  rcases postingOf_cases s.line.state s.line.notices.length 16 with ⟨e, a, b⟩ | ⟨e, a, b⟩ | ⟨e, a⟩ <;>
    simp only [e]
  · simp [a, b]
  · simp [a, Nat.not_lt.mpr b]
  · simp [a]

/-! ## The one-shot queue (R78) -/

/-- All that queueing a one-shot entry can do. -/
theorem State.queueShot_eq (s : State) (e : OneShot) :
    s.queueShot e =
      if s.line.state = .running ∧ s.planner.shots.length < 8 then s.setShots (s.planner.shots ++ [e]) else s := by
  unfold State.queueShot State.shotPosting
  rcases postingOf_cases s.line.state s.planner.shots.length 8 with ⟨p, a, b⟩ | ⟨p, a, b⟩ | ⟨p, a⟩ <;> rw [p]
  · simp [a, b]
  · simp [Nat.not_lt.mpr b]
  · simp [a]

/-- All that a lane's posting of a one-shot can do. -/
theorem State.lanePostShot_eq (s : State) (i : LaneNo) (w : LaneWork) (e : OneShot) :
    s.lanePostShot i w e =
      if s.line.state ≠ .running then s.setWork i (some { w with shot := .absent })
      else if s.planner.shots.length < 8 then
        (s.setShots (s.planner.shots ++ [e])).setWork i (some { w with shot := .queued })
      else s.setWork i (some { w with shot := .waiting e }) := by
  unfold State.lanePostShot State.queueShot State.shotPosting
  rcases postingOf_cases s.line.state s.planner.shots.length 8 with ⟨p, a, b⟩ | ⟨p, a, b⟩ | ⟨p, a⟩ <;>
    simp only [p]
  · simp [a, b]
  · simp [a, Nat.not_lt.mpr b]
  · simp [a]

/-- All that the Supervisor's posting of a RETURN can do. -/
theorem State.postReturn_eq (s : State) (t : Tag) :
    s.postReturn t =
      if s.line.state ≠ .running then s
      else if s.planner.shots.length < 8 then s.setShots (s.planner.shots ++ [returnShot t])
      else s.updSup t fun x => { x with waitReturn := true } := by
  unfold State.postReturn State.queueShot State.shotPosting
  rcases postingOf_cases s.line.state s.planner.shots.length 8 with ⟨p, a, b⟩ | ⟨p, a, b⟩ | ⟨p, a⟩ <;>
    simp only [p]
  · simp [a, b]
  · simp [a, Nat.not_lt.mpr b]
  · simp [a]

/-- All that the Supervisor's posting of a NUDGE can do. -/
theorem State.postNudge_eq (s : State) (t : Tag) (delta : Int) :
    s.postNudge t delta =
      if s.line.state ≠ .running then s
      else if s.line.notices.length < 16 then s.setNotices (s.line.notices ++ [⟨.nudge t delta, .supervisor⟩])
      else s.updSup t fun x => { x with waitNudge := some delta } := by
  unfold State.postNudge State.queueNotice State.noticePosting
  rcases postingOf_cases s.line.state s.line.notices.length 16 with ⟨p, a, b⟩ | ⟨p, a, b⟩ | ⟨p, a⟩ <;>
    simp only [p]
  · simp [a, b]
  · simp [a, Nat.not_lt.mpr b]
  · simp [a]

/-! ## Lanes (R118, R135) -/

theorem State.work_setWork (s : State) (i j : LaneNo) (w : Option LaneWork) :
    (s.setWork i w).work j = if j = i then w else s.work j := by
  simp only [State.work, State.setWork, Bank.get_update]; split <;> simp

@[simp] theorem State.seizure_setWork (s : State) (i j : LaneNo) (w : Option LaneWork) :
    ((s.setWork i w).lanes.get j).seizure = (s.lanes.get j).seizure := by
  simp only [State.setWork, Bank.get_update]; split <;> simp

/-- The end of a lane: that lane is FREE with its seizure number kept, and no other lane changes. -/
theorem State.work_freeLane (s : State) (i j : LaneNo) :
    (s.freeLane i).work j = if j = i then none else s.work j := by
  unfold State.freeLane; rw [State.work_setWork]; rfl

@[simp] theorem State.seizure_freeLane (s : State) (i j : LaneNo) :
    ((s.freeLane i).lanes.get j).seizure = (s.lanes.get j).seizure := by
  unfold State.freeLane; rw [State.seizure_setWork]; rfl

/-- The end of a lane withdraws that lane's one-shot entries and no other. -/
theorem State.mem_shots_freeLane (s : State) (i : LaneNo) (e : OneShot) :
    e ∈ (s.freeLane i).planner.shots ↔ e ∈ s.planner.shots ∧ e.owner ≠ .lane i := by
  simp [State.freeLane, State.setWork]

@[simp] theorem State.term_freeLane (s : State) (i : LaneNo) (t : Tag) : (s.freeLane i).term t = s.term t := rfl

/-! ## The Supervisor's drop (R149) -/

theorem State.sup_supDrop (s : State) (t u : Tag) :
    (s.supDrop t).sup.get u = if u = t then .empty else s.sup.get u := by
  simp only [State.supDrop, State.unqueueReturn, State.updSup, State.setShots, Bank.get_update]

@[simp] theorem State.term_supDrop (s : State) (t u : Tag) : (s.supDrop t).term u = s.term u := rfl

theorem State.mem_shots_supDrop (s : State) (t : Tag) (e : OneShot) :
    e ∈ (s.supDrop t).planner.shots ↔ e ∈ s.planner.shots ∧ ¬(e.owner = .supervisor ∧ e.tag = t) := by
  simp only [State.supDrop_planner_shots, List.mem_filter, Bool.not_eq_true', Bool.and_eq_false_iff, beq_eq_false_iff_ne]
  tauto

/-! ## The withdrawal of a RETURN (R80) -/

theorem State.sup_withdrawReturn (s : State) (t u : Tag) :
    (s.withdrawReturn t).sup.get u =
      if u = t then { s.sup.get t with waitReturn := false } else s.sup.get u := by
  simp only [State.withdrawReturn_sup, Bank.get_update]
  split
  · next h => rw [h]
  · rfl

@[simp] theorem State.term_withdrawReturn (s : State) (t u : Tag) : (s.withdrawReturn t).term u = s.term u := rfl

theorem State.mem_shots_withdrawReturn (s : State) (t : Tag) (e : OneShot) :
    e ∈ (s.withdrawReturn t).planner.shots ↔ e ∈ s.planner.shots ∧ ¬(e.owner = .supervisor ∧ e.tag = t) := by
  simp only [State.withdrawReturn_planner_shots, List.mem_filter, Bool.not_eq_true', Bool.and_eq_false_iff,
    beq_eq_false_iff_ne]
  tauto

/-! ## Leaving a state (R30, R136, R149) -/

@[simp] theorem State.term_detach (s : State) (t u : Tag) (h : Terminal) : (s.detach t h).term u = s.term u := by
  unfold State.detach; split <;> simp [State.term]

theorem State.lanes_detach (s : State) (t : Tag) (h : Terminal) (j : LaneNo) :
    (s.detach t h).work j = if h.lane = some j then none else s.work j := by
  unfold State.detach Terminal.lane
  cases h.phase <;> first | rfl | simp [State.work_freeLane, eq_comm]

/-! ## Hearings (R45) -/

/-- A refused stranger: at most one entry joins the stranger list, and no serial joins it twice. -/
theorem State.strangers_refuseStranger (s : State) (serial : Serial) (reason : StrangerReason) :
    (s.refuseStranger serial reason).roster.strangers =
      if (s.roster.strangers.any fun x => x.serial = serial) = false ∧ s.roster.strangers.length < 16 then
        s.roster.strangers ++ [⟨serial, reason, s.cycleNo⟩]
      else s.roster.strangers := by
  unfold State.refuseStranger State.hushLong
  dsimp only
  rw [State.rosterPost_eq]
  repeat' split
  all_goals simp_all

/-! ## Pass ends (R112) -/

/-- All that a pass end does. -/
theorem State.endPass_eq (s : State) (kind : PassEnd) (cycle : CycleNo) :
    s.endPass kind cycle =
      { s with
        census.lastPass := some { kind := kind, cycle := cycle, counters := s.census.counters, tie := s.census.tie }
        census.passes := if kind = .complete then satInc 255 s.census.passes else s.census.passes
        link.kinds.census := true } := rfl

/-- All that a halt of the census does. -/
theorem State.haltCensus_eq (s : State) (kind : PassEnd) (cycle : CycleNo) :
    s.haltCensus kind cycle =
      { s with
        census :=
          { s.census with
            stack := []
            outstanding := none
            wait := 0
            state := .stopped
            lastPass := some { kind := kind, cycle := cycle, counters := s.census.counters, tie := s.census.tie }
            passes := if kind = .complete then satInc 255 s.census.passes else s.census.passes }
        link.kinds.census := true } := rfl

/-! ## The transmitter's choice (R174, R176) -/

/-- A frame that is being sent goes on: the transmitter makes no choice. -/
theorem State.chooseAgain_of_sending {s : State} {frame : List Byte} (h : s.link.tx = .sending frame) :
    s.chooseAgain = s := by
  simp [State.chooseAgain, h]

/-- A transmitter between frames makes the choice that the end of a frame makes. -/
theorem State.chooseAgain_of_between {s : State} (h : s.link.tx = .betweenFrames) :
    s.chooseAgain = s.endFrameSent := by
  have e : { s with link.tx := .betweenFrames } = s := by
    cases s with
    | mk line roster census planner intake lanes sup conv link pending free =>
      cases link; simp_all
  simp [State.chooseAgain, State.endFrameSent, h, e]

/-- All that a choice can write: the transmitter, the reply and the notice that it takes with their flags and counts, and
the count of the replies ahead of a restart. What the records hold beside their changes counts stays. -/
theorem State.chooseFrame_keeps (s : State) :
    ∃ tx outbound handler kinds recFlags records transitions passes overruns,
      s.chooseFrame =
        { s with
          link.tx := tx, link.outbound := outbound, link.handler := handler, link.kinds := kinds
          link.recFlags := recFlags, roster.records := records, line.transitions := transitions
          census.passes := passes, planner.overruns := overruns } ∧
      (∀ t : Tag, (records.get t).term = (s.roster.records.get t).term) ∧
      (∀ t : Tag, (records.get t).changes ≤ (s.roster.records.get t).changes) ∧
      transitions ≤ s.line.transitions ∧ passes ≤ s.census.passes ∧ overruns ≤ s.planner.overruns ∧
      outbound.length ≤ s.link.outbound.length := by
  have kept : ∀ (g t : Tag), ((s.roster.records.update g fun r => { r with changes := 0 }).get t).term =
      (s.roster.records.get t).term ∧
      ((s.roster.records.update g fun r => { r with changes := 0 }).get t).changes ≤
        (s.roster.records.get t).changes := by
    intro g t; rw [Bank.get_update]; split <;> simp
  unfold State.chooseFrame
  split
  · exact ⟨_, _, _, _, _, _, _, _, _, rfl, fun _ => rfl, fun _ => le_rfl, le_rfl, le_rfl, le_rfl, by simp_all⟩
  · unfold State.sendNotice
    dsimp only
    split
    · exact ⟨_, _, _, _, _, _, _, _, _, rfl, fun _ => rfl, fun _ => le_rfl, le_rfl, le_rfl, le_rfl, le_rfl⟩
    split
    · exact ⟨_, _, _, _, _, _, _, _, _, rfl, fun _ => rfl, fun _ => le_rfl, Nat.zero_le _, le_rfl, le_rfl, le_rfl⟩
    split
    · exact ⟨_, _, _, _, _, _, _, _, _, rfl, fun _ => rfl, fun _ => le_rfl, le_rfl, le_rfl, le_rfl, le_rfl⟩
    split
    · exact ⟨_, _, _, _, _, _, _, _, _, rfl, fun _ => rfl, fun _ => le_rfl, le_rfl, Nat.zero_le _, le_rfl, le_rfl⟩
    split
    · rename_i g _
      exact ⟨_, _, _, _, _, _, _, _, _, rfl, fun t => (kept g t).1, fun t => (kept g t).2, le_rfl, le_rfl, le_rfl,
        le_rfl⟩
    split
    · exact ⟨_, _, _, _, _, _, _, _, _, rfl, fun _ => rfl, fun _ => le_rfl, le_rfl, le_rfl, Nat.zero_le _, le_rfl⟩
    · exact ⟨_, _, _, _, _, _, _, _, _, rfl, fun _ => rfl, fun _ => le_rfl, le_rfl, le_rfl, le_rfl, le_rfl⟩
  · exact ⟨_, _, _, _, _, _, _, _, _, rfl, fun _ => rfl, fun _ => le_rfl, le_rfl, le_rfl, le_rfl, by simp_all⟩
  · exact ⟨_, _, _, _, _, _, _, _, _, rfl, fun _ => rfl, fun _ => le_rfl, le_rfl, le_rfl, le_rfl, le_rfl⟩

/-- All that the choice at the end of an event can write. -/
theorem State.chooseAgain_keeps (s : State) :
    ∃ tx outbound handler kinds recFlags records transitions passes overruns,
      s.chooseAgain =
        { s with
          link.tx := tx, link.outbound := outbound, link.handler := handler, link.kinds := kinds
          link.recFlags := recFlags, roster.records := records, line.transitions := transitions
          census.passes := passes, planner.overruns := overruns } ∧
      (∀ t : Tag, (records.get t).term = (s.roster.records.get t).term) ∧
      (∀ t : Tag, (records.get t).changes ≤ (s.roster.records.get t).changes) ∧
      transitions ≤ s.line.transitions ∧ passes ≤ s.census.passes ∧ overruns ≤ s.planner.overruns ∧
      outbound.length ≤ s.link.outbound.length := by
  unfold State.chooseAgain
  split
  · exact s.chooseFrame_keeps
  · exact ⟨_, _, _, _, _, _, _, _, _, rfl, fun _ => rfl, fun _ => le_rfl, le_rfl, le_rfl, le_rfl, le_rfl⟩

@[simp] theorem State.term_chooseAgain (s : State) (t : Tag) : s.chooseAgain.term t = s.term t := by
  obtain ⟨_, _, _, _, _, records, _, _, _, e, h, -⟩ := s.chooseAgain_keeps
  rw [e]; exact h t

@[simp] theorem State.chooseAgain_line_state (s : State) : s.chooseAgain.line.state = s.line.state := by
  obtain ⟨_, _, _, _, _, _, _, _, _, e, -⟩ := s.chooseAgain_keeps; rw [e]

@[simp] theorem State.chooseAgain_line_prev (s : State) : s.chooseAgain.line.prev = s.line.prev := by
  obtain ⟨_, _, _, _, _, _, _, _, _, e, -⟩ := s.chooseAgain_keeps; rw [e]

@[simp] theorem State.chooseAgain_line_tick (s : State) : s.chooseAgain.line.tick = s.line.tick := by
  obtain ⟨_, _, _, _, _, _, _, _, _, e, -⟩ := s.chooseAgain_keeps; rw [e]

@[simp] theorem State.chooseAgain_line_cycle (s : State) : s.chooseAgain.line.cycle = s.line.cycle := by
  obtain ⟨_, _, _, _, _, _, _, _, _, e, -⟩ := s.chooseAgain_keeps; rw [e]

@[simp] theorem State.chooseAgain_line_pendingLen (s : State) :
    s.chooseAgain.line.pendingLen = s.line.pendingLen := by
  obtain ⟨_, _, _, _, _, _, _, _, _, e, -⟩ := s.chooseAgain_keeps; rw [e]

@[simp] theorem State.chooseAgain_line_warmup (s : State) : s.chooseAgain.line.warmup = s.line.warmup := by
  obtain ⟨_, _, _, _, _, _, _, _, _, e, -⟩ := s.chooseAgain_keeps; rw [e]

@[simp] theorem State.chooseAgain_line_drainLeft (s : State) : s.chooseAgain.line.drainLeft = s.line.drainLeft := by
  obtain ⟨_, _, _, _, _, _, _, _, _, e, -⟩ := s.chooseAgain_keeps; rw [e]

@[simp] theorem State.chooseAgain_line_drainCycle (s : State) :
    s.chooseAgain.line.drainCycle = s.line.drainCycle := by
  obtain ⟨_, _, _, _, _, _, _, _, _, e, -⟩ := s.chooseAgain_keeps; rw [e]

@[simp] theorem State.chooseAgain_line_head (s : State) : s.chooseAgain.line.head = s.line.head := by
  obtain ⟨_, _, _, _, _, _, _, _, _, e, -⟩ := s.chooseAgain_keeps; rw [e]

@[simp] theorem State.chooseAgain_line_notices (s : State) : s.chooseAgain.line.notices = s.line.notices := by
  obtain ⟨_, _, _, _, _, _, _, _, _, e, -⟩ := s.chooseAgain_keeps; rw [e]

@[simp] theorem State.chooseAgain_line_settings (s : State) : s.chooseAgain.line.settings = s.line.settings := by
  obtain ⟨_, _, _, _, _, _, _, _, _, e, -⟩ := s.chooseAgain_keeps; rw [e]

@[simp] theorem State.chooseAgain_line_txEnable (s : State) : s.chooseAgain.line.txEnable = s.line.txEnable := by
  obtain ⟨_, _, _, _, _, _, _, _, _, e, -⟩ := s.chooseAgain_keeps; rw [e]

@[simp] theorem State.chooseAgain_line_headOut (s : State) : s.chooseAgain.line.headOut = s.line.headOut := by
  obtain ⟨_, _, _, _, _, _, _, _, _, e, -⟩ := s.chooseAgain_keeps; rw [e]

@[simp] theorem State.chooseAgain_roster_expected (s : State) :
    s.chooseAgain.roster.expected = s.roster.expected := by
  obtain ⟨_, _, _, _, _, _, _, _, _, e, -⟩ := s.chooseAgain_keeps; rw [e]

@[simp] theorem State.chooseAgain_roster_barred (s : State) : s.chooseAgain.roster.barred = s.roster.barred := by
  obtain ⟨_, _, _, _, _, _, _, _, _, e, -⟩ := s.chooseAgain_keeps; rw [e]

@[simp] theorem State.chooseAgain_roster_strangers (s : State) :
    s.chooseAgain.roster.strangers = s.roster.strangers := by
  obtain ⟨_, _, _, _, _, _, _, _, _, e, -⟩ := s.chooseAgain_keeps; rw [e]

@[simp] theorem State.chooseAgain_roster_overflowed (s : State) :
    s.chooseAgain.roster.overflowed = s.roster.overflowed := by
  obtain ⟨_, _, _, _, _, _, _, _, _, e, -⟩ := s.chooseAgain_keeps; rw [e]

@[simp] theorem State.chooseAgain_roster_mode (s : State) : s.chooseAgain.roster.mode = s.roster.mode := by
  obtain ⟨_, _, _, _, _, _, _, _, _, e, -⟩ := s.chooseAgain_keeps; rw [e]

@[simp] theorem State.chooseAgain_roster_poolLow (s : State) : s.chooseAgain.roster.poolLow = s.roster.poolLow := by
  obtain ⟨_, _, _, _, _, _, _, _, _, e, -⟩ := s.chooseAgain_keeps; rw [e]

@[simp] theorem State.chooseAgain_roster_poolHigh (s : State) :
    s.chooseAgain.roster.poolHigh = s.roster.poolHigh := by
  obtain ⟨_, _, _, _, _, _, _, _, _, e, -⟩ := s.chooseAgain_keeps; rw [e]

@[simp] theorem State.chooseAgain_roster_openProfile (s : State) :
    s.chooseAgain.roster.openProfile = s.roster.openProfile := by
  obtain ⟨_, _, _, _, _, _, _, _, _, e, -⟩ := s.chooseAgain_keeps; rw [e]

@[simp] theorem State.chooseAgain_roster_admission (s : State) :
    s.chooseAgain.roster.admission = s.roster.admission := by
  obtain ⟨_, _, _, _, _, _, _, _, _, e, -⟩ := s.chooseAgain_keeps; rw [e]

@[simp] theorem State.chooseAgain_roster_profiles (s : State) :
    s.chooseAgain.roster.profiles = s.roster.profiles := by
  obtain ⟨_, _, _, _, _, _, _, _, _, e, -⟩ := s.chooseAgain_keeps; rw [e]

@[simp] theorem State.chooseAgain_roster_waiting (s : State) : s.chooseAgain.roster.waiting = s.roster.waiting := by
  obtain ⟨_, _, _, _, _, _, _, _, _, e, -⟩ := s.chooseAgain_keeps; rw [e]

@[simp] theorem State.chooseAgain_census_state (s : State) : s.chooseAgain.census.state = s.census.state := by
  obtain ⟨_, _, _, _, _, _, _, _, _, e, -⟩ := s.chooseAgain_keeps; rw [e]

@[simp] theorem State.chooseAgain_census_mode (s : State) : s.chooseAgain.census.mode = s.census.mode := by
  obtain ⟨_, _, _, _, _, _, _, _, _, e, -⟩ := s.chooseAgain_keeps; rw [e]

@[simp] theorem State.chooseAgain_census_interval (s : State) :
    s.chooseAgain.census.interval = s.census.interval := by
  obtain ⟨_, _, _, _, _, _, _, _, _, e, -⟩ := s.chooseAgain_keeps; rw [e]

@[simp] theorem State.chooseAgain_census_splitSet (s : State) :
    s.chooseAgain.census.splitSet = s.census.splitSet := by
  obtain ⟨_, _, _, _, _, _, _, _, _, e, -⟩ := s.chooseAgain_keeps; rw [e]

@[simp] theorem State.chooseAgain_census_effective (s : State) :
    s.chooseAgain.census.effective = s.census.effective := by
  obtain ⟨_, _, _, _, _, _, _, _, _, e, -⟩ := s.chooseAgain_keeps; rw [e]

@[simp] theorem State.chooseAgain_census_rootPattern (s : State) :
    s.chooseAgain.census.rootPattern = s.census.rootPattern := by
  obtain ⟨_, _, _, _, _, _, _, _, _, e, -⟩ := s.chooseAgain_keeps; rw [e]

@[simp] theorem State.chooseAgain_census_rootMask (s : State) :
    s.chooseAgain.census.rootMask = s.census.rootMask := by
  obtain ⟨_, _, _, _, _, _, _, _, _, e, -⟩ := s.chooseAgain_keeps; rw [e]

@[simp] theorem State.chooseAgain_census_stack (s : State) : s.chooseAgain.census.stack = s.census.stack := by
  obtain ⟨_, _, _, _, _, _, _, _, _, e, -⟩ := s.chooseAgain_keeps; rw [e]

@[simp] theorem State.chooseAgain_census_outstanding (s : State) :
    s.chooseAgain.census.outstanding = s.census.outstanding := by
  obtain ⟨_, _, _, _, _, _, _, _, _, e, -⟩ := s.chooseAgain_keeps; rw [e]

@[simp] theorem State.chooseAgain_census_wait (s : State) : s.chooseAgain.census.wait = s.census.wait := by
  obtain ⟨_, _, _, _, _, _, _, _, _, e, -⟩ := s.chooseAgain_keeps; rw [e]

@[simp] theorem State.chooseAgain_census_counters (s : State) :
    s.chooseAgain.census.counters = s.census.counters := by
  obtain ⟨_, _, _, _, _, _, _, _, _, e, -⟩ := s.chooseAgain_keeps; rw [e]

@[simp] theorem State.chooseAgain_census_tie (s : State) : s.chooseAgain.census.tie = s.census.tie := by
  obtain ⟨_, _, _, _, _, _, _, _, _, e, -⟩ := s.chooseAgain_keeps; rw [e]

@[simp] theorem State.chooseAgain_census_lastPass (s : State) :
    s.chooseAgain.census.lastPass = s.census.lastPass := by
  obtain ⟨_, _, _, _, _, _, _, _, _, e, -⟩ := s.chooseAgain_keeps; rw [e]

@[simp] theorem State.chooseAgain_planner_built (s : State) : s.chooseAgain.planner.built = s.planner.built := by
  obtain ⟨_, _, _, _, _, _, _, _, _, e, -⟩ := s.chooseAgain_keeps; rw [e]

@[simp] theorem State.chooseAgain_planner_shots (s : State) : s.chooseAgain.planner.shots = s.planner.shots := by
  obtain ⟨_, _, _, _, _, _, _, _, _, e, -⟩ := s.chooseAgain_keeps; rw [e]

@[simp] theorem State.chooseAgain_planner_sweep (s : State) : s.chooseAgain.planner.sweep = s.planner.sweep := by
  obtain ⟨_, _, _, _, _, _, _, _, _, e, -⟩ := s.chooseAgain_keeps; rw [e]

@[simp] theorem State.chooseAgain_planner_slotWanted (s : State) :
    s.chooseAgain.planner.slotWanted = s.planner.slotWanted := by
  obtain ⟨_, _, _, _, _, _, _, _, _, e, -⟩ := s.chooseAgain_keeps; rw [e]

@[simp] theorem State.chooseAgain_planner_lastOverrun (s : State) :
    s.chooseAgain.planner.lastOverrun = s.planner.lastOverrun := by
  obtain ⟨_, _, _, _, _, _, _, _, _, e, -⟩ := s.chooseAgain_keeps; rw [e]

@[simp] theorem State.chooseAgain_planner_framerPlan (s : State) :
    s.chooseAgain.planner.framerPlan = s.planner.framerPlan := by
  obtain ⟨_, _, _, _, _, _, _, _, _, e, -⟩ := s.chooseAgain_keeps; rw [e]

@[simp] theorem State.chooseAgain_intake (s : State) : s.chooseAgain.intake = s.intake := by
  obtain ⟨_, _, _, _, _, _, _, _, _, e, -⟩ := s.chooseAgain_keeps; rw [e]

@[simp] theorem State.chooseAgain_lanes (s : State) : s.chooseAgain.lanes = s.lanes := by
  obtain ⟨_, _, _, _, _, _, _, _, _, e, -⟩ := s.chooseAgain_keeps; rw [e]

@[simp] theorem State.chooseAgain_sup (s : State) : s.chooseAgain.sup = s.sup := by
  obtain ⟨_, _, _, _, _, _, _, _, _, e, -⟩ := s.chooseAgain_keeps; rw [e]

@[simp] theorem State.chooseAgain_conv (s : State) : s.chooseAgain.conv = s.conv := by
  obtain ⟨_, _, _, _, _, _, _, _, _, e, -⟩ := s.chooseAgain_keeps; rw [e]

@[simp] theorem State.chooseAgain_link_straps (s : State) : s.chooseAgain.link.straps = s.link.straps := by
  obtain ⟨_, _, _, _, _, _, _, _, _, e, -⟩ := s.chooseAgain_keeps; rw [e]

@[simp] theorem State.chooseAgain_link_cause (s : State) : s.chooseAgain.link.cause = s.link.cause := by
  obtain ⟨_, _, _, _, _, _, _, _, _, e, -⟩ := s.chooseAgain_keeps; rw [e]

@[simp] theorem State.chooseAgain_link_rx (s : State) : s.chooseAgain.link.rx = s.link.rx := by
  obtain ⟨_, _, _, _, _, _, _, _, _, e, -⟩ := s.chooseAgain_keeps; rw [e]

@[simp] theorem State.chooseAgain_link_inbound (s : State) : s.chooseAgain.link.inbound = s.link.inbound := by
  obtain ⟨_, _, _, _, _, _, _, _, _, e, -⟩ := s.chooseAgain_keeps; rw [e]

@[simp] theorem State.chooseAgain_link_mask (s : State) : s.chooseAgain.link.mask = s.link.mask := by
  obtain ⟨_, _, _, _, _, _, _, _, _, e, -⟩ := s.chooseAgain_keeps; rw [e]

@[simp] theorem State.chooseAgain_link_faults (s : State) : s.chooseAgain.link.faults = s.link.faults := by
  obtain ⟨_, _, _, _, _, _, _, _, _, e, -⟩ := s.chooseAgain_keeps; rw [e]

@[simp] theorem State.chooseAgain_pending (s : State) : s.chooseAgain.pending = s.pending := by
  obtain ⟨_, _, _, _, _, _, _, _, _, e, -⟩ := s.chooseAgain_keeps; rw [e]

@[simp] theorem State.chooseAgain_free (s : State) : s.chooseAgain.free = s.free := by
  obtain ⟨_, _, _, _, _, _, _, _, _, e, -⟩ := s.chooseAgain_keeps; rw [e]

/-! ## The receiver (R170) -/

@[simp] theorem State.receiveBytes_nil (s : State) : s.receiveBytes [] = s := rfl

@[simp] theorem State.receiveBytes_cons (s : State) (b : RxByte) (bs : List RxByte) :
    s.receiveBytes (b :: bs) = (s.receiveByte b.data b.stop).chooseAgain.receiveBytes bs := rfl

theorem State.receiveBytes_append (s : State) (as bs : List RxByte) :
    s.receiveBytes (as ++ bs) = (s.receiveBytes as).receiveBytes bs := by
  simp [State.receiveBytes, List.foldl_append]

/-! ## The request handler (R172, R173) -/

/-- A reply is offered as `repliesTo` says. -/
theorem State.offerReply_eq (s : State) (q : Request) (r : Result) (body : List Byte) :
    s.offerReply q r body = { s with link.outbound := s.link.outbound ++ repliesTo q r body } := by
  unfold State.offerReply repliesTo; split <;> simp

/-- A request taken with no effect of its own and answered. -/
theorem State.popRequest_offerReply (s : State) (q : Request) (rest : List Request) (h : s.link.inbound = q :: rest)
    (r : Result) (body : List Byte) : (s.popRequest.offerReply q r body).chooseAgain = s.answered q rest r body := by
  rw [State.offerReply_eq]; simp [State.popRequest, State.answered, h]

/-- The handler takes the request that it is offered. -/
theorem State.nextRequest_of_offers {s : State} {kind : Nat} {q : Request} {rest : List Request}
    (h : s.Offers kind q rest) : s.nextRequest = some q := by
  simp [State.nextRequest, h.idle, h.room, h.head]

/-- The handler takes none while it is not IDLE, has no room for a reply, or has no request. -/
theorem State.nextRequest_none {s : State}
    (h : s.link.handler ≠ .idle ∨ 8 ≤ s.link.outbound.length ∨ s.link.inbound = []) : s.nextRequest = none := by
  unfold State.nextRequest
  split
  · rename_i idle
    rcases h with h | h | h
    · exact absurd idle h
    · simp [Nat.not_lt.mpr h]
    · simp [h]
  · rfl

/-- No request can be taken: nothing happens. -/
theorem State.handle_of_none {s : State} (h : s.nextRequest = none) (kind : Nat) (lengthOk : Nat → Bool)
    (act : Request → State → Answer) : s.handle kind lengthOk act = s := by
  simp [State.handle, h]

/-- The request at the head is of another kind: nothing happens. -/
theorem State.handle_of_kind_ne {s : State} {q : Request} (h : s.nextRequest = some q) {kind : Nat}
    (ne : q.kind.toNat ≠ kind) (lengthOk : Nat → Bool) (act : Request → State → Answer) :
    s.handle kind lengthOk act = s := by
  simp [State.handle, h, ne]

/-- A request of a wrong length is answered LENGTH and no more. -/
theorem State.handle_of_length {s : State} {kind : Nat} {q : Request} {rest : List Request} (h : s.Offers kind q rest)
    {lengthOk : Nat → Bool} (bad : lengthOk q.body.length = false) (act : Request → State → Answer) :
    (s.handle kind lengthOk act).chooseAgain = s.answered q rest .length [] := by
  simp [State.handle, State.nextRequest_of_offers h, h.kind, bad, State.popRequest_offerReply s q rest h.head]

/-- A request of an allowed length: its entry acts on the state without the request, and its answer is offered. -/
theorem State.handle_of_offers {s : State} {kind : Nat} {q : Request} {rest : List Request} (h : s.Offers kind q rest)
    {lengthOk : Nat → Bool} (ok : lengthOk q.body.length = true) (act : Request → State → Answer) :
    s.handle kind lengthOk act =
      (act q s.popRequest).state.offerReply q (act q s.popRequest).result (act q s.popRequest).body := by
  simp [State.handle, State.nextRequest_of_offers h, h.kind, ok]

/-- An entry that answers with the state as it was: only the queues change. -/
theorem State.handle_of_unchanged {s : State} {kind : Nat} {q : Request} {rest : List Request}
    (h : s.Offers kind q rest) {lengthOk : Nat → Bool} (ok : lengthOk q.body.length = true)
    {act : Request → State → Answer} {r : Result} {body : List Byte}
    (e : act q s.popRequest = { state := s.popRequest, result := r, body := body }) :
    (s.handle kind lengthOk act).chooseAgain = s.answered q rest r body := by
  rw [State.handle_of_offers h ok, e, State.popRequest_offerReply s q rest h.head]

end Sys2Proof.Machine
end

