-- ==== Sys2Proof/Laws/Words.lean ====
section
/-! SUPPORT. What the model's own functions give in the words of the statements: the quality and the result of a burst, the window that a burst lands in, and the next window to close. -/

namespace Sys2Proof.Machine

/-! ## The judgement of a burst (R89, R90) -/

theorem addressed_iff (r : Report) (g : Grant) : r.addressed g = true ↔ r.carriesTag g := by
  cases ht : g.tag <;> simp [Report.addressed, Report.carriesTag, Report.fromTag, ht]

/-- The model judges every burst, as the table of R89 does. -/
theorem judged_qualityOf (r : Report) (g : Grant) (pos : Nat) : Judged r g pos (qualityOf r g pos) := by
  unfold qualityOf Report.clean
  rcases hc : r.check with _ | _ <;> rcases ho : r.overlap with _ | _ <;> simp only [Bool.and_true, Bool.and_false,
    Bool.not_true, Bool.not_false, Bool.false_eq_true, if_true, if_false] <;> try exact .broken (by simp [hc, ho])
  by_cases hk : r.kind = g.kind.burst
  · by_cases ha : r.addressed g = true
    · have ht := (addressed_iff r g).mp ha
      by_cases hl : g.stop < pos + r.length
      · simpa [hk, ha, hl] using Judged.long hc ho hk ht hl
      · simpa [hk, ha, hl] using Judged.good hc ho hk ht (by omega)
    · have ht : ¬r.carriesTag g := fun h => ha ((addressed_iff r g).mpr h)
      simpa [hk, ha] using Judged.foreign hc ho (.inr ht)
  · simpa [hk] using Judged.foreign hc ho (.inl hk)

/-- A burst has one quality. -/
theorem judged_unique {r : Report} {g : Grant} {pos : Nat} {q q' : Quality} (h : Judged r g pos q)
    (h' : Judged r g pos q') : q = q' := by
  cases h <;> cases h' <;> first | rfl | (exfalso; simp_all; done) | (exfalso; omega)

theorem judged_iff (r : Report) (g : Grant) (pos : Nat) (q : Quality) : Judged r g pos q ↔ q = qualityOf r g pos :=
  ⟨fun h => judged_unique h (judged_qualityOf r g pos), fun h => h ▸ judged_qualityOf r g pos⟩

/-- The model's burst result has the fields of R90. -/
theorem resultOf_resultOf (r : Report) (g : Grant) (cycle : CycleNo) (pos : Nat) :
    ResultOf r g cycle pos (resultOf r g cycle pos) where
  grant := ⟨rfl, rfl⟩
  position := ⟨rfl, rfl⟩
  quality := judged_qualityOf r g pos
  kind := rfl
  echoed := ⟨rfl, rfl⟩
  flags := ⟨rfl, rfl⟩
  valid := by simp [resultOf, tagTrue, Report.clean, addressed_iff, and_assoc]
  capture := by simp [resultOf]

/-- A burst has one result. -/
theorem resultOf_iff (r : Report) (g : Grant) (cycle : CycleNo) (pos : Nat) (x : BurstResult) :
    ResultOf r g cycle pos x ↔ x = resultOf r g cycle pos := by
  constructor
  · intro h
    have k := resultOf_resultOf r g cycle pos
    have hq : x.quality = (resultOf r g cycle pos).quality :=
      ((judged_iff _ _ _ _).mp h.quality).trans ((judged_iff _ _ _ _).mp k.quality).symm
    have hv := Bool.eq_iff_iff.mpr (h.valid.trans k.valid.symm)
    have hc := Bool.eq_iff_iff.mpr (h.capture.trans (hq ▸ k.capture.symm))
    have hg := h.grant; have hp := h.position; have hk := h.kind; have he := h.echoed; have hf := h.flags
    obtain ⟨⟩ := x
    simp_all [resultOf]
  · rintro rfl; exact resultOf_resultOf r g cycle pos

/-! ## Places (R87, R96) -/

/-- What holds of every item before place `j`, in the form that the statements ask for. -/
theorem before_place {α : Type} {l : List α} {j : Nat} {P : α → Prop} (h : ∀ v ∈ l.take j, P v) (i : Nat) (v : α)
    (hi : i < j) (hv : l[i]? = some v) : P v :=
  h v (List.mem_of_getElem? (i := i) (by rw [List.getElem?_take_of_lt hi]; exact hv))

theorem covers_iff (w : Window) (pos : Nat) : w.grant.contains pos = true ↔ w.Covers pos := by
  simp [Grant.contains, Window.Covers]

/-- The window that a plan's `nextWindow` names is the next to close. -/
theorem nextToClose_of_nextWindow {s : State} {plan : StoredPlan} {rest : List StoredPlan} {j : Nat} {w : Window}
    (store : s.intake.store = plan :: rest) (next : plan.nextWindow = some j) (window : plan.windows[j]? = some w) :
    s.NextToClose plan rest j w := by
  obtain ⟨hj, ho, hb⟩ := List.findIdx?_eq_some_iff_getElem.mp next
  have hw : plan.windows[j] = w := by simpa [List.getElem?_eq_getElem hj] using window
  refine ⟨store, window, by simpa [hw] using ho, fun k v hk hv => ?_⟩
  obtain ⟨hk', rfl⟩ := List.getElem?_eq_some_iff.mp hv
  simpa using hb k hk

/-- The next window to close is the one that `nextWindow` names. -/
theorem State.NextToClose.nextWindow {s : State} {plan : StoredPlan} {rest : List StoredPlan} {j : Nat} {w : Window}
    (h : s.NextToClose plan rest j w) : plan.nextWindow = some j := by
  obtain ⟨hj, hw⟩ := List.getElem?_eq_some_iff.mp h.window
  refine List.findIdx?_eq_some_iff_getElem.mpr ⟨hj, by simpa [hw] using h.unclosed, fun k hk => ?_⟩
  have := h.first k plan.windows[k] hk (List.getElem?_eq_getElem _)
  simpa using this

/-- A burst lands in the window that the plan's search for its frame position finds. -/
theorem State.Lands.found {s : State} {arrival : Tick} {k pos j : Nat} {plan : StoredPlan} {w : Window}
    (h : s.Lands arrival k plan pos j w) : (plan.windows.findIdx? fun x => x.grant.contains pos) = some j := by
  obtain ⟨hj, hw⟩ := List.getElem?_eq_some_iff.mp h.window
  refine List.findIdx?_eq_some_iff_getElem.mpr ⟨hj, (covers_iff _ _).mpr (by simpa [hw] using h.covers), fun i hi => ?_⟩
  have := h.first i plan.windows[i] hi (List.getElem?_eq_getElem _)
  simpa [covers_iff] using this

/-- A burst falls in the frame that the store's search for its arrival tick finds. -/
theorem State.InFrame.found {s : State} {arrival : Tick} {k pos : Nat} {plan : StoredPlan}
    (h : s.InFrame arrival k plan pos) :
    (s.intake.store.findIdx? fun p => p.holds s.line.settings.ref arrival) = some k := by
  obtain ⟨hk, hp⟩ := List.getElem?_eq_some_iff.mp h.stored
  have hin := h.inside
  rw [h.position] at hin
  refine List.findIdx?_eq_some_iff_getElem.mpr ⟨hk, ?_, fun i hi => ?_⟩
  · simpa [StoredPlan.holds, StoredPlan.position, tickDiff, hp] using hin
  · have := h.first i s.intake.store[i] hi (List.getElem?_eq_getElem _)
    simpa [StoredPlan.holds, StoredPlan.position, tickDiff] using this

end Sys2Proof.Machine
end

