-- ==== Sys2Proof/WellFormed.lean ====
section
/-! DEFINITION. Which commands are well formed: the lengths that the operands of a received frame and of a burst header must have. -/

namespace Sys2Proof

/-- The bytes of a frame number at least one and at most 256: start, length, 252 counted bytes and the check (R169). -/
def frameBytesOk (bytes : List RxByte) : Bool := 1 ≤ bytes.length && bytes.length ≤ 256

/-- A burst header has 12 bytes (spec/12, 12.7). -/
def headerOk (header : List Byte) : Bool := header.length = 12

/-- A command is well formed when each operand has the length the spec gives it; every other operand is well formed by its type. -/
def Instr.wf : Instr → Bool
  | .frameReceived bytes => frameBytesOk bytes
  | .burstReport _ header _ _ _ => headerOk header
  | .powerOnReset _ | .pinReset _ | .gapExpiry | .frameSent | .restartTakesEffect | .identify | .readStatus
  | .setLine | .setCycleLength | .lightLine _ | .darkenLine | .setProfile | .readProfile | .setAdmission
  | .loadExpected | .dropExpected | .readExpected | .barSerial | .liftBar | .readStrangers | .startCensus
  | .stopCensus | .readTerminal | .readRoster | .parkTerminal | .resumeTerminal | .releaseTerminal
  | .setConverter | .setCurve | .readCurve | .calibrate | .setNoticeMask | .restart | .cycleStart | .warmupEnd
  | .drainingEnd | .graceExpiry _ | .planClose | .windowClose | .frameEnd | .darkSlotStart | .sampleWindowEnd
  | .conversionEnd _ | .byteReceived _ _ | .unknownRequest => true

end Sys2Proof
end

