-- ==== Sys2Proof/Tests/Slice0.lean ====
section
/-! SUPPORT. The tests: the well-formedness checks, the check of R169, and the spec's worked figures and sequences, each run through one command on a small state; and for each statement with hypotheses a state that meets them. -/

namespace Sys2Proof.Tests

open Sys2Proof.Machine

/-! One test after the other: each evaluates whole states, and many at once outgrow the memory. -/
set_option Elab.async false

/-! ## Small states -/

/-- The state that a command leaves. -/
def after (c : Instr) (s : State) : State :=
  match exec c s with
  | .next t => t
  | _ => s

/-- The one request in the inbound queue, with request tag 5. -/
def request (kind : Nat) (body : List Byte) : Request :=
  { kind := byteOf kind, tag := 5, quiet := false, body := body }

/-- The state with that request waiting, while a frame is being sent, behind which its reply waits. -/
def asked (s : State) (kind : Nat) (body : List Byte) : State :=
  { s with link.inbound := [request kind body], link.tx := .sending [] }

/-- The results and bodies of the replies that wait. -/
def answers (s : State) : List (Result × List Byte) := s.link.outbound.map fun r => (r.result, r.body)

/-- The line in a lit state, in cycle `num` that began at `start`, with its empty plan in the store. -/
def lit (state : LineState) (num : CycleNo) (start : Tick) : State :=
  { State.reset with
    line.state := state
    line.txEnable := true
    line.cycle := some { num := num, start := start, len := 312500, next := none }
    intake.store := [(emptyPlan num 312500).stored start] }

/-- The plan close of the cycle in progress has passed: the next head and plan are empty. -/
def closed (s : State) (num : CycleNo) (start : Tick) : State :=
  { s with
    line.cycle := some { num := num, start := start, len := 312500, next := some 312500 }
    line.head := some (warmingHead (num + 1))
    planner.built := some (emptyPlan (num + 1) 312500) }

/-- A terminal in a phase, on profile 0. -/
def terminal (serial : Serial) (phase : Phase) : Terminal :=
  { serial := serial, listed := false, profile := 0, coarse := 104512, level := none, flags := .clear,
    heardCycle := 3, phase := phase }

/-- Service fields at their starting values. -/
def service : Service := Service.start ⟨104521, 151479⟩ 2010

/-- A stored plan with one window of one grant. -/
def storedOne (num : CycleNo) (start : Tick) (w : Window) : StoredPlan :=
  { cycle := num, start := start, len := 312500, slot := none, windows := [w] }

/-- A window just opened. -/
def opened (g : Grant) : Window := Window.entering g

/-! ## Well-formedness (R169, 12.7) -/

theorem test_wf_refuses_no_bytes : (Instr.frameReceived []).wf = false := by decide

theorem test_wf_refuses_257_bytes : (Instr.frameReceived (List.replicate 257 ⟨0, true⟩)).wf = false := by decide +kernel

theorem test_wf_takes_256_bytes : (Instr.frameReceived (List.replicate 256 ⟨0, true⟩)).wf = true := by decide +kernel

theorem test_wf_refuses_short_header : (Instr.burstReport 0 (List.replicate 11 0) true false 0).wf = false := by decide

theorem test_wf_takes_header_of_12 : (Instr.burstReport 0 (List.replicate 12 0) true false 0).wf = true := by decide

/-! ## No row of the table gives bits -/

theorem test_decode_none (nbits w : Nat) : decodeTableWord nbits w = none := rfl

/-! ## Formats (R169, R191) -/

/-- The check over "123456789" is 0x29B1 (R169). -/
theorem test_check_value :
    crcOf [0x31, 0x32, 0x33, 0x34, 0x35, 0x36, 0x37, 0x38, 0x39] = 0x29B1 := by decide +kernel

/-- A grant entry by 12.6: PROBE, tag 20, start 427,584 with the sequence bit in bit 23. -/
theorem test_grant_bytes :
    (shotGrant .default
      { owner := .lane 1, tag := 19, kind := .probe, coarse := some 104512, seq := true, capture := true } 275840).bytes =
      [2, 20, 0x40, 0x86, 0x86, 0, 0, 0, 0, 0, 0, 0, 0, 0, 0] := by decide +kernel

/-- A NUDGE of -4 to tag 2: kind 3, address 2, value two's complement, low bytes first. -/
theorem test_notice_bytes : (NoticeBody.nudge 1 (-4)).bytes = [3, 2, 0, 0, 0, 0xFC, 0xFF, 0xFF, 0xFF] := by
  decide +kernel

/-! ## Arithmetic (3.7 to 3.9, 8.11, 9.6) -/

theorem test_coarse_echo : coarseEcho .default 96512 0 = 104512 := by decide +kernel

theorem test_probe_echoes :
    [20263, 20266, 20261, 20269].map (fun p => echoOf .default p 171744) = [104519, 104522, 104517, 104525] := by
  decide +kernel

theorem test_probe_mean_and_spread :
    meanOf [104519, 104522, 104517, 104525] = 104521 ∧ spreadOf [104519, 104522, 104517, 104525] = 8 ∧
      meanOf [-195, -197, -194, -196] = -195 := by decide +kernel

/-- 3.7.5: the eighth burst closes a block at D = 32 with a NUDGE of -4. -/
theorem test_drift_block :
    let step := driftStep .default 3 5 5 { service with drift := 27, bursts := 7 } .clear
    step.nudge = some (-4) ∧ step.svc.holdoff = 151475 ∧ step.svc.drift = 0 ∧ step.svc.bursts = 0 ∧
      step.svc.nudgeOut = true := by decide +kernel

/-- 3.8, first block: H = 2 and D = 40 give H' = 0, NUDGE -2 and TRIM_LIMIT. -/
theorem test_drift_limit :
    let step := driftBlockClose .default 3 { service with holdoff := 2, drift := 40, bursts := 8 } .clear
    step.nudge = some (-2) ∧ step.svc.holdoff = 0 ∧ step.flags.trimLimit = true := by decide +kernel

/-- 3.9, burst 8: D saturates at 4,095, and the block closes with NUDGE -512. -/
theorem test_drift_saturation :
    let step := driftStep { LineSettings.default with wt := 600 } 3 5 590
      { service with holdoff := 100000, drift := 4095, bursts := 7 } .clear
    step.nudge = some (-512) ∧ step.svc.holdoff = 99488 ∧ step.flags.driftSat = true := by decide +kernel

/-- 8.11: the alarm comes with the third sample of a run outside the window, and goes with the third inside it. -/
theorem test_level_alarm :
    let run := [false, true, false, false, false, false, true, true, true].foldl
      (fun acc inside => acc ++ [levelRuns inside (acc.getLast?.map Prod.fst |>.getD service)
        (acc.getLast?.map Prod.snd |>.getD .clear)]) []
    run.map (fun x => (x.1.levelIn, x.1.levelOut, x.2.levelAlarm)) =
      [(0, 1, false), (1, 0, false), (0, 1, false), (0, 2, false), (0, 3, true), (0, 3, true), (1, 0, true),
       (2, 0, true), (3, 0, false)] := by decide +kernel

/-- 9.6.1: raw code 1,000 with offset -6 on the default curve is -284. -/
theorem test_level_default_curve : levelOf defaultCurve (correctedCode 1000 (-6)) = -284 := by decide +kernel

/-- 9.6.2: the falling segment from -250 to -280. -/
theorem test_level_falling :
    let curve := (defaultCurve.set 10 (-250)).set 11 (-280)
    levelOf curve 1312 = -257 ∧ levelOf curve 1376 = -272 := by decide +kernel

/-! ## Resets and the link (chapter 10) -/

theorem test_power_on_reset :
    (after (.powerOnReset 2) (lit .running 5 0)).link.straps = 2 ∧
      (after (.powerOnReset 2) (lit .running 5 0)).line.state = .dark := by decide +kernel

theorem test_pin_reset_cause : (after (.pinReset 1) State.reset).link.cause = .pin := by decide +kernel

/-- IDENTIFY with request tag 5, as bytes with a check computed apart from the model. -/
def identifyFrame : List RxByte := [0xA5, 0x02, 0x01, 0x05, 0xC1, 0x68].map fun b => { data := b, stop := true }

theorem test_frame_received :
    (after (.frameReceived identifyFrame) State.reset).link.inbound = [request 1 []] := by decide +kernel

theorem test_frame_received_bad_check :
    (after (.frameReceived (identifyFrame.take 5 ++ [{ data := 0x69, stop := true }])) State.reset).link.faults = 1 := by
  decide +kernel

theorem test_byte_received_length_1_faults :
    (after (.byteReceived 1 true) { State.reset with link.rx := .count 0xFFFF }).link.faults = 1 := by decide +kernel

theorem test_gap_expiry_faults :
    (after .gapExpiry { State.reset with link.rx := .count 0xFFFF }).link.rx = .hunt := by decide +kernel

/-- 10.8: with LINE, the tags 3 and 9, and a masked PLAN pending, LINE is sent and its count zeroed. -/
def pendingNotices : State :=
  { State.reset with
    line.transitions := 2
    link.kinds := { hello := false, line := true, calibration := false, census := false, plan := true }
    link.mask := { NoticeMask.all with plan := false }
    link.recFlags := ((Bank.fill 128 false).set 2 true).set 8 true }

theorem test_frame_sent_line_first :
    (after .frameSent pendingNotices).link.tx = .sending (noticeFrame 0xF1 [0, 0, 2]) ∧
      (after .frameSent pendingNotices).line.transitions = 0 := by decide +kernel

/-- 10.8: tag 3 goes before tag 9, and the masked PLAN is not sent. -/
theorem test_frame_sent_lowest_tag :
    let s := after .frameSent (after .frameSent pendingNotices)
    s.link.recFlags.get 2 = false ∧ s.link.recFlags.get 8 = true ∧
      (after .frameSent (after .frameSent s)).link.tx = .betweenFrames := by decide +kernel

/-- 11.11: RESTART LINE behind the reply to tag 4, with READ STATUS queued behind it. -/
def restartAsked : State :=
  { lit .running 9 1000 with
    link.tx := .sending []
    link.inbound := [request 0x1C [0], request 2 []]
    link.outbound := [{ kind := 1, tag := 4, result := .ok, body := [] }] }

theorem test_restart_waits :
    let s := after .restart restartAsked
    s.link.handler = .restartWaiting .line 2 true ∧ answers s = [(.ok, []), (.ok, [])] ∧
      (after .restartTakesEffect s).line.state = .running := by decide +kernel

theorem test_restart_takes_effect :
    let s := after .restartTakesEffect (after .frameSent (after .frameSent (after .restart restartAsked)))
    s.line.state = .dark ∧ s.link.inbound = [] ∧ s.link.outbound = [] ∧ s.link.cause = .lineRestart ∧
      (after .frameSent s).link.tx = .sending (noticeFrame 0xF0 [3, 0, 0x5E, 0x80, 1]) := by decide +kernel

/-- R174 step 3: a reply that an idle transmitter can send goes out in the event that queues it. -/
theorem test_reply_sent_at_once :
    let s := after .liftBar { asked State.reset 0x0E [0, 0, 0, 1] with link.tx := .betweenFrames }
    s.link.tx = .sending ({ kind := 0x0E, tag := 5, result := .absent, body := [] : Reply }).frame ∧
      s.link.outbound = [] := by decide +kernel

/-- R174 step 3: with the mask of 10.8, PLAN alone pending is sent in the event that releases it. -/
theorem test_release_sends_notice :
    let s := { asked pendingNotices 0x1B [0x1F] with
      link.tx := .betweenFrames
      link.kinds := { hello := false, line := false, calibration := false, census := false, plan := true }
      link.recFlags := .fill 128 false }
    (after .frameSent s).link.tx = .betweenFrames ∧
      (after .setNoticeMask { s with link.inbound := [{ request 0x1B [0x1F] with quiet := true }] }).link.tx =
        .sending (noticeFrame 0xF5 [0, 0, 0, 0, 0]) := by decide +kernel

theorem test_unknown_request : answers (after .unknownRequest (asked State.reset 0x1D [])) = [(.unknown, [])] := by
  decide +kernel

/-! ## Requests (chapter 11) -/

theorem test_identify : answers (after .identify (asked State.reset 1 [])) = [(.ok, [0x5E, 0x80, 1, 0, 0])] := by
  decide +kernel

theorem test_identify_length : answers (after .identify (asked State.reset 1 [0])) = [(.length, [])] := by
  decide +kernel

/-- The body that READ STATUS answers after reset: 189 bytes, with the pending length 312,500 and the defaults (R182). -/
theorem test_read_status :
    (answers (after .readStatus (asked State.reset 2 []))).map (fun a => (a.2.length, a.2.take 17)) =
      [(189, [0, 0, 0, 0, 0, 0, 0, 0, 0, 0x00, 0x04, 0xC4, 0xB4, 0x00, 0x03, 0xE8, 0x00])] := by decide +kernel

/-- SET LINE with Ref 262,144 and E_min 300,000: both are clamped, E_min against the new Ref (R21). -/
theorem test_set_line :
    let s := after .setLine (asked State.reset 3
      ([0, 4, 0, 0] ++ [0, 4, 0x93, 0xE0] ++ [0, 64] ++ [0, 16] ++ [1, 0] ++ [8, 2] ++ [0x9C, 0x40]))
    s.line.settings = { LineSettings.default with ref := 262143, eMin := 262142 } ∧ answers s = [(.okClamped, [])] := by
  decide +kernel

theorem test_set_cycle_length :
    let s := after .setCycleLength (asked (lit .running 5 0) 4 [0, 4, 0x45, 0xBF])
    s.line.pendingLen = 280000 ∧ answers s = [(.okClamped, [])] := by decide +kernel

/-- 1.7: LIGHT LINE at tick 1,000,000 with exponent 4; the head is that of cycle 0 with its check low byte first. -/
theorem test_light_line :
    let s := after (.lightLine 1000000) (asked { State.reset with line.settings.exponent := 4 } 5 [])
    s.line.state = .warming ∧ s.line.warmup = 16 ∧ s.line.cycle = some ⟨0, 1000000, 312500, none⟩ ∧
      s.line.headOut = [0, 0, 0, 0, 0, 0x0C, 0x11] ∧ s.line.transitions = 1 := by decide +kernel

/-- 1.7: DARKEN LINE in cycle 40 after its plan close. -/
theorem test_darken_line :
    let s := after .darkenLine (asked (closed (lit .running 40 14212500) 40 14212500) 6 [])
    s.line.state = .draining ∧ s.line.drainLeft = 4 ∧ s.line.head = some (drainingHead 41) := by decide +kernel

theorem test_set_profile :
    let s := after .setProfile (asked State.reset 7
      ([1] ++ [0, 0xC0] ++ [0] ++ [0xFE, 0xE8] ++ [0xFF, 0xB0] ++ [9, 24, 4] ++ [0, 0] ++ [16, 3] ++ [0x0F, 0xA0]))
    s.roster.profiles.get 1 =
      { Profile.default with length := 192, period := 1, probes := 8, grace := 1 } ∧
      answers s = [(.okClamped, [])] := by decide +kernel

theorem test_read_profile :
    answers (after .readProfile (asked State.reset 8 [7])) =
      [(.ok, [7, 8, 0, 1, 0xFE, 0xE8, 0xFF, 0xB0, 4, 24, 4, 7, 0xD0, 16, 3, 0x0F, 0xA0])] := by decide +kernel

theorem test_set_admission :
    let s := after .setAdmission (asked State.reset 9 [2, 10, 12, 2])
    s.roster.mode = .mixed ∧ s.roster.poolLow = 10 ∧ s.roster.poolHigh = 12 ∧ s.roster.openProfile = 2 := by
  decide +kernel

theorem test_set_admission_empty_pool :
    answers (after .setAdmission (asked State.reset 9 [2, 12, 11, 2])) = [(.range, [])] := by decide +kernel

/-- LOAD EXPECTED with the two entries of 2.10, then one whose tag is taken. -/
def expectedBody : List Byte :=
  [0x1A, 0x2B, 0x3C, 0x01, 3, 1] ++ [0x1A, 0x2B, 0x3C, 0x02, 1, 1] ++ [0, 0, 0, 9, 3, 0]

theorem test_load_expected :
    let s := after .loadExpected (asked State.reset 0x0A expectedBody)
    s.roster.expected = [⟨0x1A2B3C01, 2, 1⟩, ⟨0x1A2B3C02, 0, 1⟩] ∧ answers s = [(.ok, [0, 0, 0x15])] := by decide +kernel

/-- The expected list of 2.10. -/
def twoExpected : State := { State.reset with roster.expected := [⟨0x1A2B3C01, 2, 1⟩, ⟨0x1A2B3C02, 0, 1⟩] }

theorem test_drop_expected :
    (after .dropExpected (asked twoExpected 0x0B [0x1A, 0x2B, 0x3C, 0x01])).roster.expected =
      [⟨0x1A2B3C02, 0, 1⟩] := by decide +kernel

theorem test_read_expected :
    answers (after .readExpected (asked twoExpected 0x0C [1, 255])) =
      [(.ok, [2, 1, 1, 0x1A, 0x2B, 0x3C, 0x02, 1, 1])] := by decide +kernel

/-- A HEARD record of tag 1, first in the admission queue, with the line in RUNNING. -/
def heard : State :=
  { (lit .running 9 1000).putTerm 0 (some (terminal 0x777 .heard)) with roster.admission := [0] }

theorem test_bar_serial :
    let s := after .barSerial (asked heard 0x0D [0, 0, 7, 0x77])
    s.roster.barred = [0x777] ∧ s.term 0 = none ∧ s.roster.admission = [] ∧
      s.line.notices = [⟨.standDown (some 0) .released, .roster⟩] := by decide +kernel

theorem test_lift_bar :
    answers (after .liftBar (asked State.reset 0x0E [0, 0, 0, 1])) = [(.absent, [])] := by decide +kernel

theorem test_read_strangers :
    let s := after .readStrangers
      (asked { State.reset with roster.strangers := [⟨0xBBB, .rosterFull, 1248⟩] } 0x0F [1])
    answers s = [(.ok, [0, 1, 0, 0, 0x0B, 0xBB, 1, 4, 0xE0])] ∧ s.roster.strangers = [] := by decide +kernel

theorem test_start_census :
    let s := after .startCensus (asked (lit .running 1000 0) 0x10 [0, 1, 0, 0, 0, 15, 0, 0, 0, 0, 0, 0, 0, 0])
    s.census.state = .searching ∧ s.census.effective = 15 ∧ s.census.stack = [⟨0, 0, 32⟩] := by decide +kernel

/-- The census of 6.7.1 at gap 4, whose node (0x4, 0xC, 2) is outstanding. -/
def atGap4 : State :=
  { lit .running 1011 0 with
    census :=
      { Census.reset with
        state := .searching, interval := 1, effective := 15, splitSet := 15, stack := [⟨8, 8, 3⟩]
        outstanding := some ⟨⟨4, 12, 2⟩, 0, 1010⟩ } }

theorem test_stop_census :
    (after .stopCensus (asked atGap4 0x11 [])).census =
      { atGap4.census with state := .stopping, stack := [] } := by decide +kernel

/-- READ TERMINAL of an ACTIVE record that reports DRIFT_SAT: it is cleared, which is one change (R185). -/
theorem test_read_terminal :
    let s := (lit .running 9 0).putTerm 1
      (some { terminal 0x1F00A004 (.active service) with flags := { RecFlags.clear with driftSat := true } })
    let t := after .readTerminal (asked s 0x12 [2])
    (answers t).map (fun a => (a.2.length, a.2.take 12)) =
        [(57, [2, 3, 0, 4, 0x00, 0x06, 0xFF, 0x8F, 0x1F, 0x00, 0xA0, 0x04])] ∧
      (t.term 1).map (fun h => h.flags) = some .clear ∧ (t.roster.records.get 1).changes = 1 := by decide +kernel

theorem test_read_roster :
    (answers (after .readRoster (asked heard 0x13 []))).map (fun a => (a.2.length, a.2.take 2)) =
      [(128, [1, 0])] := by decide +kernel

theorem test_park_terminal :
    let s := after .parkTerminal (asked heard 0x14 [1])
    (s.term 0).map Terminal.phase = some (.parked .host 0) ∧ s.roster.admission = [] ∧
      s.line.notices = [⟨.standDown (some 0) .host, .roster⟩] := by decide +kernel

theorem test_park_terminal_tag_129 : answers (after .parkTerminal (asked heard 0x14 [129])) = [(.range, [])] := by
  decide +kernel

theorem test_resume_terminal :
    let s := State.reset.putTerm 10 (some (terminal 0x888 (.parked .noReply 2500)))
    ((after .resumeTerminal (asked s 0x15 [11])).term 10).map Terminal.phase = some (.parked .noReply 0) := by
  decide +kernel

theorem test_release_terminal :
    let s := after .releaseTerminal (asked heard 0x16 [1])
    s.term 0 = none ∧ s.line.notices = [] ∧ s.link.recFlags.get 0 = true := by decide +kernel

/-- SET CONVERTER with window code 9, step code 0 and offset -9: the offset is made even toward zero (R158). -/
theorem test_set_converter :
    let s := after .setConverter (asked State.reset 0x17 [9, 0, 0xF7])
    s.conv.windowCode = 3 ∧ s.conv.stepCode = 0 ∧ s.conv.offset = -8 ∧ answers s = [(.okClamped, [])] := by
  decide +kernel

/-- SET CURVE from index 32 with two values: one is written (R160). -/
theorem test_set_curve :
    let s := after .setCurve (asked State.reset 0x18 [32, 0xFF, 0x06, 0x00, 0x7F])
    s.conv.curve.get 32 = -250 ∧ s.conv.curve.get 31 = 65 ∧ answers s = [(.ok, [1])] := by decide +kernel

theorem test_read_curve :
    answers (after .readCurve (asked State.reset 0x19 [31, 9])) = [(.ok, [2, 0, 0x41, 0, 0x50])] := by decide +kernel

theorem test_calibrate :
    let s := after .calibrate (asked (lit .running 7000 0) 0x1A [0x10, 0])
    s.conv.calib = some ⟨4095, 0, .waiting, none⟩ ∧ s.planner.slotWanted = true ∧ answers s = [(.accepted, [])] := by
  decide +kernel

theorem test_set_notice_mask :
    (after .setNoticeMask (asked State.reset 0x1B [0x0F])).link.mask = { NoticeMask.all with plan := false } := by
  decide +kernel

/-! ## The line's own events (1.7, 4.5, 8.10) -/

/-- 1.7: the start of cycle 1 at 1,312,500 counts the warm-up down to 15. -/
theorem test_cycle_start :
    let s := after .cycleStart (closed { lit .warming 0 1000000 with line.warmup := 16 } 0 1000000)
    s.line.cycle = some ⟨1, 1312500, 312500, none⟩ ∧ s.line.warmup = 15 ∧ s.line.state = .warming := by decide +kernel

/-- 1.7: RUNNING begins at the start of cycle 16, tick 6,000,000. -/
theorem test_warmup_end :
    let s := after .warmupEnd (closed { lit .warming 15 5687500 with line.warmup := 1 } 15 5687500)
    s.line.state = .running ∧ s.line.tick = 6000000 ∧ s.line.prev = .warming := by decide +kernel

/-- 1.7: the line is DARK at the end of cycle 44, tick 15,962,500, when its cycles are 350,000 ticks long. -/
theorem test_draining_end :
    let s := after .drainingEnd
      { lit .draining 44 0 with
        line.cycle := some ⟨44, 15612500, 350000, some 350000⟩, line.drainLeft := 1, line.drainCycle := true }
    s.line.state = .dark ∧ s.line.tick = 15962500 ∧ s.line.txEnable = false ∧ s.intake.store = [] := by decide +kernel

/-- 8.10: record 5 with grace 1 is PARKED LOST with hold 4,000 at the start of the next cycle. -/
theorem test_grace_expiry :
    let s := after (.graceExpiry 4)
      (closed ((lit .running 5985 0).putTerm 4 (some (terminal 0x55 (.silent service 4000 1)))) 5985 0)
    (s.term 4).map Terminal.phase = some (.parked .lost 4000) ∧
      s.line.notices = [⟨.standDown (some 4) .lost, .roster⟩] := by decide +kernel

/-- 1.7: the plan close of cycle 0 at 1,281,250. -/
theorem test_plan_close_warming :
    let s := after .planClose (lit .warming 0 1000000)
    s.line.tick = 1281250 ∧ s.line.head = some (warmingHead 1) ∧
      s.line.cycle = some ⟨0, 1000000, 312500, some 312500⟩ := by decide +kernel

/-- The plan close of 4.5: cycle 100, pending length 280,000, five due records, eight one-shot entries. -/
def underLoad : State :=
  let shot (owner : Owner) (tag : Tag) (kind : GrantKind) (coarse : Option Int) (seq : Bool) : OneShot :=
    { owner := owner, tag := tag, kind := kind, coarse := coarse, seq := seq, capture := kind = .probe }
  let on (serial : Serial) (profile : ProfileNo) : Option Terminal :=
    some { terminal serial (.active service) with profile := profile }
  let s : State :=
    { lit .running 100 0 with
      line.pendingLen := 280000
      roster.profiles := (((Bank.fill 8 Profile.default).set 0 { Profile.default with length := 8192 }).set 1
        { Profile.default with length := 2048, period := 2 }).set 3 { Profile.default with length := 16384 }
      census := { Census.reset with state := .searching, stack := [⟨0, 0, 32⟩] }
      planner :=
        { Planner.reset with
          sweep := 5
          slotWanted := true
          shots :=
            [shot (.lane 1) 19 .probe (some 104512) true, shot (.lane 0) 20 .trimCheck none false,
             shot .supervisor 32 .ret none false, shot (.lane 3) 39 .offerReply (some 150000) false,
             shot (.lane 2) 40 .probe (some 200000) false, shot (.lane 4) 59 .offerReply (some 9000) false,
             shot (.lane 5) 60 .probe (some 120000) true, shot .supervisor 49 .ret none false] } }
  (((((s.putTerm 1 (on 2 0)).putTerm 4 (on 5 0)).putTerm 3 (on 4 1)).putTerm 6 (on 7 1)).putTerm 8 (on 9 3)).putTerm 10
    (on 11 0)

theorem test_plan_close_under_load :
    let s := after .planClose underLoad
    s.planner.built.map (fun p => (p.slot, p.grants.map fun g => (g.first, g.stop, g.start))) =
        some (some ⟨248576, 248768⟩,
          [(0, 248512, 248000), (248832, 257056, 248848), (257120, 265344, 257136), (265408, 267488, 265424),
           (267552, 275776, 267568), (275840, 276544, 427584), (276608, 276832, 276624), (276896, 277120, 276912),
           (277184, 277888, 383440), (277952, 278656, 334208), (278720, 279424, 525976)]) ∧
      s.planner.overruns = 1 ∧ s.planner.lastOverrun = some 101 ∧ s.planner.sweep = 7 ∧
      s.planner.shots.map (fun e => e.tag) = [60, 49] := by decide +kernel

/-! ## The Intake (5.10, 6.7, 6.8, 9.7) -/

/-- The frame of 5.10: the census grant, and the STANDING grant of tag 4 with its capture mark. -/
def frame500 : State :=
  { (lit .running 500 0).putTerm 3 (some (terminal 0x44 (.active service))) with
    line.tick := 504600
    intake.strays := 1000
    intake.store :=
      [{ cycle := 500, start := 0, len := 312500, slot := none
         windows :=
           [opened (gapGrant .default ⟨0, 3, 1⟩ 0),
            opened { standingGrant .default 3 2048 248576 with capture := true }] }] }

/-- 5.10, report 4: the STANDING burst of tag 4 at 248,592 is matched CLEAN and captured. -/
theorem test_burst_report_standing :
    let s := after (.burstReport 504592 [6, 4, 0, 0, 0, 0, 8, 0, 0, 0, 0, 0] true false 504600) frame500
    s.intake.store.map (fun p => p.windows.map fun w => (w.state, w.quality)) =
        [[(.opened, none), (.matched, some .clean)]] ∧
      s.conv.state = .sampling ⟨.supervisor, 3, 500, 504592, 192, 16, 0, false⟩ := by decide +kernel

/-- 5.10, report 3: serial 0x1F00A006 does not match the pattern 0 under the mask 3, and is a stray. -/
theorem test_burst_report_census_stray :
    (after (.burstReport 426000 [1, 0x06, 0xA0, 0x00, 0x1F, 0, 1, 0, 0, 0, 0, 0] true false 426040) frame500).intake.strays =
      1001 := by decide +kernel

/-- 6.7.1, gap 4: the garbled close splits (0x4, 0xC, 2) on bit 1, the zero-child on top, and loads the wait. -/
theorem test_window_close_splits :
    let s := after .windowClose
      { atGap4 with
        intake.store := [storedOne 1010 0 { opened (gapGrant .default ⟨4, 12, 2⟩ 0) with garble := true }] }
    s.census.stack = [⟨4, 14, 1⟩, ⟨6, 14, 1⟩, ⟨8, 8, 3⟩] ∧ s.census.wait = 1 ∧ s.census.outstanding = none ∧
      s.line.tick = 504512 := by decide +kernel

/-- 6.9: the same close in STOPPING makes no split and ends the pass STOPPED. -/
theorem test_window_close_stopping :
    let s := after .windowClose
      { atGap4 with
        census := { atGap4.census with state := .stopping, stack := [] }
        intake.store := [storedOne 1010 0 { opened (gapGrant .default ⟨4, 12, 2⟩ 0) with garble := true }] }
    s.census.state = .stopped ∧ s.census.stack = [] ∧ s.census.counters.garbled = 1 ∧ s.census.wait = 1 ∧
      s.census.lastPass.map (fun p => (p.kind, p.cycle)) = some (.stopped, 1011) ∧ s.census.passes = 0 := by decide +kernel

/-- 9.7, attempt 3: target 64 and dark code 73 leave the offset -8 at the end of frame 7,004. -/
theorem test_frame_end_calibrates :
    let s := after .frameEnd
      { lit .running 7005 312500 with
        intake.store := [(emptyPlan 7004 312500).stored 0, (emptyPlan 7005 312500).stored 312500]
        conv.calib := some ⟨64, 3, .sampled ⟨7004, ⟨0, 192⟩, 256000⟩ (some 73), some .light⟩ }
    s.conv.offset = -8 ∧ s.conv.lastCalib = some ⟨true, 64, 3, some 73, none, -8⟩ ∧ s.line.tick = 568500 ∧
      s.intake.store.map StoredPlan.cycle = [7005] := by decide +kernel

/-! ## The converter (9.6.3, 9.7, 7.8.2) -/

/-- 9.7, attempt 1: the slot starts while a capture converts, and the attempt fails BUSY. -/
theorem test_dark_slot_start_busy :
    let s := after .darkSlotStart
      { lit .running 7001 312500 with
        conv.state := .converting ⟨.lane 0, 9, 7000, 568060, 192, 16, 0, false⟩
        conv.calib := some ⟨64, 1, .placed ⟨7001, ⟨0, 192⟩, 568500⟩, none⟩ }
    s.conv.calib = some ⟨64, 1, .waiting, some .busy⟩ ∧ s.planner.slotWanted = true ∧ s.line.tick = 568500 := by
  decide +kernel

/-- 9.6.3: a sample window of 192 ticks begun at 265,424 ends at 265,616. -/
theorem test_sample_window_end :
    let c : Capture := ⟨.supervisor, 6, 500, 265424, 192, 16, 0, false⟩
    let s := after .sampleWindowEnd { lit .running 500 0 with conv.state := .sampling c }
    s.conv.state = .converting c ∧ s.line.tick = 265616 := by decide +kernel

/-- 7.8.2: lane 0 at the last probe, its close taken, awaiting the level of the capture. -/
def lastProbe : State :=
  let probe : ProbeWork :=
    { count := 4, remaining := 1, extensions := 0, misses := 0, seq := true, mismatches := 0,
      echoes := [104519, 104522, 104517], levels := [-195, -197, -194] }
  let grant := { shotGrant .default ⟨.lane 0, 1, .probe, some 104512, true, true⟩ 20000 with start := 171744 }
  let result : BurstResult :=
    { grant := grant, cycle := 2008, position := 20269, length := 192, quality := .clean, kind := .echo, seq := true,
      serialEcho := none, flagsValid := true, powerFailing := false, rxLow := false, captureAsked := true }
  let work : LaneWork :=
    { tag := 1, stage := .probe probe, lastFailure := none, notice := .absent, shot := .placed 2008 .probe,
      held := { result := some result, answer := none, close := some (.quality .clean) } }
  let s : State :=
    { lit .running 2008 0 with conv.state := .converting ⟨.lane 0, 1, 2008, 276269, 192, 16, 0, false⟩ }
  (s.putTerm 1 (some (terminal 0x1F00A004 (.engaged 0 none)))).setWork 0 (some work)

/-- 7.8.2: code 1,740 is the level -196; the lane computes E 104,521, H 151,479 and level -195, and posts the HOLDOFF. -/
theorem test_conversion_end_computes :
    let s := after (.conversionEnd 1740) lastProbe
    (s.term 1).map (fun h => (h.level, h.phase)) = some (some (-195), .engaged 0 (some ⟨104521, 151479⟩)) ∧
      s.line.notices = [⟨.holdoff 1 151479, .lane 0 0⟩] ∧ s.line.tick = 276717 ∧ s.conv.state = .idle := by
  decide +kernel

/-! ## Witnesses: states that meet the hypotheses of the statements, clause by clause -/

/-- The handler is offered the one request of `asked`. -/
theorem offers (s : State) (kind : Nat) (body : List Byte) (idle : s.link.handler = .idle)
    (room : s.link.outbound.length < 8) (small : kind < 256) :
    (asked s kind body).Offers kind (request kind body) [] :=
  ⟨idle, room, rfl, byteOf_toNat small⟩

/-- After reset the handler is offered it. -/
theorem offers_reset (kind : Nat) (body : List Byte) (small : kind < 256) :
    (asked State.reset kind body).Offers kind (request kind body) [] :=
  offers _ _ _ rfl (by decide) small

/-- On a lit line the handler is offered it. -/
theorem offers_lit (state : LineState) (kind : Nat) (body : List Byte) (small : kind < 256) :
    (asked (lit state 9 1000) kind body).Offers kind (request kind body) [] :=
  offers _ _ _ rfl (by simp [lit, State.reset, Link.reset]) small

/-- Every record is FREE after reset. -/
theorem term_reset (g : Tag) : State.reset.term g = none := by
  simp [State.term, State.reset, Roster.reset, Record.free]

theorem term_asked (s : State) (kind : Nat) (body : List Byte) (g : Tag) : (asked s kind body).term g = s.term g := rfl

theorem term_lit (state : LineState) (num : CycleNo) (start : Tick) (g : Tag) : (lit state num start).term g = none :=
  term_reset g

theorem term_heard (g : Tag) : heard.term g = if g = 0 then some (terminal 0x777 .heard) else none := by
  show ((lit .running 9 1000).putTerm 0 (some (terminal 0x777 .heard))).term g = _
  rw [State.term_putTerm, term_lit]

theorem witness_StepTakesFrontCommand :
    { State.reset with pending := [.identify, .cycleStart] }.pending = .identify :: [.cycleStart] := rfl

theorem witness_StepTakesFrontCommand_tick : State.reset.pending = [] := rfl

/-- A restart that is due: `replied` with the reply on its way, or quiet and between frames. -/
def restarting (form : RestartForm) (n : Nat) (replied : Bool) (tx : Transmitter) : State :=
  { lit .running 9 1000 with link.handler := .restartWaiting form n replied, link.tx := tx }

theorem witness_restart_due (form : RestartForm) :
    (restarting form 0 true (.sending [])).link.handler = .restartWaiting form 0 true ∧
      (restarting form 0 false .betweenFrames).link.handler = .restartWaiting form 0 false ∧
      (restarting form 0 false .betweenFrames).link.tx = .betweenFrames := ⟨rfl, rfl, rfl⟩

theorem witness_RestartWaitsForReplies :
    (asked State.reset 0x1C [1]).Offers 0x1C (request 0x1C [1]) [] ∧
      (asked State.reset 0x1C [2]).Offers 0x1C (request 0x1C [2]) [] ∧
      (let s := { restarting .full 2 true (.sending []) with link.outbound := [⟨1, 4, .ok, []⟩, ⟨0x1C, 5, .ok, []⟩] };
        s.link.handler = .restartWaiting .full (1 + 1) true ∧
          s.link.outbound = ⟨1, 4, .ok, []⟩ :: [⟨0x1C, 5, .ok, []⟩]) :=
  ⟨offers_reset _ _ (by decide), offers_reset _ _ (by decide), rfl, rfl⟩

/-- An inbound queue of `n` requests and an outbound queue of `m` replies, behind a frame that is being sent. -/
def queued (n m : Nat) : State :=
  { State.reset with
    link.tx := .sending []
    link.inbound := List.replicate n (request 1 []), link.outbound := List.replicate m ⟨1, 5, .ok, []⟩ }

theorem witness_FramesAreQueuedOrAnswered :
    (List.replicate 250 (0xA5 : Byte)).length ≤ 250 ∧
      ((queued 3 8).link.rx = .hunt ∧ (queued 3 8).link.inbound.length < 4) ∧
      ((queued 4 7).link.rx = .hunt ∧ (queued 4 7).link.inbound.length = 4 ∧
        (queued 4 7).chooseAgain.link.outbound.length < 8) ∧
      ((queued 4 8).link.inbound.length = 4 ∧ (queued 4 8).chooseAgain.link.outbound.length = 8) ∧
      (let s := { queued 4 8 with link.tx := .betweenFrames };
        s.link.rx = .hunt ∧ s.chooseAgain.link.outbound.length < 8) := by decide +kernel

theorem witness_ReceiverTakesEachByte :
    State.reset.link.rx = .hunt ∧ { State.reset with link.rx := .count 0xFFFF }.link.rx = .count 0xFFFF ∧
      { State.reset with link.rx := .content 7 2 [1] }.link.rx = .content 7 2 [1] ∧
      { State.reset with link.rx := .check 7 [1, 5] none }.link.rx = .check 7 [1, 5] none ∧
      (let high : Byte := 0;
        { State.reset with link.rx := .check 7 [1, 5] (some high) }.link.rx = .check 7 [1, 5] (some high) ∧
          high ++ (8 : Byte) ≠ (7 : BitVec 16)) := by decide +kernel

/-- A state with these kinds, mask and record flags, from which the transmitter chooses a notice. -/
def choosing (kinds : KindFlags) (flags : Bank Bool 128) : State :=
  { State.reset with link.kinds := kinds, link.recFlags := flags }

theorem witness_TransmitterChoosesInOrder :
    let none128 : Bank Bool 128 := .fill 128 false
    let quiet : KindFlags := { hello := false, line := false, calibration := false, census := false, plan := false }
    (queued 0 1).link.handler = .idle ∧ (queued 0 1).link.outbound = ⟨1, 5, .ok, []⟩ :: [] ∧
      (State.reset.link.outbound = [] ∧ State.reset.link.kinds.hello = true) ∧
      ((choosing { quiet with line := true } none128).link.kinds.line = true ∧
        (choosing { quiet with line := true } none128).link.mask.line = true) ∧
      (choosing { quiet with calibration := true } none128).link.kinds.calibration = true ∧
      (choosing { quiet with census := true } none128).link.kinds.census = true ∧
      ((choosing quiet (none128.set 127 true)).link.recFlags.get 127 = true ∧
        ∀ f : Tag, f < 127 → (choosing quiet (none128.set 127 true)).link.recFlags.get f = false) ∧
      ((choosing { quiet with plan := true } none128).link.kinds.plan = true ∧
        ∀ g, (choosing { quiet with plan := true } none128).link.recFlags.get g = false) ∧
      (choosing quiet none128).link.kinds.plan = false ∧ (queued 0 1).link.tx = .sending [] ∧
      State.reset.link.tx = .betweenFrames ∧
      after .gapExpiry (choosing quiet none128) = choosing quiet none128 ∧
      (choosing quiet none128).link.handler = .idle := by decide +kernel

theorem witness_RequestsAreTakenInTurn_refused :
    (asked State.reset 0 []).Offers 0 (request 0 []) [] ∧ (asked State.reset 0x1D []).Offers 0x1D (request 0x1D []) [] ∧
      (asked State.reset 0x18 (List.replicate 69 0)).Offers 0x18 (request 0x18 (List.replicate 69 0)) [] ∧
      (⟨.setCurve, 0x18, (List.range 33).map fun n => 1 + 2 * (n + 1)⟩ : RequestRow) ∈ requestTable 0 ∧
      (request 0x18 (List.replicate 69 0)).body.length ∉ (List.range 33).map fun n => 1 + 2 * (n + 1) :=
  ⟨offers_reset _ _ (by decide), offers_reset _ _ (by decide), offers_reset _ _ (by decide),
   by simp [requestTable], by decide⟩

theorem witness_RequestsAreTakenInTurn :
    (Instr.restart ∈ Instr.unknownRequest :: (requestTable 0).map RequestRow.command) ∧
      (restarting .line 0 true (.sending [])).link.handler ≠ .idle ∧ 8 ≤ (queued 1 8).link.outbound.length ∧
      State.reset.link.inbound = [] := by decide +kernel

/-- RESUME TERMINAL of a FREE record is refused STATE. -/
theorem witness_RefusalsChangeNothing :
    let s := asked State.reset 0x15 [1]
    (⟨.resumeTerminal, 0x15, [1]⟩ : RequestRow) ∈ requestTable 0 ∧ s.Offers 0x15 (request 0x15 [1]) [] ∧
      Result.state ∈ refusals ∧ after .resumeTerminal s = s.answered (request 0x15 [1]) [] .state [] :=
  ⟨by simp [requestTable], offers_reset _ _ (by decide), by decide, by decide +kernel⟩

theorem witness_empty_requests :
    (asked State.reset 0x01 []).Offers 0x01 (request 0x01 []) [] ∧
      (asked State.reset 0x02 []).Offers 0x02 (request 0x02 []) [] ∧ State.reset.line.state = .dark ∧
      (asked (lit .running 9 1000) 0x02 []).Offers 0x02 (request 0x02 []) [] ∧
      (lit .running 9 1000).line.cycle = some ⟨9, 1000, 312500, none⟩ ∧
      (asked State.reset 0x13 []).Offers 0x13 (request 0x13 []) [] ∧ State.reset.roster.barred.length ≤ 16 :=
  ⟨offers_reset _ _ (by decide), offers_reset _ _ (by decide), rfl, offers_lit _ _ _ (by decide), rfl,
   offers_reset _ _ (by decide), by decide⟩

theorem witness_LineIsSetAndLit :
    let a : LineSettings := { LineSettings.default with ref := 262144, hush := 0 }
    (asked State.reset 0x03 a.bytes).Offers 0x03 (request 0x03 a.bytes) [] ∧ a.Sendable ∧
      (asked (lit .draining 9 1000) 0x03 a.bytes).Offers 0x03 (request 0x03 a.bytes) [] ∧
      (asked State.reset 0x04 (beBytes 4 400001)).Offers 0x04 (request 0x04 (beBytes 4 400001)) [] :=
  ⟨offers_reset _ _ (by decide), by simp [LineSettings.Sendable, LineSettings.default],
   offers_lit _ _ _ (by decide), offers_reset _ _ (by decide)⟩

theorem witness_line_requests (state : LineState) :
    (asked State.reset 0x05 []).Offers 0x05 (request 0x05 []) [] ∧
      (asked (lit state 9 1000) 0x05 []).Offers 0x05 (request 0x05 []) [] ∧
      (asked (lit state 9 1000) 0x06 []).Offers 0x06 (request 0x06 []) [] ∧
      (asked (lit state 9 1000) 0x06 []).line.state = state :=
  ⟨offers_reset _ _ (by decide), offers_lit _ _ _ (by decide), offers_lit _ _ _ (by decide), rfl⟩

/-- The clauses of DARKEN LINE in RUNNING: a record that is FREE and one that is parked, a census that runs, a calibration in
progress, a capture in flight, and the plan close not passed and passed. -/
theorem witness_DarkenLineByState :
    let capture : Capture := ⟨.supervisor, 6, 500, 265424, 192, 16, 0, false⟩
    let s : State :=
      { heard with
        census := atGap4.census, conv.calib := some ⟨64, 1, .waiting, some .busy⟩, conv.state := .sampling capture }
    s.line.cycle = some ⟨9, 1000, 312500, none⟩ ∧ (closed s 9 1000).line.cycle = some ⟨9, 1000, 312500, some 312500⟩ ∧
    s.conv.state = .sampling capture ∧ (closed s 9 1000).line.state = .running ∧
    (asked s 0x06 []).Offers 0x06 (request 0x06 []) [] ∧ s.line.state = .running ∧
      s.term 0 = some (terminal 0x777 .heard) ∧ s.term 1 = none ∧ s.census.state ≠ .stopped ∧
      s.conv.calib = some ⟨64, 1, .waiting, some .busy⟩ :=
  ⟨rfl, rfl, rfl, rfl, offers _ _ _ rfl (by decide +kernel) (by decide), by decide +kernel, by decide +kernel, by decide +kernel,
   by decide +kernel, by decide +kernel⟩

theorem witness_ProfilesAndAdmission :
    let a : Profile := { Profile.default with length := 191, low := -601 }
    let body : List Byte := byteOf 7 :: a.bytes
    (asked State.reset 0x07 body).Offers 0x07 (request 0x07 body) [] ∧ a.Sendable ∧
      (asked State.reset 0x08 [byteOf 7]).Offers 0x08 (request 0x08 [byteOf 7]) [] ∧
      (asked State.reset 0x07 (8 :: List.replicate 16 0)).Offers 0x07 (request 0x07 (8 :: List.replicate 16 0)) [] ∧
      (asked State.reset 0x08 [8]).Offers 0x08 (request 0x08 [8]) [] ∧ 7 < (8 : Byte).toNat :=
  ⟨offers_reset _ _ (by decide), by simp [Profile.Sendable, Profile.default, fitsTwoBytes], offers_reset _ _ (by decide),
   offers_reset _ _ (by decide), offers_reset _ _ (by decide), by decide⟩

/-- SET ADMISSION at the ends of its ranges; with the list of 2.10 a MIXED pool from 3 holds tag 3, one from 4 holds
no entry's tag. -/
theorem witness_ProfilesAndAdmission_pool :
    (asked twoExpected 0x09 [2, 3, 128, 7]).Offers 0x09 (request 0x09 [2, 3, 128, 7]) [] ∧
      (∃ e ∈ twoExpected.roster.expected, 3 ≤ tagNum e.tag ∧ tagNum e.tag ≤ 128) ∧
      (asked twoExpected 0x09 [2, 4, 128, 7]).Offers 0x09 (request 0x09 [2, 4, 128, 7]) [] ∧
      (¬∃ e ∈ twoExpected.roster.expected, 4 ≤ tagNum e.tag ∧ tagNum e.tag ≤ 128) ∧
      (asked twoExpected 0x09 [3, 1, 128, 0]).Offers 0x09 (request 0x09 [3, 1, 128, 0]) [] ∧
      AdmissionMode.mixed.code = 2 :=
  ⟨offers _ _ _ rfl (by decide) (by decide), by decide +kernel, offers _ _ _ rfl (by decide) (by decide),
   by decide +kernel, offers _ _ _ rfl (by decide) (by decide), rfl⟩

/-- An expected list of 128 entries. -/
def fullList : State :=
  { State.reset with roster.expected := (List.finRange 128).map fun t => ⟨BitVec.ofNat 32 t.val, t, 0⟩ }

theorem witness_ExpectedListLoadsAndDrops :
    let entry : List Byte := beBytes 4 (0x777 : Serial).toNat ++ [byteOf (tagNum 127), byteOf 7]
    (asked State.reset 0x0A entry).Offers 0x0A (request 0x0A entry) [] ∧
      (asked State.reset 0x0A (beBytes 4 0 ++ [129, 0])).Offers 0x0A (request 0x0A (beBytes 4 0 ++ [129, 0])) [] ∧
      (asked fullList 0x0A entry).Offers 0x0A (request 0x0A entry) [] ∧ 128 ≤ fullList.roster.expected.length ∧
      State.reset.roster.expected.length < 128 ∧ (∀ h, State.reset.term 127 = some h → h.serial = 0x777) ∧
      (∀ u h, u ≠ 127 → State.reset.term u = some h → h.serial ≠ 0x777) ∧
      (asked heard 0x0A entry).Offers 0x0A (request 0x0A entry) [] ∧
      (∃ u h, u ≠ 127 ∧ heard.term u = some h ∧ h.serial = 0x777) ∧
      (let many : List (Serial × Byte × Byte) := List.replicate 20 (0x777, 128, 7);
        let body := many.flatMap fun e => beBytes 4 e.1.toNat ++ [e.2.1, e.2.2]
        (asked State.reset 0x0A body).Offers 0x0A (request 0x0A body) [] ∧ many.length = 20) := by
  refine ⟨offers_reset _ _ (by decide), offers_reset _ _ (by decide), offers _ _ _ rfl (by decide) (by decide),
    by decide +kernel, by decide, by simp [term_reset], by simp [term_reset],
    offers _ _ _ rfl (by decide +kernel) (by decide), ⟨0, terminal 0x777 .heard, by decide, ?_, rfl⟩,
    offers_reset _ _ (by decide), rfl⟩
  simp [term_heard]

/-- R41: of two entries with one serial the first is in the list when the second is judged, which is then in conflict. -/
theorem witness_ExpectedListLoadsAndDrops_judged :
    ∃ u, EntriesJudged State.reset [(0x777, 128, 7), (0x777, 1, 0)] [0x00, 0x15] u := by
  let u : State := { State.reset with roster.expected := [⟨0x777, 127, 7⟩] }
  have first : State.reset.EntryJudged 0x777 128 7 0x00 u := by
    refine .accepted 127 7 u rfl rfl (by decide) ?_ rfl ?_ (fun _ _ => rfl) (fun _ => rfl) rfl
    · rintro (⟨e, he, _⟩ | ⟨h, _⟩ | ⟨h, hh, _⟩ | ⟨t, h, _, hh, _⟩)
      · cases he
      · cases h
      · rw [term_reset] at hh; cases hh
      · rw [term_reset] at hh; cases hh
    · rw [show u.term 127 = none from term_reset 127, term_reset]; rfl
  exact ⟨u, .more first (.more (.conflict 0 0 rfl rfl (by decide) (.inl ⟨⟨0x777, 127, 7⟩, .head _, .inl rfl⟩)) (.none u))⟩

/-! ### A sound state in RUNNING, with one HEARD record that a lane can seize -/

theorem work_heard (i : LaneNo) : heard.work i = none := by
  show ((State.reset).lanes.get i).work = none
  simp [State.reset, Lane.free]

/-- The shape is the roster's alone. -/
theorem rosterShape_same {s u : State} (h : s.RosterShape) (e : u.roster = s.roster) : u.RosterShape := by
  obtain ⟨⟩ := s
  obtain ⟨⟩ := u
  cases e
  exact { h with }

theorem rosterShape_heard : heard.RosterShape where
  serials t u h ht k hk e := by
    simp only [term_heard, Option.mem_def] at ht hk
    split at ht <;> split at hk <;> simp_all
  entrySerials := List.nodup_nil
  entryTags := List.nodup_nil
  entryRecords e he := by cases he
  listed t h ht := by
    simp only [term_heard, Option.mem_def] at ht
    split at ht <;> simp_all
    subst ht; rfl
  barredOut t h ht := List.not_mem_nil
  barredOnce := List.nodup_nil
  strangersOnce := List.nodup_nil
  mixedPool := by decide +kernel
  admissionOnce := by decide +kernel
  admissionFits := by decide +kernel
  admissionHeard t := by
    show t ∈ [(0 : Tag)] ↔ _
    simp only [term_heard, Option.mem_def, List.mem_singleton]
    split <;> simp_all [terminal]

theorem lanesAgree_heard : heard.LanesAgree := by
  intro i t
  simp only [work_heard, term_heard, Option.mem_def]
  split <;> simp [terminal, Terminal.lane]

theorem capacities_heard : heard.Capacities := by
  constructor <;> decide +kernel

theorem lineShape_heard : heard.LineShape where
  enable := rfl
  cycle := rfl
  paired := rfl
  next p hp := by cases hp
  newest p hp := ⟨_, rfl, by cases hp; exact ⟨rfl, rfl, rfl⟩⟩

theorem profile_default : Profile.default.InRange := by
  constructor <;> decide

theorem settings_heard : heard.SettingsInRange where
  line := by constructor <;> decide
  pendingLen := ⟨by decide, by decide⟩
  cycle c hc := by cases hc; exact ⟨⟨by decide, by decide⟩, fun n hn => by cases hn⟩
  warmup := by decide
  profiles n := by
    show ((Bank.fill 8 Profile.default).get n).InRange
    rw [Bank.get_fill]; exact profile_default
  pool := by decide
  interval := by decide
  offset := by decide
  curve k := by
    show -600 ≤ defaultCurve.get k ∧ defaultCurve.get k ≤ 100
    simp only [defaultCurve, Bank.get_tabulate]
    omega
  calib c hc := by cases hc

theorem counts_heard : heard.CountsCapped where
  transitions := by decide
  drainLeft := by decide
  overruns := by decide
  sweep := by decide
  wait := by decide
  passes := by decide
  counters := by constructor <;> decide
  changes g := by
    simp only [heard, lit, State.putTerm, State.reset, Roster.reset, Bank.get_update, Bank.get_fill, Record.free]
    split <;> simp
  phases g h hg := by
    rw [term_heard, Option.mem_def] at hg
    split at hg <;> simp_all
    subst hg; trivial
  lanes i w hw := by rw [work_heard] at hw; cases hw

theorem census_heard : heard.CensusShape where
  stopped _ := ⟨rfl, rfl⟩
  stopping h := by cases h
  searching h := by cases h
  ordered :=
    { rising := List.Pairwise.nil, top := fun n hn => (by cases hn), below := .inl fun n hn => (by cases hn) }
  outstanding o ho := by cases ho
  depth := by decide
  root := rfl
  split := rfl
  masked n hn := by cases hn
  outMasked o ho := by cases ho

theorem measures_heard : heard.MeasuresInRange where
  coarse g h hg := by
    rw [term_heard, Option.mem_def] at hg
    split at hg <;> simp_all
    subst hg; decide
  echo g h hg x hx := by
    rw [term_heard, Option.mem_def] at hg
    split at hg <;> simp_all
    subst hg; cases hx
  trimmed i w hw := by rw [work_heard] at hw; cases hw
  level g h hg v hv := by
    rw [term_heard, Option.mem_def] at hg
    split at hg <;> simp_all
    subst hg; cases hv
  sampled i w hw := by rw [work_heard] at hw; cases hw

theorem sound_heard : heard.Sound where
  capacities := capacities_heard
  line := lineShape_heard
  settings := settings_heard
  counts := counts_heard
  quiet := fun h => absurd rfl h
  census := census_heard
  roster := rosterShape_heard
  lanes := lanesAgree_heard
  measures := measures_heard

/-- Every invariant holds of one state in RUNNING, and its step answers a next state. -/
theorem witness_invariants : heard.Sound ∧ step heard = .next heard.idleTick := ⟨sound_heard, rfl⟩

/-- The invariant of the states outside RUNNING is met there by a state that is not in reset: WARMING. -/
theorem witness_QuietOffRunningKept :
    (lit .warming 9 1000).QuietOffRunning ∧ (lit .warming 9 1000).line.state ≠ .running ∧
      step (lit .warming 9 1000) = .next (lit .warming 9 1000).idleTick :=
  ⟨fun _ => ⟨rfl, rfl, rfl, rfl, fun i => by show (State.reset.lanes.get i).work = none; simp [State.reset, Lane.free],
    fun g => by show State.reset.sup.get g = .empty; simp [State.reset],
    fun g h hg => by simp [term_lit] at hg, rfl, rfl, rfl⟩, by decide, rfl⟩

/-! ### The lists -/

theorem witness_ExpectedListLoadsAndDrops_absent :
    let body := beBytes 4 (0x777 : Serial).toNat
    (asked heard 0x0B body).Offers 0x0B (request 0x0B body) [] ∧ (asked heard 0x0B body).RosterShape ∧
      ∀ e ∈ heard.roster.expected, e.serial ≠ 0x777 :=
  ⟨offers _ _ _ rfl (by decide +kernel) (by decide), rosterShape_same rosterShape_heard rfl, by decide +kernel⟩

/-- An entry and the record that it lists. -/
def listedHeard : State :=
  { (lit .running 9 1000).putTerm 0 (some { terminal 0x777 .heard with listed := true, profile := 1 }) with
    roster.admission := [0], roster.expected := [⟨0x777, 0, 1⟩] }

theorem term_listedHeard (g : Tag) : listedHeard.term g =
    if g = 0 then some { terminal 0x777 .heard with listed := true, profile := 1 } else none := by
  show ((lit .running 9 1000).putTerm 0 (some { terminal 0x777 .heard with listed := true, profile := 1 })).term g = _
  rw [State.term_putTerm, term_lit]

theorem rosterShape_listedHeard : listedHeard.RosterShape where
  serials t u h ht k hk e := by
    simp only [term_listedHeard, Option.mem_def] at ht hk
    split at ht <;> split at hk <;> simp_all
  entrySerials := by decide +kernel
  entryTags := by decide +kernel
  entryRecords e he h hh := by
    have : e = ⟨0x777, 0, 1⟩ := List.mem_singleton.mp he
    subst this
    simp only [term_listedHeard, Option.mem_def] at hh
    simp at hh
    subst hh; rfl
  listed t h ht := by
    simp only [term_listedHeard, Option.mem_def] at ht
    split at ht <;> simp_all
    subst ht; rfl
  barredOut t h ht := List.not_mem_nil
  barredOnce := List.nodup_nil
  strangersOnce := List.nodup_nil
  mixedPool := by decide +kernel
  admissionOnce := by decide +kernel
  admissionFits := by decide +kernel
  admissionHeard t := by
    show t ∈ [(0 : Tag)] ↔ _
    simp only [term_listedHeard, Option.mem_def, List.mem_singleton]
    split <;> simp_all [terminal]

theorem witness_ExpectedListLoadsAndDrops_listed :
    (asked listedHeard 0x0B (beBytes 4 (0x777 : Serial).toNat)).Offers 0x0B
        (request 0x0B (beBytes 4 (0x777 : Serial).toNat)) [] ∧
      listedHeard.RosterShape ∧ (∃ e ∈ listedHeard.roster.expected, e.serial = 0x777) :=
  ⟨offers _ _ _ rfl (by decide +kernel) (by decide), rosterShape_listedHeard, by decide +kernel⟩

theorem witness_ReadExpectedInOrder :
    (asked twoExpected 0x0C [128, 0]).Offers 0x0C (request 0x0C [128, 0]) [] ∧ 127 < (128 : Byte).toNat ∧
      (asked fullList 0x0C [127, 255]).Offers 0x0C (request 0x0C [127, 255]) [] ∧ (127 : Byte).toNat ≤ 127 :=
  ⟨offers _ _ _ rfl (by decide) (by decide), by decide, offers _ _ _ rfl (by decide) (by decide), by decide⟩

/-- A bar list of `n` serials from 1 up. -/
def barred (n : Nat) : State := { State.reset with roster.barred := (List.range n).map fun k => BitVec.ofNat 32 (k + 1) }

theorem rosterShape_barred : (barred 16).RosterShape where
  serials t u h ht := by rw [show (barred 16).term t = none from term_reset t] at ht; cases ht
  entrySerials := List.nodup_nil
  entryTags := List.nodup_nil
  entryRecords e he := by cases he
  listed t h ht := by rw [show (barred 16).term t = none from term_reset t] at ht; cases ht
  barredOut t h ht := by rw [show (barred 16).term t = none from term_reset t] at ht; cases ht
  barredOnce := by decide +kernel
  strangersOnce := List.nodup_nil
  mixedPool := by decide +kernel
  admissionOnce := List.nodup_nil
  admissionFits := Nat.zero_le _
  admissionHeard t := by
    show t ∈ ([] : List Tag) ↔ ∃ h ∈ State.reset.term t, _
    simp [term_reset]

theorem witness_BarsAndStrangers :
    let bytes (x : Serial) : List Byte := beBytes 4 x.toNat
    (asked heard 0x0D (bytes 0x777)).Offers 0x0D (request 0x0D (bytes 0x777)) [] ∧ heard.RosterShape ∧
      (0x777 : Serial) ∉ heard.roster.barred ∧ heard.roster.barred.length < 16 ∧
      heard.term 0 = some (terminal 0x777 .heard) ∧ (∀ g h, heard.term g = some h → h.serial ≠ 0x778) ∧
      (asked (barred 16) 0x0D (bytes 17)).Offers 0x0D (request 0x0D (bytes 17)) [] ∧ (barred 16).RosterShape ∧
      (17 : Serial) ∉ (barred 16).roster.barred ∧ 16 ≤ (barred 16).roster.barred.length ∧
      (16 : Serial) ∈ (barred 16).roster.barred ∧
      (asked (barred 16) 0x0E (bytes 17)).Offers 0x0E (request 0x0E (bytes 17)) [] := by
  refine ⟨offers _ _ _ rfl (by decide +kernel) (by decide), rosterShape_heard, by decide +kernel, by decide +kernel,
    by simp [term_heard], ?_, offers _ _ _ rfl (by decide) (by decide), rosterShape_barred, by decide +kernel,
    by decide +kernel, by decide +kernel, offers _ _ _ rfl (by decide) (by decide)⟩
  intro g h hg
  rw [term_heard] at hg
  split at hg <;> simp_all
  subst hg; decide

theorem witness_BarsAndStrangers_read (option : Byte) :
    (asked State.reset 0x0F [option]).Offers 0x0F (request 0x0F [option]) [] ∧ (1 : Byte).toNat ≤ 1 ∧
      1 < (2 : Byte).toNat :=
  ⟨offers_reset _ _ (by decide), by decide, by decide⟩

/-! ### The census and the terminals -/

theorem witness_CensusStartsAndStops :
    let body : List Byte := [1, 0] ++ beBytes 4 (15 : Serial).toNat ++ beBytes 4 (3 : Serial).toNat ++ beBytes 4 (1 : Serial).toNat
    let bad : List Byte := [2, 0] ++ beBytes 4 (15 : Serial).toNat ++ beBytes 4 (3 : Serial).toNat ++ beBytes 4 (1 : Serial).toNat
    (asked (lit .warming 9 1000) 0x10 body).Offers 0x10 (request 0x10 body) [] ∧
      (lit .warming 9 1000).census.state = .stopped ∧ CensusMode.sweep.code = 1 ∧
      (asked State.reset 0x10 bad).Offers 0x10 (request 0x10 bad) [] ∧
      (asked State.reset 0x10 body).Offers 0x10 (request 0x10 body) [] ∧ State.reset.line.state = .dark ∧
      (asked atGap4 0x10 body).Offers 0x10 (request 0x10 body) [] ∧ atGap4.census.state ≠ .stopped :=
  ⟨offers_lit _ _ _ (by decide), rfl, rfl, offers_reset _ _ (by decide), offers_reset _ _ (by decide), rfl,
   offers _ _ _ rfl (by decide +kernel) (by decide), by decide⟩

theorem witness_CensusStartsAndStops_stop :
    let idle := { atGap4 with census.outstanding := none }
    (asked State.reset 0x11 []).Offers 0x11 (request 0x11 []) [] ∧ State.reset.census.state ≠ .searching ∧
      (asked atGap4 0x11 []).Offers 0x11 (request 0x11 []) [] ∧ atGap4.census.state = .searching ∧
      atGap4.census.outstanding.isSome = true ∧ (asked idle 0x11 []).Offers 0x11 (request 0x11 []) [] ∧
      idle.census.state = .searching ∧ idle.census.outstanding = none :=
  ⟨offers_reset _ _ (by decide), by decide, offers _ _ _ rfl (by decide +kernel) (by decide), rfl, rfl,
   offers _ _ _ rfl (by decide +kernel) (by decide), rfl, rfl⟩

/-- A request with the quiet flag set. -/
def quietly (s : State) (kind : Nat) (body : List Byte) : State :=
  { s with link.inbound := [{ request kind body with quiet := true }] }

/-- READ TERMINAL at the ends of the tags: with a flag to clear, with none, quiet, and of the tags 0 and 129. -/
theorem witness_ReadTerminalReports :
    let s := State.reset.putTerm 127
      (some { terminal 1 (.parked .host 0) with flags := { RecFlags.clear with driftSat := true } })
    (∀ b : Byte, (asked State.reset 0x12 [b]).Offers 0x12 (request 0x12 [b]) []) ∧ 128 < (129 : Byte).toNat ∧
      (asked s 0x12 [byteOf (tagNum 127)]).Offers 0x12 (request 0x12 [byteOf (tagNum 127)]) [] ∧
      (∃ h, s.term 127 = some h ∧ (h.flags.driftSat = true ∨ h.flags.trimLimit = true)) ∧
      (request 0x12 [byteOf (tagNum 127)]).quiet = false ∧ State.reset.term 0 = none ∧
      (quietly s 0x12 [128]).Offers 0x12 { request 0x12 [128] with quiet := true } [] :=
  ⟨fun _ => offers_reset _ _ (by decide), by decide, offers _ _ _ rfl (by decide) (by decide),
   ⟨_, by rw [State.term_putTerm]; rfl, .inl rfl⟩, rfl, term_reset 0, ⟨rfl, by decide, rfl, rfl⟩⟩

/-- PARK, RESUME and RELEASE TERMINAL: a tag of no record, a FREE record, and a record in each phase, in RUNNING. -/
theorem witness_terminal_requests (kind : Nat) (small : kind < 256) (g : Tag) (phase : Phase) (b : Byte) :
    let s := (lit .running 9 1000).putTerm g (some (terminal 1 phase))
    (asked s kind [byteOf (tagNum g)]).Offers kind (request kind [byteOf (tagNum g)]) [] ∧
      s.term g = some (terminal 1 phase) ∧ s.line.state = .running ∧
      (asked State.reset kind [byteOf (tagNum g)]).Offers kind (request kind [byteOf (tagNum g)]) [] ∧
      State.reset.term g = none ∧ (asked State.reset kind [b]).Offers kind (request kind [b]) [] :=
  ⟨offers _ _ _ rfl (by simp [State.putTerm, lit, State.reset, Link.reset]) small, by simp [State.term_putTerm], rfl,
   offers_reset _ _ small, term_reset g, offers_reset _ _ small⟩

/-! ### The converter requests -/

theorem witness_converter_requests :
    (asked State.reset 0x17 [4, 3, 0xF1]).Offers 0x17 (request 0x17 [4, 3, 0xF1]) [] ∧
      (let body : List Byte := byteOf 32 :: [(-601 : Int), 100].flatMap (beSigned 2);
        (asked State.reset 0x18 body).Offers 0x18 (request 0x18 body) []) ∧
      (∀ v ∈ [(-601 : Int), 100], fitsTwoBytes v) ∧
      (asked State.reset 0x18 [33, 0, 0]).Offers 0x18 (request 0x18 [33, 0, 0]) [] ∧ 32 < (33 : Byte).toNat ∧
      (asked State.reset 0x19 [33, 1]).Offers 0x19 (request 0x19 [33, 1]) [] ∧
      (asked State.reset 0x19 [32, 255]).Offers 0x19 (request 0x19 [32, 255]) [] ∧
      (asked State.reset 0x1B [0xFF]).Offers 0x1B (request 0x1B [0xFF]) [] :=
  ⟨offers_reset _ _ (by decide), offers_reset _ _ (by decide), by simp [fitsTwoBytes], offers_reset _ _ (by decide),
   by decide, offers_reset _ _ (by decide), offers_reset _ _ (by decide), offers_reset _ _ (by decide)⟩

theorem witness_ConverterAndMaskRequests_calibrate :
    let busy := { lit .running 9 1000 with conv.calib := some ⟨64, 1, .waiting, none⟩ }
    (asked (lit .running 9 1000) 0x1A (beBytes 2 4096)).Offers 0x1A (request 0x1A (beBytes 2 4096)) [] ∧
      (lit .running 9 1000).conv.calib = none ∧
      (asked State.reset 0x1A (beBytes 2 0)).Offers 0x1A (request 0x1A (beBytes 2 0)) [] ∧
      (asked busy 0x1A (beBytes 2 0)).Offers 0x1A (request 0x1A (beBytes 2 0)) [] ∧ busy.conv.calib.isSome = true :=
  ⟨offers_lit _ _ _ (by decide), rfl, offers_reset _ _ (by decide), offers _ _ _ rfl (by decide) (by decide), rfl⟩

/-! ### One record, on a lit line -/

/-- The line in RUNNING with one record. -/
def oneRecord (g : Tag) (h : Terminal) : State := (lit .running 9 1000).putTerm g (some h)

theorem term_oneRecord (g f : Tag) (h : Terminal) : (oneRecord g h).term f = if f = g then some h else none := by
  show ((lit .running 9 1000).putTerm g (some h)).term f = _
  rw [State.term_putTerm, term_lit]

theorem rosterShape_oneRecord (g : Tag) (h : Terminal) (unlisted : h.listed = false) (other : h.phase ≠ .heard) :
    (oneRecord g h).RosterShape where
  serials t u a ha b hb e := by
    simp only [term_oneRecord, Option.mem_def] at ha hb
    split at ha <;> split at hb <;> simp_all
  entrySerials := List.nodup_nil
  entryTags := List.nodup_nil
  entryRecords e he := by cases he
  listed t a ha := by
    simp only [term_oneRecord, Option.mem_def] at ha
    split at ha <;> simp_all
    rfl
  barredOut t a ha := List.not_mem_nil
  barredOnce := List.nodup_nil
  strangersOnce := List.nodup_nil
  mixedPool h := by cases h
  admissionOnce := List.nodup_nil
  admissionFits := Nat.zero_le _
  admissionHeard t := by
    show t ∈ ([] : List Tag) ↔ _
    simp only [term_oneRecord, Option.mem_def]
    split <;> simp_all

/-! ### The line's own events -/

/-- A cycle start with a PARKED record whose hold counts down, at the last cycle of the warm-up. -/
theorem witness_CycleStartIssues :
    let s := closed ({ lit .warming 9 1000 with line.warmup := 1 }.putTerm 5 (some (terminal 1 (.parked .lost 1)))) 9 1000
    s.line.state = .warming ∧ s.line.warmup = 1 ∧ s.line.cycle = some ⟨9, 1000, 312500, some 312500⟩ ∧
      s.line.head = some (warmingHead 10) ∧ s.planner.built = some (emptyPlan 10 312500) ∧ s.intake.store.length < 2 ∧
      (s.term 5).map Terminal.phase = some (.parked .lost 1) := by decide +kernel

/-- A cycle start in DRAINING, and one whose plan holds the slot of a calibration that waits. -/
theorem witness_CycleStartIssues_slot :
    let s := closed { lit .draining 9 1000 with line.drainLeft := 4 } 9 1000
    let u : State :=
      { closed (lit .running 9 1000) 9 1000 with
        conv.calib := some ⟨64, 4, .waiting, some .busy⟩
        planner.built := some { emptyPlan 10 312500 with slot := some ⟨0, 192⟩ } }
    s.line.state = .draining ∧ s.line.cycle.bind Machine.Cycle.next = some 312500 ∧ s.line.drainCycle = false ∧
      s.intake.store.length < 2 ∧ u.intake.store.length < 2 ∧
      (let v : State := { u with link.tx := .sending [], intake.store := [(emptyPlan 8 5).stored 0, (emptyPlan 9 5).stored 5] };
        v.link.tx = .sending [] ∧ v.intake.store.length = 2 ∧ v.line.head.isSome = true) ∧ u.conv.calib = some ⟨64, 4, .waiting, some .busy⟩ ∧
      u.planner.built.bind Plan.slot = some ⟨0, 192⟩ ∧ s.conv.calib = none := by decide +kernel

/-- Work in OFFER for a tag. -/
def offering (t : Tag) (n : LaneNotice) : LaneWork :=
  { tag := t, stage := .offer 3, lastFailure := none, notice := n, shot := .absent, held := .empty }

/-- A cycle start that has everything to post: lane 0's TAG OFFER and a NUDGE depart in the head, lane 7's TAG OFFER waits, a
grace ends whose record has a NUDGE and a RETURN that wait, and a RETURN is due 16 cycles after cycle 65,530; both queues are
full. -/
def departing : State :=
  let s := closed (lit .running 9 1000) 9 1000
  let s := (s.putTerm 0 (some (terminal 1 (.engaged 0 none)))).putTerm 1 (some (terminal 2 (.engaged 7 none)))
  let s := (s.putTerm 126 (some (terminal 3 (.silent service 4 1)))).putTerm 127
    (some (terminal 4 (.silent { service with nudgeOut := true } 65530 2)))
  let s := s.updSup 126 fun x => { x with waitReturn := true, waitNudge := some (-7) }
  { (s.setWork 0 (some (offering 0 (.queued (.tagOffer 1 0))))).setWork 7
      (some (offering 1 (.waiting (.tagOffer 2 1)))) with
    line.head := some { warmingHead 10 with notices := [⟨.tagOffer 1 0, .lane 0 0⟩, ⟨.nudge 127 4, .supervisor⟩] }
    line.notices := List.replicate 16 ⟨.hush 5 5, .roster⟩
    planner.shots := List.replicate 8 (returnEntry 126) }

theorem witness_CycleStartPostsInOrder :
    let s := departing
    let carried := (s.line.head.map Head.notices).getD []
    s.line.state = .running ∧ s.line.cycle = some ⟨9, 1000, 312500, some 312500⟩ ∧ s.line.head.isSome = true ∧
      s.planner.built = some (emptyPlan 10 312500) ∧ s.intake.store.length < 2 ∧ s.line.notices.length ≤ 16 ∧
      s.planner.shots.length ≤ 8 ∧ (s.departureEntry carried 0).isSome = true ∧
      (s.work 7).map LaneWork.notice = some (.waiting (.tagOffer 2 1)) ∧ s.losesGrace 126 = true ∧
      (s.sup.get 126).waitNudge = some (-7) ∧
      s.losesGrace 127 = false ∧ s.returnsAt 10 127 = true ∧ ⟨.nudge 127 4, .supervisor⟩ ∈ carried ∧
      (s.term 127).map Terminal.phase = some (.silent { service with nudgeOut := true } 65530 2) := by decide +kernel

/-- R78: with a full one-shot queue the withdrawal of the RETURNs of the record that is LOST comes after lane 0's posting,
whose entry waits, and before the RETURN that is due (logs 32 and 33). Its waiting NUDGE stays, and with room in the queue it is
posted behind its STAND DOWN LOST (R13, R63, log 31). -/
theorem test_cycle_start_posts :
    let s := after .cycleStart departing
    s.planner.shots = [returnEntry 127] ∧ (s.work 0).map LaneWork.shot =
      some (.waiting ⟨.lane 0, 0, .offerReply, some 104512, false, false⟩) ∧
      s.roster.waiting = [⟨.standDown (some 126) .lost, .roster⟩] ∧ s.line.notices.length = 16 ∧
      s.sup.get 126 = { held := none, waitReturn := false, waitNudge := some (-7) } ∧
      (let u := after .cycleStart { departing with line.notices := List.replicate 13 ⟨.hush 5 5, .roster⟩ };
        u.line.notices.drop 13 =
          [⟨.standDown (some 126) .lost, .roster⟩, ⟨.tagOffer 2 1, .lane 7 0⟩, ⟨.nudge 126 (-7), .supervisor⟩] ∧
        u.sup.get 126 = .empty) := by decide +kernel

theorem witness_WarmupAndDrainingEnd :
    let s := closed { lit .warming 9 1000 with line.warmup := 1 } 9 1000
    s.line.state = .warming ∧ s.line.warmup = 1 ∧ (closed { lit .warming 9 1000 with line.warmup := 2 } 9 1000).line.warmup = 2 ∧
      s.line.cycle = some ⟨9, 1000, 312500, some 312500⟩ ∧ s.line.head = some (warmingHead 10) ∧
      s.planner.built = some (emptyPlan 10 312500) := by decide +kernel

/-- The fourth draining cycle, and the third. -/
def draining (left : Nat) : State := { lit .draining 44 0 with line.drainLeft := left, line.drainCycle := true }

theorem witness_WarmupAndDrainingEnd_dark :
    (draining 1).line.state = .draining ∧ (draining 1).line.drainCycle = true ∧ (draining 1).line.drainLeft = 1 ∧
      (draining 1).line.cycle = some ⟨44, 0, 312500, none⟩ ∧ 1 < (draining 2).line.drainLeft := by decide +kernel

theorem witness_GraceExpiryParksLost :
    let s := closed ((lit .running 9 1000).putTerm 127 (some (terminal 1 (.silent service 4000 1)))) 9 1000
    s.line.state = .running ∧ s.line.cycle = some ⟨9, 1000, 312500, some 312500⟩ ∧
      s.line.head = some (warmingHead 10) ∧ s.planner.built = some (emptyPlan 10 312500) ∧
      s.term 127 = some (terminal 1 (.silent service 4000 1)) ∧ State.reset.term 0 = none ∧ s.intake.store.length < 2 ∧
      s.line.notices.length ≤ 16 := by decide +kernel

theorem witness_PlanCloseLatchesLength :
    (∀ state : LineState, (lit state 9 1000).line.state = state ∧
      (lit state 9 1000).line.cycle = some ⟨9, 1000, 312500, none⟩ ∧ (lit state 9 1000).line.settings.closeCode ≤ 3) ∧
      ((draining 1).line.cycle = some ⟨44, 0, 312500, none⟩ ∧ (draining 1).line.drainLeft ≤ 1) ∧
      (draining 2).line.cycle = some ⟨44, 0, 312500, none⟩ ∧ State.reset.line.cycle = none ∧
      (closed heard 9 1000).line.cycle = some ⟨9, 1000, 312500, some 312500⟩ :=
  ⟨fun _ => ⟨rfl, rfl, show (2 : Nat) ≤ 3 by decide⟩, ⟨rfl, by decide⟩, rfl, rfl, rfl⟩

/-- One record of tag 128 in a phase, with lane 7's work, a census that searches, a wanted dark slot, and two one-shot
entries. -/
def planning (phase : Phase) (work : Option LaneWork) : State :=
  { (oneRecord 127 (terminal 0x777 phase)).setWork 7 work with
    census := { Census.reset with state := .searching, stack := [⟨0, 0, 32⟩] }
    planner :=
      { Planner.reset with
        slotWanted := true
        shots := [returnEntry 127, { owner := .lane 7, tag := 127, kind := .trimCheck, coarse := none, seq := false, capture := false }] } }

theorem rosterShape_planning (phase : Phase) (other : phase ≠ .heard) (work : Option LaneWork) :
    (planning phase work).RosterShape :=
  rosterShape_same (rosterShape_oneRecord 127 (terminal 0x777 phase) rfl other) rfl

/-- The record is due in every plan, and the gap fits the frame; without the census and with a slot not wanted neither is
placed. -/
theorem witness_PlanPlacesWhatIsDue :
    let s := planning (.active service) none
    s.RosterShape ∧ s.line.state = .running ∧ s.line.cycle = some ⟨9, 1000, 312500, none⟩ ∧
      (∀ e ∈ s.planner.shots, e.kind ≠ .census ∧ e.kind ≠ .standing) ∧ s.Due 10 127 2048 ∧
      (s.census.state = .searching ∧ s.census.stack = ⟨0, 0, 32⟩ :: [] ∧ s.census.outstanding = none ∧ s.census.wait = 0) ∧
      (256000 - 8000) + 256 + 256 ≤ s.line.pendingLen ∧ s.planner.slotWanted = true ∧
      heard.census.state ≠ .searching ∧ heard.planner.slotWanted = false :=
  ⟨rosterShape_planning _ (by decide) _, rfl, rfl, by decide +kernel,
   ⟨terminal 0x777 (.active service), service, by decide +kernel, rfl, by decide +kernel, by decide +kernel⟩,
   ⟨rfl, rfl, rfl, rfl⟩, by decide +kernel, rfl, by decide +kernel, rfl⟩

/-- A lane's entry and a SILENT record's RETURN that are placed, and a RETURN and a lane's entry that wait. -/
theorem witness_PlanCloseSettlesQueues :
    let work : LaneWork := { offering 127 .absent with shot := .queued }
    let entry : OneShot := { owner := .lane 7, tag := 127, kind := .trimCheck, coarse := none, seq := false, capture := false }
    let s := planning (.silent { service with returnOut := true } 4 2000) (some work)
    let u := { (planning (.engaged 7 none) (some { work with shot := .waiting entry })).updSup 126
      (fun x => { x with waitReturn := true }) with planner.shots := List.replicate 8 (returnEntry 0) }
    s.Capacities ∧ s.RosterShape ∧ s.line.state = .running ∧ s.line.cycle = some ⟨9, 1000, 312500, none⟩ ∧
      (∀ e ∈ s.planner.shots, e.kind ≠ .census ∧ e.kind ≠ .standing) ∧ s.planner.shots[0]? = some (returnEntry 127) ∧
      s.term 127 = some (terminal 0x777 (.silent { service with returnOut := true } 4 2000)) ∧
      s.planner.shots[1]? = some entry ∧ s.work 7 = some work ∧
      u.Capacities ∧ u.RosterShape ∧ (u.work 7).map LaneWork.shot = some (.waiting entry) ∧
      (u.sup.get 126).waitReturn = true := by
  refine ⟨?_, rosterShape_planning _ (by decide) _, rfl, rfl, by decide +kernel, rfl, by decide +kernel, rfl,
    by decide +kernel, ?_, rosterShape_same (rosterShape_planning (.engaged 7 none) (by decide) none) rfl,
    by decide +kernel, by decide +kernel⟩ <;> constructor <;> decide +kernel

theorem witness_PlanIsSpacedByGuard :
    underLoad.line.state = .running ∧ underLoad.line.cycle = some ⟨100, 0, 312500, none⟩ := by decide +kernel

/-- One FREE lane and one tag; and two tags, which lanes 1 and 2 take where lane 0 is busy, with their TAG OFFERs behind the
notices that stay (R14, R30). -/
theorem witness_PlanCloseSeizes :
    heard.Capacities ∧ heard.RosterShape ∧ heard.line.state = .running ∧
      heard.line.cycle = some ⟨9, 1000, 312500, none⟩ ∧ heard.roster.admission = [0] ∧
      heard.term 0 = some (terminal 0x777 .heard) ∧
      (lanesInOrder.filter fun i => (heard.work i).isNone).zip heard.roster.admission = [(0, 0)] ∧
      (let s := (heard.putTerm 5 (some (terminal 0x888 .heard))).setWork 0 (some (offering 9 .absent));
        let t := after .planClose
          { s with roster.admission := [5, 0], line.notices := List.replicate 16 ⟨.hush 5 5, .roster⟩ }
        t.line.notices =
          List.replicate 8 ⟨.hush 5 5, .roster⟩ ++ [⟨.tagOffer 0x888 5, .lane 1 1⟩, ⟨.tagOffer 0x777 0, .lane 2 1⟩] ∧
        (t.work 1).map LaneWork.tag = some 5 ∧ (t.work 2).map LaneWork.tag = some 0 ∧ t.work 3 = none ∧
        t.roster.admission = []) :=
  ⟨capacities_heard, rosterShape_heard, rfl, rfl, rfl, by simp [term_heard], by decide +kernel, by decide +kernel⟩

/-! ### The Intake -/

/-- With one plan in the store a burst falls in its frame. -/
theorem inFrame_one {s : State} {plan : StoredPlan} {arrival : Tick} {pos : Nat} (store : s.intake.store = [plan])
    (position : pos = (arrival - (plan.start + BitVec.ofNat 32 s.line.settings.ref)).toNat) (inside : pos < plan.len) :
    s.InFrame arrival 0 plan pos :=
  ⟨by simp [store], position, inside, fun i _ hi => absurd hi (Nat.not_lt_zero i)⟩

/-- The same, with a plan that begins at tick 0 and Ref at its default. -/
theorem inFrame_zero {s : State} {plan : StoredPlan} {arrival : Tick} {pos : Nat} (store : s.intake.store = [plan])
    (start : plan.start = 0) (ref : s.line.settings.ref = 256000) (position : pos = (arrival - 256000).toNat)
    (inside : pos < plan.len) : s.InFrame arrival 0 plan pos :=
  inFrame_one store (by rw [start, ref]; exact position) inside

/-- In a plan of one window the burst lands there. -/
theorem lands_one {s : State} {num : CycleNo} {w : Window} {arrival : Tick} {pos : Nat}
    (store : s.intake.store = [storedOne num 0 w]) (ref : s.line.settings.ref = 256000)
    (position : pos = (arrival - 256000).toNat) (inside : pos < 312500) (covers : w.Covers pos) :
    s.Lands arrival 0 (storedOne num 0 w) pos 0 w :=
  ⟨inFrame_zero store rfl ref position inside, rfl, covers, fun i _ hi => absurd hi (Nat.not_lt_zero i)⟩

/-- The census window and the standing window of `frame500`. -/
def censusWindow : Window := opened (gapGrant .default ⟨0, 3, 1⟩ 0)

@[inherit_doc censusWindow]
def window500 : Window := opened { standingGrant .default 3 2048 248576 with capture := true }

/-- Its plan. -/
def plan500 : StoredPlan := { cycle := 500, start := 0, len := 312500, slot := none, windows := [censusWindow, window500] }

theorem frame500_lands : frame500.Lands 504592 0 plan500 248592 1 window500 :=
  ⟨inFrame_one rfl (by decide) (by decide), rfl, ⟨by decide, by decide⟩,
   before_place (P := fun v : Window => ¬v.Covers 248592) (by unfold Window.Covers; decide)⟩

theorem frame500_lands_census : frame500.Lands 504511 0 plan500 248511 0 censusWindow :=
  ⟨inFrame_one rfl (by decide) (by decide), rfl, ⟨by decide, by decide⟩,
   before_place (P := fun v : Window => ¬v.Covers 248511) (by simp)⟩

/-- A burst outside the frames, one in a guard, one in the OPEN window of tag 4, that window once it is MATCHED, and one in
the last tick of the census window. -/
theorem witness_BurstReportIsJudged :
    let matched := after (.burstReport 504592 [6, 4, 0, 0, 0, 0, 8, 0, 0, 0, 0, 0] true false 504600) frame500
    State.reset.line.state ≠ .running ∧ frame500.line.state = .running ∧
      (∀ p ∈ frame500.intake.store, p.len ≤ ((255999 : Tick) - (p.start + BitVec.ofNat 32 256000)).toNat) ∧
      frame500.InFrame 504512 0 plan500 248512 ∧ (∀ w ∈ plan500.windows, ¬w.Covers 248512) ∧
      frame500.Lands 504592 0 plan500 248592 1 window500 ∧ window500.state = .opened ∧
      window500.grant.kind ≠ .census ∧
      (matched.intake.store.map fun p => (p.windows[1]?).map Window.state) = [some .matched] ∧
      frame500.Lands 504511 0 plan500 248511 0 censusWindow ∧ censusWindow.grant.kind = .census :=
  ⟨by decide, rfl, by decide +kernel, inFrame_one rfl (by decide) (by decide), by unfold Window.Covers; decide,
   frame500_lands, rfl, by decide, by decide +kernel, frame500_lands_census, rfl⟩

/-- R192: a code above 6, a tag address, a declared length of 0 and the three status bits, as they are read. -/
theorem witness_ReadsHeader :
    ReadsHeader 9 7 128 2 3 4 0 0 0xFA 1 1 1 1 true false
      (reportOf 9 [7, 128, 2, 3, 4, 0, 0, 0xFA, 1, 1, 1, 1] true false) :=
  ⟨by decide, .unknown 7 (.inr (by decide)), by decide, by decide, by decide, by decide⟩

/-- The line in RUNNING with a roster, and a census window open to every serial. -/
def hearing (r : Roster) : State :=
  { lit .running 9 0 with roster := r, intake.store := [storedOne 9 0 (opened (gapGrant .default ⟨0, 0, 32⟩ 0))] }

/-- A CENSUS REPLY of a serial, as it is reported. -/
def censusReply (serial : Serial) : Report :=
  reportOf 504511 ([1] ++ leBytes 4 serial.toNat ++ [192, 0, 0, 0, 0, 0, 0]) true false

/-- A hearing at the last tick of the window, for every roster. -/
theorem witness_HearingIsDecided (s : State) (shape : s.RosterShape) :
    let w := opened (gapGrant .default ⟨0, 0, 32⟩ 0)
    (hearing s.roster).line.state = .running ∧ (hearing s.roster).RosterShape ∧
      (hearing s.roster).Lands 504511 0 (storedOne 9 0 w) 248511 0 w ∧ w.state = .opened ∧ w.grant.kind = .census ∧
      (censusReply 0x778).check = true ∧ (censusReply 0x778).overlap = false ∧ (censusReply 0x778).kind = .censusReply ∧
      (censusReply 0x778).address = .serial 0x778 ∧ (0x778 : Serial) &&& w.grant.mask = w.grant.pattern :=
  ⟨rfl, rosterShape_same shape rfl,
   lands_one rfl rfl (by decide) (by decide) ⟨by decide, by decide⟩,
   rfl, rfl, by decide, by decide, by decide, by decide, by decide⟩

/-- Rosters for its clauses: a barred serial; a record that holds the serial in each phase, its hold at 0 and at 1; an
expected entry; LISTED mode; a pool with no tag left. -/
theorem witness_HearingIsDecided_rosters :
    let held (phase : Phase) := oneRecord 127 (terminal 0x777 phase)
    ((barred 16).RosterShape ∧ (16 : Serial) ∈ (barred 16).roster.barred) ∧
      (heard.RosterShape ∧ heard.term 0 = some (terminal 0x777 .heard) ∧ (∀ g h, heard.term g = some h → h.serial ≠ 0x778)) ∧
      (∀ phase, phase ≠ .heard → (held phase).RosterShape ∧ (held phase).term 127 = some (terminal 0x777 phase)) ∧
      (listedHeard.RosterShape ∧ ∃ e ∈ listedHeard.roster.expected, e.serial = 0x777) ∧
      heard.roster.mode = .openMode ∧ heard.term 1 = none ∧ (∀ f : Tag, f < 1 → (heard.term f).isSome = true) ∧
      ({ heard with roster.mode := .listed }.RosterShape ∧
        { heard with roster.mode := .mixed, roster.poolHigh := 1 }.RosterShape ∧
        ∀ g : Tag, 1 ≤ tagNum g → tagNum g ≤ 1 → (heard.term g).isSome = true) := by
  have other (g : Tag) (h : Terminal) (hg : heard.term g = some h) : h.serial ≠ 0x778 := by
    rw [term_heard] at hg
    split at hg <;> simp_all
    subst hg; decide
  have shape (s : State) (t : ∀ g, s.term g = heard.term g)
      (e : s.roster = { heard.roster with mode := s.roster.mode, poolHigh := s.roster.poolHigh }) : s.RosterShape := by
    have h := rosterShape_heard
    refine ⟨fun a b x hx y hy => h.serials a b x (t a ▸ hx) y (t b ▸ hy), ?_, ?_, ?_, ?_, ?_, ?_, ?_, ?_, ?_, ?_, ?_⟩
    · rw [e]; exact h.entrySerials
    · rw [e]; exact h.entryTags
    · rw [e]; intro x hx; cases hx
    · intro a x hx; rw [e]; exact h.listed a x (t a ▸ hx)
    · rw [e]; intro a x _; exact List.not_mem_nil
    · rw [e]; exact h.barredOnce
    · rw [e]; exact h.strangersOnce
    · rw [e]; intro _; rfl
    · rw [e]; exact h.admissionOnce
    · rw [e]; exact h.admissionFits
    · intro a; rw [e, t a]; exact h.admissionHeard a
  exact ⟨⟨rosterShape_barred, by decide +kernel⟩, ⟨rosterShape_heard, by simp [term_heard], other⟩,
    fun phase hp => ⟨rosterShape_oneRecord _ _ rfl hp, by simp [term_oneRecord]⟩,
    ⟨rosterShape_listedHeard, by decide +kernel⟩, rfl, by simp [term_heard],
    by decide +kernel, shape _ (fun _ => rfl) rfl, shape _ (fun _ => rfl) rfl, by decide +kernel⟩

/-! ### The lanes -/

/-- The grant of lane 0 for tag 2, of a kind, at 30,000. -/
def laneGrant (kind : GrantKind) : Grant :=
  shotGrant .default ⟨.lane 0, 1, kind, some 104512, false, kind = .probe⟩ 30000

/-- Its window: OPEN, or MATCHED with a quality. -/
def laneWindow (kind : GrantKind) (quality : Option Quality) (sighted : Bool) : Window :=
  { opened (laneGrant kind) with
    state := if quality.isSome then .matched else .opened, quality := quality, sighted := sighted }

/-- The lane's work. -/
def laneWork (kind : GrantKind) (stage : Stage) (held : HeldGrant) : LaneWork :=
  { tag := 1, stage := stage, lastFailure := none, notice := .absent, shot := .placed 2010 kind, held := held }

/-- The lane and its ENGAGED record, with a window in the store. -/
def laneState (kind : GrantKind) (stage : Stage) (trim : Option EchoHold) (held : HeldGrant) (w : Window) : State :=
  { ((lit .running 2010 0).putTerm 1 (some (terminal 0x1F00A004 (.engaged 0 trim)))).setWork 0
      (some (laneWork kind stage held)) with
    intake.store := [storedOne 2010 0 w] }

theorem work_lane (kind : GrantKind) (stage : Stage) (trim : Option EchoHold) (held : HeldGrant) (w : Window) :
    (laneState kind stage trim held w).work 0 = some (laneWork kind stage held) := by
  show (State.setWork _ 0 _).work 0 = _
  simp [State.work_setWork]

theorem term_lane (kind : GrantKind) (stage : Stage) (trim : Option EchoHold) (held : HeldGrant) (w : Window) :
    (laneState kind stage trim held w).term 1 = some (terminal 0x1F00A004 (.engaged 0 trim)) := by
  show (State.putTerm _ 1 _).term 1 = _
  simp [State.term_putTerm]

theorem working_lane (kind : GrantKind) (stage : Stage) (trim : Option EchoHold) (held : HeldGrant) (w : Window) :
    (laneState kind stage trim held w).Working 0 (laneWork kind stage held) (terminal 0x1F00A004 (.engaged 0 trim)) trim :=
  ⟨rfl, work_lane .., term_lane .., rfl⟩

theorem nextToClose_lane (kind : GrantKind) (stage : Stage) (trim : Option EchoHold) (held : HeldGrant) (w : Window)
    (unclosed : w.state ≠ .closed) :
    (laneState kind stage trim held w).NextToClose (storedOne 2010 0 w) [] 0 w :=
  ⟨rfl, rfl, unclosed, fun k _ hk => absurd hk (Nat.not_lt_zero k)⟩

/-- The close of that window settles the grant, where no capture answer is still to come. -/
theorem settles_lane (kind : GrantKind) (stage : Stage) (trim : Option EchoHold) (held : HeldGrant)
    (quality : Option Quality) (sighted : Bool)
    (answered : ∀ r, held.result = some r → r.captureAsked = true → held.answer.isSome = true) :
    (laneState kind stage trim held (laneWindow kind quality sighted)).Settles 0 (laneWork kind stage held) 2010 .windowClose
      (laneWindow kind quality sighted).outcome held.answer := by
  refine .close (nextToClose_lane _ _ _ _ _ ?_) rfl rfl rfl rfl answered ?_ ?_ ?_ <;>
    cases quality <;> simp [laneWindow, Window.outcome, opened, Window.entering]

/-- A CLEAN result at its window point. -/
def laneResult (kind : GrantKind) (pos : Nat) : BurstResult :=
  { grant := laneGrant kind, cycle := 2010, position := pos, length := 192, quality := .clean, kind := kind.burst,
    seq := false, serialEcho := some 0x1F00A004, flagsValid := true, powerFailing := false, rxLow := false,
    captureAsked := kind = .probe }

/-- A burst in lane 0's OPEN window, for every stage: CLEAN, with POWER FAILING, and one tick too long. -/
theorem witness_LaneTakesBurst (stage : Stage) :
    let header (len status : Nat) : List Byte := [3, 2, 0, 0, 0] ++ leBytes 2 len ++ [byteOf status, 0, 0, 0, 0]
    let r (len status : Nat) := reportOf 286256 (header len status) true false
    let w := laneWindow .probe none false
    let x (len status : Nat) := resultOf (r len status) w.grant 2010 30256
    let s := laneState .probe stage none .empty w
    s.Lands 286256 0 (storedOne 2010 0 w) 30256 0 w ∧ w.state = .opened ∧
      s.Working 0 (laneWork .probe stage .empty) (terminal 0x1F00A004 (.engaged 0 none)) none ∧
      w.grant.kind ≠ .census ∧ w.grant.owner = .lane 0 ∧ w.grant.tag = some 1 ∧
      (∀ len status, ResultOf (r len status) w.grant 2010 30256 (x len status)) ∧
      ((x 448 0).captureAsked = true ∧ s.conv.state = .idle ∧ ((286447 : Tick) - 286256).toNat < 192 ∧
        192 ≤ ((286448 : Tick) - 286256).toNat) ∧
      ((x 192 2).flagsValid = true ∧ (r 192 2).powerFailing = true) ∧ (x 449 0).quality = .overlong := by
  refine ⟨lands_one rfl rfl (by decide) (by decide) ⟨by decide, by decide⟩, rfl, working_lane .probe stage none .empty _, by decide, rfl, rfl,
    fun _ _ => resultOf_resultOf _ _ _ _, ⟨by decide +kernel, rfl, by decide, by decide⟩, ⟨by decide +kernel, by decide +kernel⟩,
    by decide +kernel⟩

theorem witness_OfferReplySettles (left : Nat) :
    let ok := laneResult .offerReply 30256
    let clean := laneState .offerReply (.offer left) none ⟨some ok, none, none⟩ (laneWindow .offerReply (some .clean) false)
    let missed := laneState .offerReply (.offer left) none .empty (laneWindow .offerReply none true)
    clean.Working 0 (laneWork .offerReply (.offer left) ⟨some ok, none, none⟩) (terminal 0x1F00A004 (.engaged 0 none)) none ∧
      clean.Settles 0 (laneWork .offerReply (.offer left) ⟨some ok, none, none⟩) 2010 .windowClose (.quality .clean) none ∧
      ok.serialEcho = some 0x1F00A004 ∧
      missed.Settles 0 (laneWork .offerReply (.offer left) .empty) 2010 .windowClose (.miss true) none ∧
      OfferFails 0x1F00A004 none (.miss true) .miss ∧ EndsFor .miss .noReply ∧
      OfferFails 0x1F00A004 (some { ok with serialEcho := some 5 }) (.quality .clean) .corrupt ∧ EndsFor .corrupt .corrupt :=
  ⟨working_lane .., settles_lane .offerReply (.offer left) none ⟨some (laneResult .offerReply 30256), none, none⟩ (some .clean)
     false (by intro r h; cases h; intro h; cases h),
   rfl, settles_lane .offerReply (.offer left) none .empty none true (by intro r h; cases h), .miss true, .miss,
   .stranger _ rfl (by decide), .corrupt⟩

/-- Work in PROBE. -/
def probing (remaining misses mismatches : Nat) (levels : List Int) : ProbeWork :=
  { count := 4, remaining := remaining, extensions := 1, misses := misses, seq := false, mismatches := mismatches,
    echoes := [104519, 104522], levels := levels }

/-- A probe that fits with a refused capture, one with the wrong sequence bit, and a miss, each at the last value that goes
on and at the first that ends the lane; one of them leaves no probe and no level. -/
theorem witness_ProbeSettles (p : ProbeWork) :
    let ok := laneResult .probe 30256
    let held : HeldGrant := ⟨some ok, some .refusal, none⟩
    let clean := laneState .probe (.probe p) none held (laneWindow .probe (some .clean) false)
    clean.Working 0 (laneWork .probe (.probe p) held) (terminal 0x1F00A004 (.engaged 0 none)) none ∧
      clean.Settles 0 (laneWork .probe (.probe p) held) 2010 .windowClose (.quality .clean) (some .refusal) ∧
      (∃ p1, (probing 1 2 1 []).Becomes 256000 (some ok) (some .refusal) (.quality .clean) p1 none ∧
        p1.remaining = 0 ∧ p1.levels = [] ∧ p1.extensions < 2) ∧
      (∃ p1, (probing 2 0 1 []).Becomes 256000 (some { ok with seq := true }) (some .refusal) (.quality .clean) p1 (some .miss) ∧
        2 ≤ p1.mismatches) ∧
      (∃ p1, (probing 2 1 0 []).Becomes 256000 none none (.miss false) p1 (some .miss) ∧ p1.misses < 3 ∧ 0 < p1.remaining) ∧
      (∃ p1, (probing 2 2 0 []).Becomes 256000 none none (.quality .corrupt) p1 (some .corrupt) ∧ 3 ≤ p1.misses) :=
  ⟨working_lane .., settles_lane .probe (.probe p) none ⟨some (laneResult .probe 30256), some .refusal, none⟩ (some .clean) false
     (fun _ _ _ => rfl),
   ⟨_, .echo (laneResult .probe 30256) [] rfl rfl (by simp) (fun _ => rfl), by decide, rfl, by decide⟩,
   ⟨_, .sequence _ rfl (by decide), by decide⟩, ⟨_, .miss false, by decide, by decide⟩, ⟨_, .corrupt, by decide⟩⟩

/-- The work of 7.8.2, with its result held and its close taken. -/
def lastWork : LaneWork := (lastProbe.work 0).getD (offering 0 .absent)

/-- 7.8.2: the level -196 of the capture settles the last probe, four echoes and levels are there, and no check fails. -/
theorem witness_LaneComputes :
    lastProbe.Working 0 lastWork (terminal 0x1F00A004 (.engaged 0 none)) none ∧
      lastProbe.Settles 0 lastWork 2008 (.conversionEnd 1740) (.quality .clean) (some (.level (-196))) ∧
      ∃ p p1, lastWork.stage = .probe p ∧
        p.Becomes 256000 lastWork.held.result (some (.level (-196))) (.quality .clean) p1 none ∧ p1.remaining = 0 ∧
        p1.levels = [-195, -197, -194, -196] ∧ p1.echoes = [104519, 104522, 104517, 104525] ∧
        ¬(∃ x ∈ p1.echoes, ∃ y ∈ p1.echoes, (24 : Int) < x - y) ∧ (∃ x ∈ p1.echoes, ∃ y ∈ p1.echoes, (7 : Int) < x - y) := by
  refine ⟨⟨rfl, by decide +kernel, by decide +kernel, rfl⟩, ?_, ?_⟩
  · exact .answer (r := ((lastWork.held.result).getD (laneResult .probe 0))) (c := ⟨.lane 0, 1, 2008, 276269, 192, 16, 0, false⟩)
      (by decide +kernel) rfl rfl (by decide +kernel) rfl (by decide +kernel) (by decide +kernel) (by decide +kernel)
      (by decide +kernel) ⟨1740, by decide, 13, 14, by decide, by decide, by decide +kernel⟩
  · refine ⟨_, _, rfl, .echo ((lastWork.held.result).getD (laneResult .probe 0)) [-195, -197, -194, -196] (by decide +kernel)
      (by decide +kernel) (fun v h => by cases h; rfl) (fun h => absurd rfl (h _)), by decide +kernel, rfl,
      by decide +kernel, by decide +kernel, by decide +kernel⟩

/-- Lane 0 with E and H stored. -/
def trimState (left : Nat) (last : Option SettledTrim) (held : HeldGrant) (w : Window) : State :=
  laneState .trimCheck (.trim left last) (some ⟨104521, 151479⟩) held w

/-- 7.8.3: a TRIM CHECK that a burst at the edge of its tolerance matched, one tick farther off, and a MISS with and without
a sighting; the record becomes ACTIVE at the close. -/
theorem witness_TrimCheckSettles (left : Nat) :
    let ok := laneResult .trimCheck 30032
    let held : HeldGrant := ⟨some ok, none, none⟩
    let s := trimState left none held (laneWindow .trimCheck (some .clean) false)
    s.Working 0 (laneWork .trimCheck (.trim left none) held) (terminal 0x1F00A004 (.engaged 0 (some ⟨104521, 151479⟩)))
        (some ⟨104521, 151479⟩) ∧
      s.Settles 0 (laneWork .trimCheck (.trim left none) held) 2010 .windowClose (.quality .clean) none ∧
      (ok.grant.point = some 30016 ∧ 30016 ≤ ok.position + 16 ∧ ok.position ≤ 30016 + 16) ∧
      TrimFails 16 (some { ok with position := 30033 }) (.quality .clean) .corrupt ∧
      (∀ sighted, (trimState left none .empty (laneWindow .trimCheck none sighted)).Settles 0
        (laneWork .trimCheck (.trim left none) .empty) 2010 .windowClose (.miss sighted) none) ∧
      TrimFails 16 none (.miss false) .miss ∧
      ((after .windowClose (trimState 2 none held (laneWindow .trimCheck (some .clean) false))).term 1).map Terminal.phase =
        some (.active (Service.start ⟨104521, 151479⟩ 2010)) :=
  ⟨working_lane .., settles_lane .trimCheck (.trim left none) (some ⟨104521, 151479⟩) ⟨some (laneResult .trimCheck 30032), none, none⟩
     (some .clean) false (by intro r h; cases h; intro h; cases h),
   ⟨rfl, by decide, by decide⟩, .off _ 30016 rfl rfl (.inl (by decide)),
   fun sighted => settles_lane .trimCheck (.trim left none) (some ⟨104521, 151479⟩) .empty none sighted (by intro r h; cases h),
   .miss, by decide +kernel⟩

/-- A late sighting: a clean TRIM ACK of tag 2 in a frame whose TRIM CHECK window has closed as a MISS, which is also the
burst that an OPEN one is sighted by. -/
theorem witness_TrimCheckSettles_late (left : Nat) :
    let r := reportOf 286336 [4, 2, 0, 0, 0, 192, 0, 0, 0, 0, 0, 0] true false
    let w : Window := { laneWindow .trimCheck none false with state := .closed }
    let s := trimState left (some ⟨2010, .miss false⟩) .empty w
    s.Working 0 (laneWork .trimCheck (.trim left (some ⟨2010, .miss false⟩)) .empty)
        (terminal 0x1F00A004 (.engaged 0 (some ⟨104521, 151479⟩))) (some ⟨104521, 151479⟩) ∧
      s.InFrame 286336 0 (storedOne 2010 0 w) 30336 ∧ (∀ v ∈ (storedOne 2010 0 w).windows, v.Covers 30336 → v.state ≠ .opened) ∧
      r.check = true ∧ r.overlap = false ∧ r.kind = .trimAck ∧ (storedOne 2010 0 w).windows[0]? = some w ∧
      w.grant.kind = .trimCheck ∧ w.grant.tag = some 1 ∧ r.carriesTag w.grant ∧ w.state = .closed ∧ w.quality = none ∧
      w.grant.owner = .lane 0 ∧
      (∀ v ∈ (storedOne 2010 0 (laneWindow .trimCheck none false)).windows, ¬v.Covers 30336 ∧ v.state = .opened) :=
  ⟨working_lane .., inFrame_zero rfl rfl rfl (by decide) (by decide),
   by intro v hv _; rw [List.mem_singleton.mp hv]; decide, by decide, by decide, by decide, rfl, rfl, rfl, ⟨1, rfl, by decide⟩,
   rfl, rfl, rfl, by intro v hv; rw [List.mem_singleton.mp hv]; exact ⟨by unfold Window.Covers; decide, rfl⟩⟩

/-! ### The Supervisor -/

/-- A STANDING window of tag 4, in a state. -/
def standingWindow (state : WindowState) (quality : Option Quality) : Window :=
  { opened (standingGrant .default 3 2048 248576) with state := state, quality := quality }

/-- The line in RUNNING with a window in the store and the record of tag 4 in a phase. -/
def supState (phase : Phase) (w : Window) : State :=
  { (lit .running 500 0).putTerm 3 (some (terminal 0x44 phase)) with intake.store := [storedOne 500 0 w] }

theorem term_sup (phase : Phase) (w : Window) : (supState phase w).term 3 = some (terminal 0x44 phase) := by
  show (State.putTerm _ 3 _).term 3 = _
  simp [State.term_putTerm]

theorem nextToClose_sup (phase : Phase) (w : Window) (unclosed : w.state ≠ .closed) :
    (supState phase w).NextToClose (storedOne 500 0 w) [] 0 w :=
  ⟨rfl, rfl, unclosed, fun k _ hk => absurd hk (Nat.not_lt_zero k)⟩

/-- A STANDING burst, of a grant with the capture mark and of one without, and a RETURN, for the record of tag 4 in every phase,
with and without POWER FAILING. -/
theorem witness_SupervisorTakesBurst (phase : Phase) (ret mark : Bool) :
    let header (status : Byte) : List Byte := [if ret then 5 else 6, 4, 0, 0, 0, 192, 0, status, 0, 0, 0, 0]
    let r (status : Byte) := reportOf 504592 (header status) true false
    let w := if ret then opened (shotGrant .default (returnEntry 3) 248576) else opened { standingGrant .default 3 2048 248576 with capture := mark }
    let s := supState phase w
    s.line.state = .running ∧ s.Lands 504592 0 (storedOne 500 0 w) 248592 0 w ∧ w.state = .opened ∧
      w.grant.owner = .supervisor ∧ w.grant.tag = some 3 ∧ (ret = false → w.grant.capture = mark) ∧
      (w.grant.kind = .standing ∨ w.grant.kind = .ret) ∧ s.term 3 = some (terminal 0x44 phase) ∧
      (∀ status, ResultOf (r status) w.grant 500 248592 (resultOf (r status) w.grant 500 248592)) ∧
      (resultOf (r 2) w.grant 500 248592).flagsValid = true ∧ (r 2).powerFailing = true ∧ (r 0).powerFailing = false ∧
      (resultOf (r 0) w.grant 500 248592).quality = .clean := by
  cases ret <;> cases mark <;>
  exact ⟨rfl, lands_one rfl rfl (by decide) (by decide) ⟨by decide, by decide⟩, rfl, rfl, rfl, by decide, by decide,
    term_sup _ _, fun _ => resultOf_resultOf _ _ _ _, by decide, by decide, by decide,
    by decide⟩

/-- A CLEAN burst of a marked grant, one tick in time and one late, and a burst that meets the dark slot of a calibration's
fourth and fifth attempt. -/
theorem witness_ConverterTakesCaptures (attempts : Nat) :
    let r := reportOf 504592 [6, 4, 0, 0, 0, 0, 8, 0, 0, 0, 0, 0] true false
    let plan := { plan500 with slot := some ⟨248591, 248783⟩ }
    let c : Calibration := ⟨64, attempts, .placed ⟨500, ⟨248591, 248783⟩, 504591⟩, none⟩
    let s : State := { frame500 with intake.store := [plan], conv.calib := some c }
    frame500.Lands 504592 0 plan500 248592 1 window500 ∧ window500.grant.capture = true ∧
      Judged r window500.grant 248592 .clean ∧ frame500.conv.state = .idle ∧ ((504783 : Tick) - 504592).toNat < 192 ∧
      192 ≤ ((504784 : Tick) - 504592).toNat ∧ s.InFrame 504592 0 plan 248592 ∧ s.conv.calib = some c ∧
      plan.slotMet 248592 r.length ∧ ¬plan500.slotMet 248592 r.length :=
  ⟨frame500_lands, rfl, (judged_iff _ _ _ _).mpr (by decide +kernel), rfl, by decide, by decide,
   inFrame_zero rfl rfl rfl (by decide) (by decide), rfl, ⟨_, rfl, by decide, by decide⟩, by rintro ⟨x, hx, _⟩; cases hx⟩

theorem witness_WindowsCloseInOrder (phase : Phase) :
    (supState phase (standingWindow .opened none)).NextToClose (storedOne 500 0 (standingWindow .opened none)) [] 0
        (standingWindow .opened none) ∧
      State.reset.intake.store = [] ∧
      (∀ w ∈ (storedOne 500 0 (standingWindow .closed none)).windows, w.state = .closed) :=
  ⟨nextToClose_sup _ _ (by decide), rfl, by intro w hw; rw [List.mem_singleton.mp hw]; rfl⟩

/-- 6.7.1, gap 4: the garbled window of the outstanding node, a node with no bit left to split on, and the census in
STOPPING. -/
theorem witness_CensusWindowCloses :
    let w := { opened (gapGrant .default ⟨4, 12, 2⟩ 0) with garble := true }
    let s := { atGap4 with intake.store := [storedOne 1010 0 w] }
    s.NextToClose (storedOne 1010 0 w) [] 0 w ∧ w.grant.owner = .census ∧
      s.census.outstanding = some ⟨⟨4, 12, 2⟩, 0, 1010⟩ ∧ s.census.state = .searching ∧
      (∃ counters stack tie, s.NodeSettles ⟨⟨4, 12, 2⟩, 0, 1010⟩ w.garble counters stack tie ∧
        stack = [⟨4, 14, 1⟩, ⟨6, 14, 1⟩, ⟨8, 8, 3⟩]) ∧
      (∃ counters stack tie, s.NodeSettles ⟨⟨4, 15, 0⟩, 0, 1010⟩ true counters stack tie ∧ tie = some ⟨4, 15, 1010⟩) ∧
      ({ s with census.state := .stopping, census.stack := [] } : State).census.state = .stopping :=
  ⟨nextToClose_of_nextWindow rfl rfl rfl, rfl, rfl, rfl,
   ⟨_, _, _, .split 1 (by decide) (by decide) (fun x h1 h2 => absurd h2 (by show ¬x < 2; omega)), by decide⟩,
   ⟨_, _, _, .tie (fun x h => absurd h (Nat.not_lt_zero x)), rfl⟩, rfl⟩

/-- A miss below the limit of 4, and the fourth; a CORRUPT burst at the end of its count, and an OVERLONG one. -/
theorem witness_StandingMissCounts (miss corrupt : Nat) :
    let phase : Phase := .active { service with miss := miss, corrupt := corrupt }
    let w := standingWindow .opened none
    (supState phase w).NextToClose (storedOne 500 0 w) [] 0 w ∧ w.grant.kind = .standing ∧ w.grant.owner = .supervisor ∧
      w.grant.tag = some 3 ∧ (supState phase w).term 3 = some (terminal 0x44 phase) ∧
      (∀ quality, (supState phase (standingWindow .matched quality)).NextToClose
        (storedOne 500 0 (standingWindow .matched quality)) [] 0 (standingWindow .matched quality)) ∧
      ((supState phase w).roster.profiles.get 0).missLimit = 4 := by
  refine ⟨nextToClose_sup _ _ (by decide), rfl, rfl, rfl, term_sup _ _,
    fun _ => nextToClose_sup _ _ (by intro h; cases h), ?_⟩
  show ((Bank.fill 8 Profile.default).get 0).missLimit = 4
  rw [Bank.get_fill]; rfl

/-- 3.7.5 and one tick less: the eighth burst of a block, at D = 32 and at 31, against 8 times a threshold of 4. -/
theorem witness_StandingCleanDrifts (drift : Int) :
    let svc := { service with drift := drift, bursts := 7 }
    let w := standingWindow .matched (some .clean)
    let r := resultOf (reportOf 504597 [6, 4, 0, 0, 0, 0, 8, 0, 0, 0, 0, 0] true false) w.grant 500 248597
    let s := (supState (.active svc) w).updSup 3 fun x => { x with held := some r }
    s.line.state = .running ∧ s.NextToClose (storedOne 500 0 w) [] 0 w ∧ w.state = .matched ∧ w.quality = some .clean ∧
      w.grant.kind = .standing ∧ w.grant.owner = .supervisor ∧ w.grant.tag = some 3 ∧
      s.term 3 = some (terminal 0x44 (.active svc)) ∧ (s.sup.get 3).held = some r ∧ r.grant.point = some 248592 ∧
      svc.nudgeOut = false ∧ svc.nudgeCycle ≠ some (r.cycle + 1) ∧
      (∀ d, d = 27 ∨ d = 26 → max (-4096) (min 4095 (d + max (-16) (min 16 ((r.position : Int) - 248592)))) = d + 5) ∧
      8 * 4 ≤ (27 + 5 : Int).natAbs ∧ (26 + 5 : Int).natAbs < 8 * 4 := by
  refine ⟨rfl, nextToClose_of_nextWindow rfl rfl rfl, rfl, rfl, rfl, rfl, rfl, ?_, ?_, rfl, rfl,
    by simp [service, Service.start], ?_, by decide, by decide⟩
  · exact term_sup _ (standingWindow .matched (some .clean))
  · simp [State.updSup]
  · rintro d (rfl | rfl) <;> decide

/-- The earliest of two plans, with and without a frame on its way, and its attempt that holds a dark code. -/
theorem witness_FrameEndLetsGo :
    let a := (emptyPlan 7004 312500).stored 0
    let b := (emptyPlan 7005 312500).stored 312500
    let s : State :=
      { lit .running 7005 312500 with
        intake.store := [a, b], conv.calib := some ⟨64, 3, .sampled ⟨7004, ⟨0, 192⟩, 256000⟩ (some 73), some .light⟩ }
    let u : State := { s with link.tx := .sending [] }
    s.intake.store = a :: b :: [] ∧ s.conv.calib = some ⟨64, 3, .sampled ⟨7004, ⟨0, 192⟩, 256000⟩ (some 73), some .light⟩ ∧
      a.cycle = 7004 ∧ (lit .running 7005 312500).intake.store.length < 2 ∧ u.link.tx = .sending [] ∧
      2 ≤ u.intake.store.length ∧ ∃ v, exec .windowClose u = .next v :=
  ⟨rfl, rfl, rfl, by decide +kernel, rfl, by decide +kernel, _, rfl⟩

/-! ### The converter's events -/

/-- A capture of the Supervisor's for tag 7. -/
def capture : Capture := ⟨.supervisor, 6, 500, 265424, 192, 16, 0, false⟩

/-- The converter in a state, with a calibration attempt in a phase, the record of tag 7 ACTIVE. -/
def converter (state : ConvState) (attempts : Nat) (phase : CalibPhase) : State :=
  { (lit .running 500 0).putTerm 6 (some (terminal 0x77 (.active service))) with
    conv.state := state, conv.calib := some ⟨64, attempts, phase, none⟩ }

theorem witness_DarkSlotAndSampleWindow (attempts : Nat) :
    let slot : CalibSlot := ⟨500, ⟨0, 192⟩, 256000⟩
    let dark (converting : Bool) : DarkSample := ⟨256000, 192, 16, converting⟩
    ((converter .idle attempts (.placed slot)).conv.calib = some ⟨64, attempts, .placed slot, none⟩ ∧
      (converter .idle attempts (.placed slot)).conv.state = .idle) ∧
      (converter (.sampling capture) attempts (.placed slot)).conv.state = .sampling capture ∧
      (converter (.converting capture) attempts (.placed slot)).conv.state = .converting capture ∧
      State.reset.conv.calib = none ∧
      (converter (.calibrating (dark false)) 1 (.sampled slot none)).conv.state = .calibrating (dark false) ∧
      (converter (.calibrating (dark true)) 1 (.sampled slot none)).conv.calib = some ⟨64, 1, .sampled slot none, none⟩ :=
  ⟨⟨rfl, rfl⟩, rfl, rfl, rfl, rfl, rfl⟩

/-- A dark sample whose attempt waits for its code, one whose attempt has failed and one before its window's end. -/
theorem witness_ConversionEndAnswers_dark :
    let slot : CalibSlot := ⟨500, ⟨0, 192⟩, 256000⟩
    let dark (converting : Bool) : DarkSample := ⟨256000, 192, 16, converting⟩
    (converter (.calibrating (dark true)) 1 (.sampled slot none)).conv.calib = some ⟨64, 1, .sampled slot none, none⟩ ∧
      (converter (.calibrating (dark true)) 1 .waiting).conv.state = .calibrating (dark true) ∧ (dark true).converting = true ∧
      (∀ c x, (converter (.calibrating (dark true)) 1 .waiting).conv.calib = some c → c.phase ≠ .sampled x none) ∧
      (dark false).converting = false :=
  ⟨rfl, rfl, rfl, (by rintro c x h; cases h; intro h; cases h), rfl⟩

/-- A discarded capture, one of an ACTIVE record's, whose code 1,740 is the level -196, and one that a lane waits for. -/
theorem witness_ConversionEndAnswers :
    let gone := { capture with discard := true }
    let s := converter (.converting capture) 1 .waiting
    let ok := laneResult .probe 30256
    let held : HeldGrant := ⟨some ok, none, none⟩
    let lane : Capture := ⟨.lane 0, 1, 2010, 286256, 192, 16, 0, false⟩
    let u := { laneState .probe (.probe (probing 1 0 0 [])) none held (laneWindow .probe (some .clean) false) with
      conv.state := .converting lane }
    (converter (.converting gone) 1 .waiting).conv.state = .converting gone ∧ gone.discard = true ∧
      s.conv.state = .converting capture ∧ capture.discard = false ∧ capture.owner = .supervisor ∧
      RawLevel s.conv.curve capture.offset 1740 (-196) ∧ s.term 6 = some (terminal 0x77 (.active service)) ∧
      u.conv.state = .converting lane ∧ u.work 0 = some (laneWork .probe (.probe (probing 1 0 0 [])) held) ∧
      ok.captureAsked = true ∧ held.close = none ∧ (s.term 5 = none) :=
  ⟨rfl, rfl, rfl, rfl, rfl, ⟨1740, by decide, 13, 14, by decide, by decide, by decide +kernel⟩, by decide +kernel, rfl,
   by decide +kernel, rfl, rfl, by decide +kernel⟩

end Sys2Proof.Tests
end

/-! PROOFS. The level converter (09): READ CURVE (R161). -/

namespace Sys2Proof.Bank

variable {α : Type} {n : Nat}

/-- As many places as are asked for and as lie from `start` to the bank's end. -/
theorem length_slice (b : Bank α n) (start count : Nat) :
    ((b.cells.drop start).take count).length = min count (n - start) := by
  simp [b.size]

/-- The run of places from `start` holds them in index order. -/
theorem getElem?_slice (b : Bank α n) {start count j : Nat} {k : Fin n} (at_k : k.val = start + j) (h : j < count) :
    ((b.cells.drop start).take count)[j]? = some (b.get k) := by
  have inside : start + j < b.cells.length := by rw [b.size, ← at_k]; exact k.isLt
  rw [List.getElem?_take_of_lt h, List.getElem?_drop, List.getElem?_eq_getElem inside]
  simp only [get, at_k]

end Sys2Proof.Bank

namespace Sys2Proof.Machine

/-- The points that READ CURVE returns: those from `start` upward, `count` at most (R161). -/
def curvePoints (curve : Bank Int 33) (start count : Byte) : List Int :=
  (curve.cells.drop start.toNat).take count.toNat

/-- A start above 32 is refused RANGE, whatever the count (R161). -/
theorem actReadCurve_of_outside {q : Request} {start count : Byte} (body : q.body = [start, count])
    (outside : 32 < start.toNat) (s : State) : actReadCurve q s = .plain s .range := by
  simp [actReadCurve, body, outside]

/-- A start up to 32 is answered with the points and their number, and the state stays as it was (R161). -/
theorem actReadCurve_of_inside {q : Request} {start count : Byte} (body : q.body = [start, count])
    (inside : start.toNat ≤ 32) (s : State) :
    actReadCurve q s =
      let points := curvePoints s.conv.curve start count
      { state := s, result := .ok, body := byteOf points.length :: points.flatMap (beSigned 2) } := by
  simp [actReadCurve, body, beAt_cons, Nat.not_lt.mpr inside, curvePoints]

/-- READ CURVE is taken whole: what its entry answers without an effect is offered as the reply (R161, R173). -/
theorem exec_readCurve_of_unchanged {s : State} {q : Request} {rest : List Request} (offer : s.Offers 0x19 q rest)
    (length : q.body.length = 2) {r : Result} {body : List Byte}
    (answer : actReadCurve q s.popRequest = { state := s.popRequest, result := r, body := body }) :
    exec .readCurve s = .next (s.answered q rest r body) := by
  have allowed : exactly 2 q.body.length = true := by simp [exactly, length]
  exact congrArg Host.Outcome.next (State.handle_of_unchanged offer allowed answer)

/-- Settles O27: the entry keeps the state in both cases, and the points are the run of the curve's places from the start
index, at most as long as asked. -/
theorem readCurveReturns : Obligations.ReadCurveReturns := by
  intro s q rest start count offer body
  have length : q.body.length = 2 := by simp [body]
  constructor
  · intro outside
    exact exec_readCurve_of_unchanged offer length (actReadCurve_of_outside body outside s.popRequest)
  · intro inside
    refine ⟨curvePoints s.conv.curve start count, s.conv.curve.length_slice _ _, ?_,
      exec_readCurve_of_unchanged offer length (actReadCurve_of_inside body inside s.popRequest)⟩
    intro j k at_k returned
    rw [curvePoints, Bank.length_slice] at returned
    exact s.conv.curve.getElem?_slice at_k (Nat.lt_of_lt_of_le returned (Nat.min_le_left _ _))

end Sys2Proof.Machine

/-! PROOFS. The requests (11): FULL_RESTART (R189), IDENTIFY (R181) and READ EXPECTED (R183). -/

namespace Sys2Proof.Machine

/-! ## FULL_RESTART (R178, R189) -/

/-- A restart with no reply left ahead of it is due once the transmitter is between frames, or is at the end of the RESTART
reply (R178). -/
theorem State.restartDue_of_waiting {s : State} {form : RestartForm} {replied : Bool}
    (waiting : s.link.handler = .restartWaiting form 0 replied)
    (sent : s.link.tx = .betweenFrames ∨ replied = true) : s.restartDue = some form := by
  simp only [State.restartDue, waiting, if_pos sent]

/-- RESTART_TAKES_EFFECT with a FULL_RESTART due leaves what `State.fullRestart` says (R178, R189). -/
theorem exec_restartTakesEffect_of_full {s : State} (due : s.restartDue = some .full) :
    exec .restartTakesEffect s = .next s.fullRestart := by
  have taken : s.takeRestart = s.fullRestart := by simp only [State.takeRestart, due]
  exact congrArg Host.Outcome.next taken

/-- The cause that a reset is given is the one thing that the cause decides (R179, R189). -/
theorem State.resetTo_cause (s : State) (straps : BitVec 2) (cause other : ResetCause) :
    s.resetTo straps cause = { s.resetTo straps other with link.cause := cause } := rfl

/-- Settles O5: both are the one reset, and the only difference is the cause that it is given. -/
theorem fullRestartIsPinReset : Obligations.FullRestartIsPinReset := by
  intro s replied waiting sent
  have due : s.restartDue = some .full := State.restartDue_of_waiting waiting sent
  have atPin : exec (.pinReset s.link.straps) s = .next (s.resetTo s.link.straps .pin) := rfl
  have difference := s.resetTo_cause s.link.straps .fullRestart .pin
  exact ⟨s.fullRestart, s.resetTo s.link.straps .pin, exec_restartTakesEffect_of_full due, atPin, difference,
    rfl, rfl, rfl, rfl, rfl⟩

/-! ## IDENTIFY (R181) -/

/-- The identity of the part and its revision, then the strap code and the reset cause (R177, R181). -/
theorem State.identityBody_eq (s : State) :
    s.identityBody = [0x5E, 0x80, 0x01, byteOf s.link.straps.toNat, s.link.cause.code] := rfl

/-- Settles O12: the entry answers with the identity body, which taking the request does not change, and has no effect. -/
theorem identifyReports : Obligations.IdentifyReports := by
  intro s q rest offer body
  have allowed : exactly 0 q.body.length = true := by simp [exactly, body]
  have answer : actIdentify q s.popRequest =
      { state := s.popRequest, result := .ok, body := s.popRequest.identityBody } := rfl
  rw [State.identityBody_eq, State.popRequest_link_straps, State.popRequest_link_cause] at answer
  exact congrArg Host.Outcome.next (State.handle_of_unchanged offer allowed answer)

/-! ## READ EXPECTED (R183) -/

/-- The entries that READ EXPECTED returns: those from `start` onward, `count` and 40 at most (R183). -/
def expectedShown (entries : List Expected) (start count : Byte) : List Expected :=
  (entries.drop start.toNat).take (min count.toNat 40)

/-- As many entries as are asked for, as a reply holds, and as lie from `start` to the list's end (R183). -/
theorem length_expectedShown (entries : List Expected) (start count : Byte) :
    (expectedShown entries start count).length = min count.toNat (min 40 (entries.length - start.toNat)) := by
  rw [expectedShown, List.length_take, List.length_drop, Nat.min_assoc]

/-- The entries returned are a run of the list, in its order, that begins at `start` (R183). -/
theorem expectedShown_eq_take (entries : List Expected) (start count : Byte) :
    expectedShown entries start count =
      (entries.drop start.toNat).take (expectedShown entries start count).length := by
  rw [expectedShown, List.length_take, ← List.take_eq_take_min]

/-- A start above 127 is refused RANGE, whatever the count (R183). -/
theorem actReadExpected_of_outside {q : Request} {start count : Byte} (body : q.body = [start, count])
    (outside : 127 < start.toNat) (s : State) : actReadExpected q s = .plain s .range := by
  simp [actReadExpected, body, outside]

/-- A start up to 127 is answered with the fill, the start, the number of entries returned and the entries, and the state
stays as it was (R183). -/
theorem actReadExpected_of_inside {q : Request} {start count : Byte} (body : q.body = [start, count])
    (inside : start.toNat ≤ 127) (s : State) :
    actReadExpected q s =
      let shown := expectedShown s.roster.expected start count
      { state := s, result := .ok,
        body := [byteOf s.roster.expected.length, start, byteOf shown.length] ++ shown.flatMap Expected.bytes } := by
  simp [actReadExpected, body, beAt_cons, Nat.not_lt.mpr inside, expectedShown]

/-- READ EXPECTED is taken whole: what its entry answers without an effect is offered as the reply (R173, R183). -/
theorem exec_readExpected_of_unchanged {s : State} {q : Request} {rest : List Request} (offer : s.Offers 0x0C q rest)
    (length : q.body.length = 2) {r : Result} {body : List Byte}
    (answer : actReadExpected q s.popRequest = { state := s.popRequest, result := r, body := body }) :
    exec .readExpected s = .next (s.answered q rest r body) := by
  have allowed : exactly 2 q.body.length = true := by simp [exactly, length]
  exact congrArg Host.Outcome.next (State.handle_of_unchanged offer allowed answer)

/-- Settles O19: the entry keeps the state in both cases, and what it shows is the run of the list from the start position,
cut at the count and at 40. -/
theorem readExpectedInOrder : Obligations.ReadExpectedInOrder := by
  intro s q rest start count offer body
  have length : q.body.length = 2 := by simp [body]
  constructor
  · intro outside
    exact exec_readExpected_of_unchanged offer length (actReadExpected_of_outside body outside s.popRequest)
  · intro inside
    exact ⟨expectedShown s.roster.expected start count, expectedShown_eq_take _ _ _, length_expectedShown _ _ _,
      exec_readExpected_of_unchanged offer length (actReadExpected_of_inside body inside s.popRequest)⟩

end Sys2Proof.Machine


/-! PROOFS. What the events of the blocks (01 to 09) are made of: each is a run of moves, and what each move asks for is
said here once. The invariants are then proved move by move. -/

namespace Sys2Proof.Machine

/-! ## The moves -/

/-- A record that holds `h` holds `h'` next and stays where the lists, the lanes and the admission queue have it. -/
structure State.RecordGoesOn (s : State) (h h' : Terminal) : Prop where
  serial : h'.serial = h.serial
  listed : h'.listed = h.listed
  lane : h'.lane = h.lane
  heard : h'.phase = .heard ↔ h.phase = .heard
  park : h.park.isSome → h'.park.isSome
  capped : s.SettingsInRange → h.phase.Capped → h'.phase.Capped

/-- A record that holds `h` holds `k` next, in no lane and not HEARD, or nothing. -/
structure State.RecordLeaves (s : State) (h : Terminal) (k : Option Terminal) : Prop where
  serial : ∀ h' ∈ k, h'.serial = h.serial
  listed : ∀ h' ∈ k, h'.listed = h.listed
  lane : ∀ h' ∈ k, h'.lane = none
  heard : ∀ h' ∈ k, h'.phase ≠ .heard
  park : ∀ h' ∈ k, h.park.isSome → h'.park.isSome
  capped : ∀ h' ∈ k, s.SettingsInRange → h'.phase.Capped

/-- The record of `t` becomes HEARD with `h`: it was FREE and `h`'s serial is new, or it was PARKED with that serial (R27,
R28). -/
structure State.RecordEnters (s : State) (t : Tag) (h : Terminal) : Prop where
  running : s.line.state = .running
  heard : h.phase = .heard
  listed : h.listed = (s.roster.entryOf h.serial).isSome
  unbarred : h.serial ∉ s.roster.barred
  reserved : ∀ e ∈ s.roster.expected, e.tag = t → s.RosterShape → e.serial = h.serial
  parked : s.RosterShape → ∀ k ∈ s.term t, k.serial = h.serial ∧ k.park.isSome
  unheld : s.RosterShape → ∀ u, ∀ k ∈ s.term u, k.serial = h.serial → u = t

/-- The work of a lane goes on with the same tag, within the ranges of R118. -/
structure State.WorkGoesOn (s : State) (w w' : LaneWork) : Prop where
  tag : w'.tag = w.tag
  capped : s.SettingsInRange → w.Capped → w'.Capped

/-- The census is `c` next: its counts stay within their ranges, only a plan close in RUNNING makes a node outstanding, and
a census that is STOPPED has none. -/
structure State.CensusGoesOn (s : State) (c : Census) : Prop where
  interval : c.interval = s.census.interval
  capped : s.SettingsInRange → s.CountsCapped → c.counters.Capped ∧ c.wait ≤ 255 ∧ c.passes ≤ 255
  outstanding : c.outstanding ≠ none → s.census.outstanding ≠ none ∨ s.line.state = .running
  stopped : (s.census.state = .stopped → s.census.outstanding = none) → c.state = .stopped → c.outstanding = none

/-- The converter is `v` next: its offset and its calibration stay within their ranges, and none begins. -/
structure State.ConverterGoesOn (s : State) (v : Converter) : Prop where
  offset : s.SettingsInRange → -14 ≤ v.offset ∧ v.offset ≤ 14 ∧ v.offset % 2 = 0
  curve : v.curve = s.conv.curve
  calib : s.SettingsInRange → ∀ c ∈ v.calib, c.target ≤ 4095 ∧ c.attempts ≤ 5 ∧ (c.phase = .waiting → c.attempts < 5)
  absent : s.conv.calib = none → v.calib = none

/-- One write of a block's event, with what the block has seen before it writes. -/
inductive Move (s : State) : State → Prop
  | tick (x : Tick) : Move s (s.setTick x)
  | notice (n : LineNotice) (running : s.line.state = .running) (room : s.line.notices.length < 16) :
      Move s (s.setNotices (s.line.notices ++ [n]))
  | fewerNotices (l : List LineNotice) (fewer : l.Sublist s.line.notices) : Move s (s.setNotices l)
  | waiting (l : List LineNotice) (running : l = [] ∨ s.line.state = .running) : Move s (s.setWaiting l)
  | shot (e : OneShot) (running : s.line.state = .running) (room : s.planner.shots.length < 8) :
      Move s (s.setShots (s.planner.shots ++ [e]))
  | fewerShots (l : List OneShot) (fewer : l.Sublist s.planner.shots) : Move s (s.setShots l)
  | sup (t : Tag) (f : SupEntry → SupEntry)
      (stirred : f .empty = .empty ∨ s.line.state = .running ∨ ∃ h ∈ s.term t, h.park = none) : Move s (s.updSup t f)
  | stranger (x : Stranger) (new : ∀ y ∈ s.roster.strangers, y.serial ≠ x.serial)
      (room : s.roster.strangers.length < 16) : Move s (s.setStrangers (s.roster.strangers ++ [x]))
  | fewerStrangers (l : List Stranger) (fewer : l.Sublist s.roster.strangers) : Move s (s.setStrangers l)
  | overflowed : Move s s.setOverflowed
  | put (t : Tag) (h h' : Terminal) (holds : s.term t = some h) (on : s.RecordGoesOn h h') :
      Move s (s.putTerm t (some h'))
  | noted (t : Tag) : Move s (s.noteChange t)
  | enter (t : Tag) (h : Terminal) (enters : s.RecordEnters t h) :
      Move s ((s.putTerm t (some h)).setAdmissionQueue (s.roster.admission ++ [t]))
  | leave (t : Tag) (h : Terminal) (k : Option Terminal) (holds : s.term t = some h) (leaves : s.RecordLeaves h k) :
      Move s ((s.detach t h).putTerm t k)
  | stray (i : LaneNo) (w : LaneWork) (has : s.work i = some w) (astray : ∀ h ∈ s.term w.tag, h.lane ≠ some i) :
      Move s (s.freeLane i)
  | seize (i : LaneNo) (t : Tag) (rest : List Tag) (h : Terminal) (w : LaneWork) (free : s.work i = none)
      (head : s.roster.admission = t :: rest) (holds : s.term t = some h) (tag : w.tag = t) (capped : w.Capped) :
      Move s ((((s.setAdmissionQueue rest).putTerm t (some { h with phase := .engaged i none })).bumpSeizure i).setWork i
        (some w))
  | vacant (t : Tag) (rest : List Tag) (head : s.roster.admission = t :: rest) (free : s.term t = none) :
      Move s (s.setAdmissionQueue rest)
  | work (i : LaneNo) (w w' : LaneWork) (has : s.work i = some w) (on : s.WorkGoesOn w w') :
      Move s (s.setWork i (some w'))
  | census (c : Census) (on : s.CensusGoesOn c) (shape : s.CensusShape → (s.setCensus c).CensusShape) :
      Move s (s.setCensus c)
  | kinds (k : KindFlags) : Move s { s with link.kinds := k }
  | overruns (n : Nat) (c : CycleNo) (capped : n ≤ 65535) : Move s (s.setOverruns n c)
  | sweep (n : Nat) (capped : n ≤ 128 ∨ n = s.planner.sweep) : Move s (s.setSweep n)
  | slot (b : Bool) (wanted : b = true → s.conv.calib ≠ none) : Move s (s.setSlotWanted b)
  | store (l : List StoredPlan) (fewer : l.length ≤ s.intake.store.length)
      (newest : ∀ p ∈ l.getLast?, ∃ q ∈ s.intake.store.getLast?, p.cycle = q.cycle ∧ p.start = q.start ∧ p.len = q.len) :
      Move s (s.setStore l)
  | strayBurst : Move s s.countStray
  | conv (v : Converter) (on : s.ConverterGoesOn v) : Move s { s with conv := v }
  | countdowns : Move s s.countdowns

/-- Any number of moves, one after the other. -/
abbrev Evolves : State → State → Prop := Relation.ReflTransGen Move

/-- What every move keeps, a run of moves keeps. -/
theorem Evolves.keeps {P : State → Prop} (kept : ∀ {s t}, Move s t → P s → P t) {s t : State} (run : Evolves s t)
    (h : P s) : P t := by
  induction run with
  | refl => exact h
  | tail _ move ih => exact kept move ih

theorem Evolves.foldl {α : Type} {f : State → α → State} (each : ∀ s x, Evolves s (f s x)) (l : List α) (s : State) :
    Evolves s (l.foldl f s) := by
  induction l generalizing s with
  | nil => exact .refl
  | cons x l ih => exact (each s x).trans (ih (f s x))

/-! ## Postings -/

theorem State.evolves_rosterPost (s : State) (body : NoticeBody) : Evolves s (s.rosterPost body) := by
  rw [State.rosterPost_eq]
  by_cases running : s.line.state = .running
  · by_cases room : s.line.notices.length < 16
    · simpa [running, room] using Relation.ReflTransGen.single (Move.notice _ running room)
    · simpa [running, room] using Relation.ReflTransGen.single (Move.waiting _ (.inr running))
  · simpa [running] using Relation.ReflTransGen.refl

theorem State.evolves_standDown (s : State) (t : Tag) (reason : Reason) : Evolves s (s.standDown t reason) :=
  s.evolves_rosterPost _

theorem State.evolves_repostRoster (s : State) : Evolves s s.repostRoster :=
  (Relation.ReflTransGen.single (Move.waiting [] (.inl rfl))).trans
    (Evolves.foldl (fun (x : State) (n : LineNotice) => x.evolves_rosterPost n.body) _ _)

theorem State.evolves_postNudge (s : State) (t : Tag) (delta : Int) : Evolves s (s.postNudge t delta) := by
  rw [State.postNudge_eq]
  by_cases running : s.line.state = .running
  · by_cases room : s.line.notices.length < 16
    · simpa [running, room] using Relation.ReflTransGen.single (Move.notice _ running room)
    · simpa [running, room] using Relation.ReflTransGen.single (Move.sup t _ (.inr (.inl running)))
  · simpa [running] using Relation.ReflTransGen.refl

theorem State.evolves_repostNudge (s : State) (t : Tag) : Evolves s (s.repostNudge t) := by
  unfold State.repostNudge
  split
  · exact .refl
  · exact .head (Move.sup t _ (.inl rfl)) (State.evolves_postNudge _ t _)

theorem State.evolves_postReturn (s : State) (t : Tag) : Evolves s (s.postReturn t) := by
  rw [State.postReturn_eq]
  by_cases running : s.line.state = .running
  · by_cases room : s.planner.shots.length < 8
    · simpa [running, room] using Relation.ReflTransGen.single (Move.shot _ running room)
    · simpa [running, room] using Relation.ReflTransGen.single (Move.sup t _ (.inr (.inl running)))
  · simpa [running] using Relation.ReflTransGen.refl

theorem State.evolves_repostReturn (s : State) (t : Tag) : Evolves s (s.repostReturn t) := by
  unfold State.repostReturn
  split
  · exact .head (Move.sup t _ (.inl rfl)) (State.evolves_postReturn _ t)
  · exact .refl

/-- The Supervisor's withdrawal of a RETURN is two moves (R80). -/
theorem State.evolves_withdrawReturn (s : State) (t : Tag) : Evolves s (s.withdrawReturn t) :=
  .head (Move.fewerShots _ List.filter_sublist) (.single (Move.sup t _ (.inl rfl)))

/-! ## Records -/

theorem State.evolves_noteChange_if (s : State) (t : Tag) (h : Option Terminal) :
    Evolves (s.putTerm t h) (s.changeTerm t h) := by
  unfold State.changeTerm
  split
  · exact .refl
  · exact .single (Move.noted t)

/-- A change of a record that stays in its place. -/
theorem State.evolves_changeTerm {s : State} {t : Tag} {h h' : Terminal} (holds : s.term t = some h)
    (on : s.RecordGoesOn h h') : Evolves s (s.changeTerm t (some h')) :=
  .head (Move.put t h h' holds on) (s.evolves_noteChange_if t _)

/-- A change of a record that leaves its place. -/
theorem State.evolves_leave {s : State} {t : Tag} {h : Terminal} {k : Option Terminal} (holds : s.term t = some h)
    (leaves : s.RecordLeaves h k) : Evolves s ((s.detach t h).changeTerm t k) :=
  .head (Move.leave t h k holds leaves) ((s.detach t h).evolves_noteChange_if t k)

/-- A record that is parked with a hold within its range. -/
theorem State.recordLeaves_parked (s : State) (h : Terminal) (reason : Reason) {hold : Nat}
    (inRange : s.SettingsInRange → hold ≤ 65535) :
    s.RecordLeaves h (some { h with phase := .parked reason hold }) := by
  constructor <;> simp [Terminal.lane, Terminal.park, Phase.Capped]
  exact inRange

theorem State.evolves_freeRecord {s : State} {t : Tag} {h : Terminal} (holds : s.term t = some h) :
    Evolves s (s.freeRecord t h) :=
  State.evolves_leave holds (by constructor <;> simp)

/-! ## Hearings (R25 to R29) -/

theorem State.hushLong_roster_strangers (s : State) (serial : Serial) :
    (s.hushLong serial).roster.strangers = s.roster.strangers := by
  unfold State.hushLong; rw [State.rosterPost_eq]; (repeat' split) <;> rfl

theorem State.evolves_refuseStranger (s : State) (serial : Serial) (reason : StrangerReason) :
    Evolves s (s.refuseStranger serial reason) := by
  unfold State.refuseStranger
  have hushed : Evolves s (s.hushLong serial) := s.evolves_rosterPost _
  dsimp only
  split
  · exact hushed
  · next new =>
    split
    · next room =>
      refine hushed.tail ?_
      rw [← s.hushLong_roster_strangers serial] at new room ⊢
      exact Move.stranger _ (by simpa using new) room
    · exact hushed.tail Move.overflowed

/-- The record that a serial's hearing enrolls becomes HEARD, and the serial is no stranger any more. -/
theorem State.evolves_enroll {s : State} {t : Tag} {serial : Serial} {listed : Bool} {profile : ProfileNo}
    {coarse : Int} (enters : s.RecordEnters t
      { serial := serial, listed := listed, profile := profile, coarse := coarse, level := none, flags := .clear,
        heardCycle := s.cycleNo, phase := .heard }) :
    Evolves s (s.enroll t serial listed profile coarse) := by
  unfold State.enroll State.changeTerm
  dsimp only
  split
  · exact .head (Move.enter t _ enters) (.single (Move.fewerStrangers _ List.filter_sublist))
  · exact .head (Move.enter t _ enters) (.head (Move.noted t) (.single (Move.fewerStrangers _ List.filter_sublist)))

theorem Roster.holderOf_none {r : Roster} {serial : Serial} (h : r.holderOf serial = none) (t : Tag) :
    ∀ k ∈ (r.records.get t).term, k.serial ≠ serial := by
  intro k hk e
  have := List.find?_eq_none.mp h t (List.mem_finRange t)
  rw [Option.mem_def.mp hk] at this
  simp [e] at this

theorem Roster.holderOf_some {r : Roster} {serial : Serial} {t : Tag} (h : r.holderOf serial = some t) :
    ∃ k ∈ (r.records.get t).term, k.serial = serial := by
  have found := List.find?_some h
  simpa [Option.any_eq_true] using found

theorem Roster.freeTag_some {r : Roster} {low high : Nat} {t : Tag} (h : r.freeTag low high = some t) :
    low ≤ tagNum t ∧ tagNum t ≤ high ∧ (r.records.get t).term = none ∧ ∀ e ∈ r.expected, e.tag ≠ t := by
  have found := List.find?_some h
  simp only [Roster.reserved, Bool.and_eq_true, decide_eq_true_eq, Option.isNone_iff_eq_none, Bool.not_eq_true',
    List.any_eq_false] at found
  obtain ⟨⟨⟨a, b⟩, c⟩, d⟩ := found
  exact ⟨a, b, c, d⟩

/-- The record of a new serial's expected-list entry is there for it. -/
theorem State.recordEnters_listed {s : State} {serial : Serial} {e : Expected} (running : s.line.state = .running)
    (unbarred : serial ∉ s.roster.barred) (unheld : s.roster.holderOf serial = none)
    (entry : s.roster.entryOf serial = some e) (h : Terminal) (heard : h.phase = .heard) (of : h.serial = serial)
    (listed : h.listed = true) : s.RecordEnters e.tag h := by
  have mem : e ∈ s.roster.expected := List.mem_of_find?_eq_some entry
  have serial_e : e.serial = serial := by simpa using List.find?_some entry
  subst of
  refine ⟨running, heard, by simp [listed, entry], unbarred, ?_, ?_, fun _ u k hk e => ?_⟩
  · intro x hx tag shape
    rw [List.inj_on_of_nodup_map shape.entryTags hx mem tag, serial_e]
  · intro shape k hk
    exact absurd ((shape.entryRecords e mem k hk).trans serial_e) (Roster.holderOf_none unheld e.tag k hk)
  · exact absurd e (Roster.holderOf_none unheld u k hk)

/-- A FREE and unreserved record is there for a new serial without an entry. -/
theorem State.recordEnters_unlisted {s : State} {serial : Serial} {t : Tag} {low high : Nat}
    (running : s.line.state = .running) (unbarred : serial ∉ s.roster.barred)
    (unheld : s.roster.holderOf serial = none) (entry : s.roster.entryOf serial = none)
    (found : s.roster.freeTag low high = some t) (h : Terminal) (heard : h.phase = .heard) (of : h.serial = serial)
    (listed : h.listed = false) : s.RecordEnters t h := by
  obtain ⟨_, _, free, unreserved⟩ := Roster.freeTag_some found
  subst of
  refine ⟨running, heard, by simp [listed, entry], unbarred, fun x hx tag => absurd tag (unreserved x hx), ?_,
    fun _ u k hk e => absurd e (Roster.holderOf_none unheld u k hk)⟩
  intro _ k hk
  rw [State.term, free] at hk
  cases hk

theorem State.evolves_hearNew {s : State} {serial : Serial} (running : s.line.state = .running)
    (unbarred : serial ∉ s.roster.barred) (unheld : s.roster.holderOf serial = none) (coarse : Int) :
    Evolves s (s.hearNew serial coarse).1 := by
  unfold State.hearNew
  dsimp only
  split
  · next e entry => exact State.evolves_enroll (State.recordEnters_listed running unbarred unheld entry _ rfl rfl rfl)
  · next entry =>
    split
    · exact s.evolves_refuseStranger _ _
    · split
      · next t found =>
        refine State.evolves_enroll ?_
        split at found
        · exact State.recordEnters_unlisted running unbarred unheld entry found _ rfl rfl rfl
        · exact State.recordEnters_unlisted running unbarred unheld entry found _ rfl rfl rfl
      · exact s.evolves_refuseStranger _ _

theorem State.evolves_readmit {s : State} {t : Tag} {h : Terminal} (running : s.line.state = .running)
    (unbarred : h.serial ∉ s.roster.barred) (holds : s.term t = some h) (parked : h.park.isSome) (coarse : Int) :
    Evolves s (s.readmit t h coarse) := by
  have enters : s.RecordEnters t
      { h with
        coarse := coarse, heardCycle := s.cycleNo, level := none, flags := .clear, phase := .heard,
        listed := (s.roster.entryOf h.serial).isSome,
        profile := ((s.roster.entryOf h.serial).map Expected.profile).getD h.profile } := by
    refine ⟨running, rfl, rfl, unbarred, ?_, ?_, ?_⟩
    · intro e he tag shape
      exact (shape.entryRecords e he h (tag ▸ holds)).symm
    · intro _ k hk
      cases holds.symm.trans hk
      exact ⟨rfl, parked⟩
    · intro shape u k hk e
      exact shape.serials u t k hk h holds e
  unfold State.readmit State.changeTerm
  dsimp only
  split
  · exact .single (Move.enter t _ enters)
  · exact .head (Move.enter t _ enters) (.single (Move.noted t))

theorem State.evolves_hearHeld {s : State} {t : Tag} {h : Terminal} (running : s.line.state = .running)
    (unbarred : h.serial ∉ s.roster.barred) (holds : s.term t = some h) (coarse : Int) :
    Evolves s (s.hearHeld t h coarse).1 := by
  unfold State.hearHeld
  split
  · exact .single (Move.put t h _ holds ⟨rfl, rfl, rfl, Iff.rfl, id, fun _ => id⟩)
  · exact .refl
  · exact .refl
  · exact .refl
  · next reason hold phase =>
    split
    · exact s.evolves_rosterPost _
    split
    · exact State.evolves_readmit running unbarred holds (by simp [Terminal.park, phase]) coarse
    · exact s.evolves_rosterPost _

theorem State.evolves_hear {s : State} (running : s.line.state = .running) (serial : Serial) (coarse : Int) :
    Evolves s (s.hear serial coarse).1 := by
  unfold State.hear
  split
  · exact s.evolves_rosterPost _
  · next unbarred =>
    have unbarred : serial ∉ s.roster.barred := by simpa using unbarred
    split
    · next t holder =>
      obtain ⟨k, hk, serial_k⟩ := Roster.holderOf_some holder
      rw [show s.term t = some k from hk]
      exact State.evolves_hearHeld running (serial_k ▸ unbarred) hk coarse
    · next unheld => exact State.evolves_hearNew running unbarred unheld coarse

end Sys2Proof.Machine

namespace Sys2Proof.Machine

/-! ## The Census Unit (chapter 6) -/

theorem passInc_le (n : Nat) : passInc n ≤ 65535 := satInc_le _ _

theorem PassCounters.capped_countHearing {c : PassCounters} (h : c.Capped) (a : Admission) : (c.countHearing a).Capped := by
  cases a <;> constructor <;> simp [PassCounters.countHearing, passInc_le, h.gaps, h.garbled, h.admitted, h.refreshed,
    h.ignored, h.hushed, h.strangers, h.ties]

theorem PassCounters.capped_zero : PassCounters.zero.Capped := by constructor <;> exact Nat.zero_le _

/-- A census whose counters change alone. -/
theorem State.censusGoesOn_counters (s : State) {c : PassCounters} (capped : s.census.counters.Capped → c.Capped) :
    s.CensusGoesOn { s.census with counters := c } :=
  ⟨rfl, fun _ h => ⟨capped h.counters, h.wait, h.passes⟩, .inl, id⟩

theorem State.evolves_candidate {s : State} (running : s.line.state = .running) (serial : Serial) (p gapStart : Nat) :
    Evolves s (s.candidate serial p gapStart) := by
  refine (State.evolves_hear running serial (coarseEcho s.line.settings p gapStart)).tail
    (Move.census _ ?_ fun h => { h with })
  exact State.censusGoesOn_counters _ (PassCounters.capped_countHearing · _)

/-- The census goes on from `s` to `t`, and no other block but the notice flags of the link. -/
def State.CensusRun (s t : State) : Prop :=
  ∃ c k, t = { s with census := c, link.kinds := k } ∧ s.CensusGoesOn c

theorem State.CensusRun.refl (s : State) : s.CensusRun s :=
  ⟨s.census, s.link.kinds, rfl, rfl, fun _ h => ⟨h.counters, h.wait, h.passes⟩, .inl, id⟩

theorem State.CensusRun.of_setCensus {s : State} {c : Census} (on : s.CensusGoesOn c) : s.CensusRun (s.setCensus c) :=
  ⟨c, s.link.kinds, rfl, on⟩

theorem State.CensusRun.trans {s t u : State} (first : s.CensusRun t) (second : t.CensusRun u) : s.CensusRun u := by
  obtain ⟨c, k, rfl, on⟩ := first
  obtain ⟨d, k', rfl, on'⟩ := second
  refine ⟨d, k', rfl, on'.interval.trans on.interval, fun settings counts => ?_, fun asked => ?_, fun h =>
    on'.stopped (on.stopped h)⟩
  · obtain ⟨counters, wait, passes⟩ := on.capped settings counts
    exact on'.capped { settings with interval := on.interval ▸ settings.interval }
      { counts with counters := counters, wait := wait, passes := passes }
  · exact (on'.outstanding asked).elim on.outstanding .inr

/-- Where the census keeps its shape, a run of it is two moves. -/
theorem State.CensusRun.evolves {s t : State} (run : s.CensusRun t) (shape : s.CensusShape → t.CensusShape) :
    Evolves s t := by
  obtain ⟨c, k, rfl, on⟩ := run
  exact .head (Move.census c on fun h => { shape h with }) (.single (Move.kinds k))

/-- A pass end writes its record and, where it is COMPLETE, counts it (R112). -/
theorem State.endPass_run (s : State) (kind : PassEnd) (cycle : CycleNo) : s.CensusRun (s.endPass kind cycle) := by
  refine ⟨_, _, rfl, rfl, fun _ h => ⟨h.counters, h.wait, ?_⟩, .inl, id⟩
  split
  · exact satInc_le _ _
  · exact h.passes

theorem State.testPassEnd_run {s : State} (settled : s.census.outstanding = none) : s.CensusRun s.testPassEnd := by
  unfold State.testPassEnd
  dsimp only
  split
  · split
    · exact (s.endPass_run _ _).trans
        (.of_setCensus ⟨rfl, fun _ h => ⟨h.counters, h.wait, h.passes⟩, .inl, fun _ _ => settled⟩)
    · exact (s.endPass_run _ _).trans
        (.of_setCensus ⟨rfl, fun _ h => ⟨PassCounters.capped_zero, h.wait, h.passes⟩, .inl, id⟩)
  · exact .refl s

theorem State.countGarbled_run (s : State) (garble : Bool) : s.CensusRun (s.countGarbled garble) := by
  unfold State.countGarbled
  split
  · exact .of_setCensus (s.censusGoesOn_counters fun h => { h with garbled := passInc_le _ })
  · exact .refl s

theorem State.finishNode_run (s : State) : s.CensusRun s.finishNode :=
  .of_setCensus
    ⟨rfl, fun settings h => ⟨h.counters, settings.interval.2, h.passes⟩, fun h => absurd rfl h, fun _ _ => rfl⟩

theorem State.splitNode_run (s : State) (o : Outstanding) : s.CensusRun (s.splitNode o) := by
  unfold State.splitNode
  split
  · exact .of_setCensus ⟨rfl, fun _ h => ⟨h.counters, h.wait, h.passes⟩, .inl, id⟩
  · exact .of_setCensus ⟨rfl, fun _ h => ⟨{ h.counters with ties := passInc_le _ }, h.wait, h.passes⟩, .inl, id⟩

theorem State.censusClose_run (s : State) (garble : Bool) : s.CensusRun (s.censusClose garble) := by
  unfold State.censusClose
  split
  · exact .refl s
  · next o _ =>
    have counted := s.countGarbled_run garble
    dsimp only
    split
    · refine counted.trans (State.CensusRun.trans ?_ (State.testPassEnd_run rfl))
      refine State.CensusRun.trans ?_ (State.finishNode_run _)
      split
      · exact State.splitNode_run _ o
      · exact .refl _
    · refine counted.trans ((State.finishNode_run _).trans (State.CensusRun.trans (.of_setCensus ?_) (State.endPass_run _ _ _)))
      exact ⟨rfl, fun _ h => ⟨h.counters, h.wait, h.passes⟩, .inl, fun _ _ => rfl⟩
    · exact counted.trans (State.finishNode_run _)

theorem State.haltCensus_run (s : State) (kind : PassEnd) (cycle : CycleNo) : s.CensusRun (s.haltCensus kind cycle) := by
  refine State.CensusRun.trans (.of_setCensus ?_) (State.endPass_run _ kind cycle)
  exact ⟨rfl, fun _ h => ⟨h.counters, Nat.zero_le _, h.passes⟩, fun h => absurd rfl h, fun _ _ => rfl⟩

/-! ### The stack (R100, R101, R109) -/

theorem stackOrdered_nil : stackOrdered [] := ⟨List.Pairwise.nil, nofun, .inl nofun⟩

/-- An ordered stack holds at most 33 nodes (R101). -/
theorem stackOrdered.length_le {l : List Node} (h : stackOrdered l) : l.length ≤ 33 := by
  rcases h.below with low | ⟨n, rfl, _⟩
  · have distinct : (l.tail.map Node.last).Nodup := h.rising.imp (fun lt => Nat.ne_of_lt lt)
    have within : l.tail.map Node.last ⊆ List.range 32 := by
      intro b hb
      obtain ⟨n, hn, rfl⟩ := List.mem_map.mp hb
      exact List.mem_range.mpr (Nat.lt_succ_of_le (low n (List.mem_of_mem_tail hn)))
    have few := (List.subperm_of_subset distinct within).length_le
    simp only [List.length_map, List.length_tail, List.length_range] at few
    omega
  · simp

/-- The rest of an ordered stack is ordered, below the node that was its top. -/
theorem stackOrdered.rest {n : Node} {rest : List Node} (h : stackOrdered (n :: rest)) :
    stackOrdered rest ∧ n.last ≤ 32 ∧ (rest.map Node.last).Pairwise (· < ·) ∧
      ∀ m ∈ rest, n.last ≤ m.last ∧ m.last ≤ 31 := by
  have rising : (rest.map Node.last).Pairwise (· < ·) := h.rising
  have top : ∀ m ∈ rest, n.last ≤ m.last := h.top n (by simp)
  have below : n.last ≤ 32 ∧ ∀ m ∈ rest, m.last ≤ 31 := by
    rcases h.below with low | ⟨root, same, last⟩
    · exact ⟨(low n (by simp)).trans (by decide), fun m hm => low m (List.mem_cons_of_mem _ hm)⟩
    · cases same
      exact ⟨last.le, nofun⟩
  refine ⟨⟨?_, ?_, .inl below.2⟩, below.1, rising, fun m hm => ⟨top m hm, below.2 m hm⟩⟩
  · exact rising.sublist ((List.tail_sublist rest).map _)
  · cases rest with
    | nil => nofun
    | cons m rest =>
      rintro _ ⟨⟩ k hk
      exact ((List.pairwise_cons.mp rising).1 k.last (List.mem_map_of_mem hk)).le

theorem splitBit_some {effective : Serial} {last b : Nat} (h : splitBit effective last = some b) : b < last := by
  induction last with
  | zero => cases h
  | succ n ih =>
    unfold splitBit at h
    split at h
    · cases h; exact Nat.lt_succ_self _
    · exact (ih h).trans (Nat.lt_succ_self n)

theorem Node.Masked.zeroChild {n : Node} (h : n.Masked) (b : Nat) : (n.zeroChild b).Masked := by
  have bits : ∀ p m t : Bool, (p && m) = p → ((p && !t) && (m || t)) = (p && !t) := by decide
  refine BitVec.eq_of_getElem_eq fun i hi => ?_
  have bit := congrArg (fun v => v[i]) h
  simp only [BitVec.getElem_and] at bit
  simpa only [Node.zeroChild, BitVec.getElem_and, BitVec.getElem_or, BitVec.getElem_not] using bits _ _ _ bit

theorem Node.Masked.oneChild {n : Node} (h : n.Masked) (b : Nat) : (n.oneChild b).Masked := by
  have bits : ∀ p m t : Bool, (p && m) = p → ((p || t) && (m || t)) = (p || t) := by decide
  refine BitVec.eq_of_getElem_eq fun i hi => ?_
  have bit := congrArg (fun v => v[i]) h
  simp only [BitVec.getElem_and] at bit
  simpa only [Node.oneChild, BitVec.getElem_and, BitVec.getElem_or] using bits _ _ _ bit

/-! ### The shape of the census -/

theorem State.censusShape_stopped {s : State} (state : s.census.state = .stopped) (stack : s.census.stack = [])
    (settled : s.census.outstanding = none) (root : s.census.rootPattern &&& s.census.rootMask = s.census.rootPattern)
    (split : s.census.effective = s.census.splitSet &&& ~~~s.census.rootMask) : s.CensusShape := by
  constructor <;> simp [state, stack, settled, root, split, stackOrdered_nil]

/-- A search with no node outstanding, but that its stack may be empty. -/
structure State.Searches (s : State) : Prop where
  state : s.census.state = .searching
  settled : s.census.outstanding = none
  ordered : stackOrdered s.census.stack
  root : s.census.rootPattern &&& s.census.rootMask = s.census.rootPattern
  split : s.census.effective = s.census.splitSet &&& ~~~s.census.rootMask
  masked : ∀ n ∈ s.census.stack, n.Masked

/-- After a pass end has been tested, a search has a node to ask or has stopped. -/
theorem State.Searches.testPassEnd {s : State} (h : s.Searches) : s.testPassEnd.CensusShape := by
  unfold State.testPassEnd
  dsimp only
  split
  · next empty =>
    split
    · exact State.censusShape_stopped rfl empty h.settled h.root h.split
    · exact {
        stopped := fun stopped => nomatch h.state.symm.trans stopped
        stopping := fun stopping => nomatch h.state.symm.trans stopping
        searching := fun _ => .inl (by simp)
        ordered := ⟨List.Pairwise.nil, by simp, .inr ⟨_, rfl, rfl⟩⟩
        outstanding := fun o asked => nomatch h.settled.symm.trans asked
        depth := by simp
        root := h.root
        split := h.split
        masked := by simpa [Node.Masked, Census.root] using h.root
        outMasked := fun o asked => nomatch h.settled.symm.trans asked }
  · next asks =>
    exact {
      stopped := fun stopped => nomatch h.state.symm.trans stopped
      stopping := fun stopping => nomatch h.state.symm.trans stopping
      searching := fun _ => .inl asks
      ordered := h.ordered
      outstanding := fun o asked => nomatch h.settled.symm.trans asked
      depth := h.ordered.length_le
      root := h.root
      split := h.split
      masked := h.masked
      outMasked := fun o asked => nomatch h.settled.symm.trans asked }

/-- The children of the outstanding node go on top of the stack (R109). -/
theorem stackOrdered.split {last b : Nat} {stack : List Node} (rising : (stack.map Node.last).Pairwise (· < ·))
    (within : last ≤ 32) (above : ∀ n ∈ stack, last ≤ n.last ∧ n.last ≤ 31) (lt : b < last) {x y : Node}
    (hx : x.last = b) (hy : y.last = b) : stackOrdered (x :: y :: stack) := by
  refine ⟨?_, ?_, .inl ?_⟩
  · refine List.pairwise_cons.mpr ⟨fun c hc => ?_, rising⟩
    obtain ⟨n, hn, rfl⟩ := List.mem_map.mp hc
    exact hy ▸ lt.trans_le (above n hn).1
  · rintro _ ⟨⟩ m hm
    rcases List.mem_cons.mp hm with rfl | hm
    · exact (hx.trans hy.symm).le
    · exact hx ▸ (lt.trans_le (above m hm).1).le
  · intro n hn
    rcases List.mem_cons.mp hn with rfl | hn
    · omega
    rcases List.mem_cons.mp hn with rfl | hn
    · omega
    · exact (above n hn).2

theorem State.censusShape_censusClose {s : State} (h : s.CensusShape) (garble : Bool) :
    (s.censusClose garble).CensusShape := by
  unfold State.censusClose
  split
  · exact h
  next o asked =>
  obtain ⟨within, rising, above⟩ := h.outstanding o asked
  have counted : (s.countGarbled garble).CensusShape ∧ (s.countGarbled garble).census.stack = s.census.stack := by
    unfold State.countGarbled
    split
    · exact ⟨{ h with }, rfl⟩
    · exact ⟨h, rfl⟩
  obtain ⟨shape, stack⟩ := counted
  generalize s.countGarbled garble = u at shape stack
  have masked := h.outMasked o asked
  rw [← stack] at rising above
  dsimp only
  split
  · next searching =>
    refine State.Searches.testPassEnd ?_
    split
    · unfold State.splitNode
      split
      · next b found =>
        exact ⟨searching, rfl, stackOrdered.split rising within above (splitBit_some found) rfl rfl, shape.root, shape.split,
          by simpa using ⟨masked.zeroChild b, masked.oneChild b, shape.masked⟩⟩
      · exact ⟨searching, rfl, shape.ordered, shape.root, shape.split, shape.masked⟩
    · exact ⟨searching, rfl, shape.ordered, shape.root, shape.split, shape.masked⟩
  · next stopping => exact State.censusShape_stopped rfl (shape.stopping stopping).1 rfl shape.root shape.split
  · next stopped => exact State.censusShape_stopped stopped (shape.stopped stopped).1 rfl shape.root shape.split

theorem State.evolves_censusClose (s : State) (garble : Bool) : Evolves s (s.censusClose garble) :=
  (s.censusClose_run garble).evolves fun h => State.censusShape_censusClose h garble

theorem State.evolves_haltCensus (s : State) (kind : PassEnd) (cycle : CycleNo) : Evolves s (s.haltCensus kind cycle) :=
  (s.haltCensus_run kind cycle).evolves fun h => State.censusShape_stopped rfl rfl rfl h.root h.split

theorem State.evolves_censusLineDown (s : State) : Evolves s s.censusLineDown := by
  unfold State.censusLineDown
  split
  · exact .refl
  · exact s.evolves_haltCensus _ _

/-! ## The Activation Lanes (chapter 7) -/

theorem State.engagedTo_some {s : State} {i : LaneNo} {t : Tag} {h : Terminal} {trim : Option EchoHold}
    (e : s.engagedTo i t = some (h, trim)) : s.term t = some h ∧ h.phase = .engaged i trim := by
  unfold State.engagedTo at e
  split at e
  · next k held =>
    split at e
    · next j x phase =>
      split at e
      · next same => cases e; exact ⟨held, same ▸ phase⟩
      · cases e
    · cases e
  · cases e

theorem State.engagedTo_none {s : State} {i : LaneNo} {t : Tag} (e : s.engagedTo i t = none) :
    ∀ h ∈ s.term t, h.lane ≠ some i := by
  intro h held lane
  rw [State.engagedTo, Option.mem_def.mp held] at e
  unfold Terminal.lane at lane
  split at lane
  · next j x phase => cases lane; simp [phase] at e
  · cases lane

/-- The end of a lane whose record is not its own any more. -/
theorem State.evolves_freeLane_of_none {s : State} {i : LaneNo} {w : LaneWork} {t : Tag} (has : s.work i = some w)
    (tag : t = w.tag) (lost : s.engagedTo i t = none) : Evolves s (s.freeLane i) :=
  .single (Move.stray i w has (tag ▸ State.engagedTo_none lost))

/-- The end of a lane that leaves its record with `phase`. -/
theorem State.evolves_freeLane_changeTerm {s : State} {i : LaneNo} {t : Tag} {h : Terminal} {trim : Option EchoHold}
    {k : Option Terminal} (engaged : s.engagedTo i t = some (h, trim)) (leaves : s.RecordLeaves h k) :
    Evolves s ((s.freeLane i).changeTerm t k) := by
  obtain ⟨held, phase⟩ := State.engagedTo_some engaged
  have detached : s.detach t h = s.freeLane i := by simp [State.detach, phase]
  exact detached ▸ State.evolves_leave held leaves

theorem State.engagedTo_freeLane (s : State) (i j : LaneNo) (t : Tag) :
    (s.freeLane i).engagedTo j t = s.engagedTo j t := rfl

theorem State.evolves_laneFail {s : State} {i : LaneNo} {w0 w : LaneWork} (has : s.work i = some w0)
    (tag : w.tag = w0.tag) (reason : Reason) : Evolves s (s.laneFail i w reason) := by
  unfold State.laneFail
  dsimp only
  rw [State.engagedTo_freeLane]
  split
  · next lost => exact State.evolves_freeLane_of_none has tag lost
  · next h trim engaged =>
    have parks : Evolves s ((s.freeLane i).parkRecord w.tag h reason ((s.freeLane i).profileOf h).parkHold) :=
      State.evolves_freeLane_changeTerm engaged
        (s.recordLeaves_parked h reason fun settings => (settings.profiles h.profile).parkHold)
    split
    · exact parks
    · exact parks.trans (State.evolves_standDown _ _ _)

theorem Service.capped_start (eh : EchoHold) (since : CycleNo) : (Service.start eh since).Capped 14 := by
  constructor <;> simp [Service.start]

theorem State.evolves_laneComplete {s : State} {i : LaneNo} {w0 w : LaneWork} (has : s.work i = some w0)
    (tag : w.tag = w0.tag) : Evolves s (s.laneComplete i w) := by
  unfold State.laneComplete
  dsimp only
  rw [State.engagedTo_freeLane]
  split
  · next lost => exact State.evolves_freeLane_of_none has tag lost
  · next h trim engaged =>
    refine State.evolves_freeLane_changeTerm engaged ⟨?_, ?_, ?_, ?_, ?_, ?_⟩ <;>
      rintro h' ⟨⟩
    · rfl
    · rfl
    · rfl
    · simp
    · simp [Terminal.park, (State.engagedTo_some engaged).2]
    · exact fun _ => Service.capped_start _ _

theorem State.settingsInRange_of_setNotices {s : State} {l : List LineNotice} (h : (s.setNotices l).SettingsInRange) :
    s.SettingsInRange :=
  ⟨h.line, h.pendingLen, h.cycle, h.warmup, h.profiles, h.pool, h.interval, h.offset, h.curve, h.calib⟩

theorem State.settingsInRange_of_setShots {s : State} {l : List OneShot} (h : (s.setShots l).SettingsInRange) :
    s.SettingsInRange :=
  ⟨h.line, h.pendingLen, h.cycle, h.warmup, h.profiles, h.pool, h.interval, h.offset, h.curve, h.calib⟩

/-- A lane's work that goes on with a line notice posted: the lane has no one-shot then. -/
theorem State.evolves_lanePostNotice {s : State} {i : LaneNo} {w0 w : LaneWork} (has : s.work i = some w0)
    (on : s.WorkGoesOn w0 w) (shotless : s.SettingsInRange → w0.Capped → w.shot = .absent) (body : NoticeBody) :
    Evolves s (s.lanePostNotice i w body) := by
  have next {u : State} (same : u.work i = s.work i) (settings : u.SettingsInRange → s.SettingsInRange)
      (notice : LaneNotice) : Move u (u.setWork i (some { w with notice := notice })) := by
    refine Move.work i w0 _ (same.trans has) ⟨on.tag, fun range capped => ?_⟩
    exact ⟨(on.capped (settings range) capped).stage, .inr (shotless (settings range) capped)⟩
  rw [State.lanePostNotice_eq]
  split
  · exact .single (next (u := s) rfl id _)
  · next running =>
    split
    · next room =>
      refine .head (Move.notice ⟨body, .lane i (s.lanes.get i).seizure⟩ (not_not.mp running) room) (.single ?_)
      exact next (by rfl) (State.settingsInRange_of_setNotices ·) _
    · exact .single (next (u := s) rfl id _)

/-- A lane's work that goes on with a one-shot posted: the lane has no line notice then. -/
theorem State.evolves_lanePostShot {s : State} {i : LaneNo} {w0 w : LaneWork} (has : s.work i = some w0)
    (on : s.WorkGoesOn w0 w) (noticeless : s.SettingsInRange → w0.Capped → w.notice = .absent) (e : OneShot) :
    Evolves s (s.lanePostShot i w e) := by
  have next {u : State} (same : u.work i = s.work i) (settings : u.SettingsInRange → s.SettingsInRange)
      (shot : LaneShot) : Move u (u.setWork i (some { w with shot := shot })) := by
    refine Move.work i w0 _ (same.trans has) ⟨on.tag, fun range capped => ?_⟩
    exact ⟨(on.capped (settings range) capped).stage, .inl (noticeless (settings range) capped)⟩
  rw [State.lanePostShot_eq]
  split
  · exact .single (next (u := s) rfl id _)
  · next running =>
    split
    · next room =>
      refine .head (Move.shot e (not_not.mp running) room) (.single ?_)
      exact next (by rfl) (State.settingsInRange_of_setShots ·) _
    · exact .single (next (u := s) rfl id _)

theorem State.setWork_setWork (s : State) (i : LaneNo) (w w' : Option LaneWork) :
    (s.setWork i w).setWork i w' = s.setWork i w' := by
  have lanes : (s.setWork i w).lanes.update i (fun l => { l with work := w' }) = s.lanes.update i (fun l => { l with work := w' }) := by
    ext j
    by_cases h : j = i <;> simp [State.setWork, h, Bank.get_update_of_ne]
  simp only [State.setWork] at lanes ⊢
  rw [lanes]

/-- A posting of a lane does not depend on the work that the lane had. -/
theorem State.lanePostNotice_setWork (s : State) (i : LaneNo) (w0 w : LaneWork) (body : NoticeBody) :
    (s.setWork i (some w0)).lanePostNotice i w body = s.lanePostNotice i w body := by
  simp only [State.lanePostNotice_eq, State.seizure_setWork]
  have pushed (l : List LineNotice) (w' : Option LaneWork) :
      ((s.setWork i (some w0)).setNotices l).setWork i w' = (s.setNotices l).setWork i w' :=
    (s.setNotices l).setWork_setWork i (some w0) w'
  simp only [pushed, State.setWork_setWork]
  rfl

theorem State.evolves_seize (s : State) (i : LaneNo) : Evolves s (s.seize i) := by
  unfold State.seize
  split
  · next t rest free head =>
    dsimp only
    split
    · next holds => exact .single (Move.vacant t rest head holds)
    · next h holds =>
      let w : LaneWork :=
        { tag := t, stage := .offer 3, lastFailure := none, notice := .absent, shot := .absent, held := .empty }
      have capped : w.Capped := ⟨⟨by decide, by decide⟩, .inl rfl⟩
      have seized := Move.seize i t rest h w free head holds rfl capped
      have posts (u : State) : Evolves (u.setWork i (some w)) (u.lanePostNotice i w (.tagOffer h.serial t)) := by
        rw [← State.lanePostNotice_setWork u i w w]
        exact State.evolves_lanePostNotice (w0 := w) (by simp [State.work_setWork]) ⟨rfl, fun _ => id⟩
          (fun _ _ => rfl) _
      unfold State.changeTerm
      split
      · exact .head seized (posts _)
      · refine .head seized (.head (Move.noted t) ?_)
        exact posts (State.bumpSeizure (State.noteChange _ t) i)
  · exact .refl

theorem State.evolves_seizeAll (s : State) : Evolves s s.seizeAll := Evolves.foldl State.evolves_seize _ _

/-- What a lane posts once it has no line notice any more. -/
theorem State.evolves_laneDeparture (s : State) (carried : List LineNotice) (i : LaneNo) :
    Evolves s (s.laneDeparture carried i) := by
  unfold State.laneDeparture
  split
  · exact .refl
  · next w has =>
    split
    · next body queued =>
      have on : s.WorkGoesOn w { w with notice := .absent } := ⟨rfl, fun _ capped => ⟨capped.stage, .inl rfl⟩⟩
      split
      · dsimp only
        split
        · exact State.evolves_lanePostShot has on (fun _ _ => rfl) _
        · exact State.evolves_lanePostShot has on (fun _ _ => rfl) _
        · exact .single (Move.work i w _ has on)
      · exact .refl
    · exact .refl

theorem State.evolves_laneRepostNotice (s : State) (i : LaneNo) : Evolves s (s.laneRepostNotice i) := by
  unfold State.laneRepostNotice
  split
  · exact .refl
  · next w has =>
    split
    · next body waiting =>
      exact State.evolves_lanePostNotice has ⟨rfl, fun _ => id⟩
        (fun _ capped => capped.posting.resolve_left (by simp [waiting])) _
    · exact .refl

theorem State.evolves_laneRepostShot (s : State) (i : LaneNo) : Evolves s (s.laneRepostShot i) := by
  unfold State.laneRepostShot
  split
  · exact .refl
  · next w has =>
    split
    · next e waiting =>
      exact State.evolves_lanePostShot has ⟨rfl, fun _ => id⟩
        (fun _ capped => capped.posting.resolve_right (by simp [waiting])) _
    · exact .refl

theorem State.evolves_lanePlaced (s : State) (i : LaneNo) (cycle : CycleNo) (kind : GrantKind) :
    Evolves s (s.lanePlaced i cycle kind) := by
  unfold State.lanePlaced
  split
  · exact .refl
  · next w has =>
    split
    · next queued =>
      refine .single (Move.work i w _ has ⟨rfl, fun _ capped => ⟨capped.stage, .inl ?_⟩⟩)
      exact capped.posting.resolve_right (by simp [queued])
    · exact .refl

/-! ### Settling (R123) -/

/-- The lane's grant settles: what the lane works with next has its tag, no line notice and no one-shot. -/
structure State.Settling (s : State) (i : LaneNo) (w0 w : LaneWork) : Prop where
  has : s.work i = some w0
  tag : w.tag = w0.tag
  notice : w0.Capped → w.notice = .absent
  shot : w.shot = .absent

/-- The counts of a stage are within the ranges of R118. -/
def Stage.Capped : Stage → Prop
  | .offer left => 1 ≤ left ∧ left ≤ 3
  | .probe p => p.Capped
  | .trim left _ => 1 ≤ left ∧ left ≤ 2

theorem LaneWork.Capped.stage_capped {w : LaneWork} (h : w.Capped) : w.stage.Capped := by
  have capped := h.stage
  unfold Stage.Capped
  split at capped <;> simp_all

theorem LaneWork.capped_of_stage {w : LaneWork} (stage : w.stage.Capped) (posting : w.notice = .absent ∨ w.shot = .absent) :
    w.Capped := by
  refine ⟨?_, posting⟩
  unfold Stage.Capped at stage
  split <;> simp_all

theorem State.Settling.goesOn {s : State} {i : LaneNo} {w0 w : LaneWork} (h : s.Settling i w0 w) (held : HeldGrant)
    (fail : Option FailKind) {stage : Stage} (capped : s.SettingsInRange → w0.Capped → stage.Capped) :
    s.WorkGoesOn w0 { w with stage := stage, lastFailure := fail, held := held } :=
  ⟨h.tag, fun settings range => LaneWork.capped_of_stage (capped settings range) (.inr h.shot)⟩

theorem State.evolves_postProbe {s : State} {i : LaneNo} {w0 w : LaneWork} {p : ProbeWork} (h : s.Settling i w0 w)
    (capped : s.SettingsInRange → w0.Capped → p.Capped) : Evolves s (s.postProbe i w p) :=
  State.evolves_lanePostShot h.has (h.goesOn w.held w.lastFailure (stage := .probe p) capped) (fun _ => h.notice) _

/-- The counts of a lane that has just settled a probe: `remaining` may have come to 0. -/
structure ProbeWork.Counted (p : ProbeWork) : Prop where
  count : 1 ≤ p.count ∧ p.count ≤ 8
  remaining : p.remaining ≤ 8
  extensions : p.extensions ≤ 2
  misses : p.misses ≤ 2
  mismatches : p.mismatches ≤ 1
  echoes : p.echoes.length + p.remaining ≤ p.count + p.extensions
  levels : p.levels.length ≤ p.echoes.length

theorem ProbeWork.Capped.counted {p : ProbeWork} (h : p.Capped) : p.Counted :=
  { h with remaining := h.remaining.2 }

theorem State.evolves_laneCompute {s : State} {i : LaneNo} {w0 w : LaneWork} (settling : s.Settling i w0 w)
    (p : ProbeWork) : Evolves s (s.laneCompute i w p) := by
  unfold State.laneCompute
  split
  · next lost => exact State.evolves_freeLane_of_none settling.has settling.tag lost
  · next h trim engaged =>
    obtain ⟨held, phase⟩ := State.engagedTo_some engaged
    dsimp only
    split
    · next reason _ =>
      have stored := Move.put w.tag h { h with level := levelStored (computeOutcome s.line.settings (s.profileOf h) p) p h.level }
        held ⟨rfl, rfl, rfl, Iff.rfl, id, fun _ => id⟩
      exact .head stored (State.evolves_laneFail (s := s.putTerm _ _) settling.has settling.tag reason)
    · next echo _ =>
      have stored := Move.put w.tag h
        { h with
          level := levelStored (computeOutcome s.line.settings (s.profileOf h) p) p h.level
          phase := .engaged i (some ⟨echo, (s.line.settings.ref : Int) - echo⟩) }
        held ⟨rfl, rfl, by simp [Terminal.lane, phase], by simp [phase], by simp [Terminal.park, phase], fun _ _ => trivial⟩
      have capped : LaneWork.Capped { w with stage := .trim 2 none, lastFailure := none } :=
        LaneWork.capped_of_stage ⟨by decide, by decide⟩ (.inr settling.shot)
      exact .head stored (State.evolves_lanePostNotice (s := s.putTerm _ _) (w0 := w0)
        (w := { w with stage := .trim 2 none, lastFailure := none }) settling.has ⟨settling.tag, fun _ _ => capped⟩ (fun _ _ => settling.shot) _)

theorem State.evolves_probeGoOn {s : State} {i : LaneNo} {w0 w : LaneWork} {p : ProbeWork} (h : s.Settling i w0 w)
    (counted : w0.Capped → p.Counted) : Evolves s (s.probeGoOn i w p) := by
  unfold State.probeGoOn
  split
  · next some_left =>
    exact State.evolves_postProbe h fun _ range =>
      { counted range with remaining := ⟨some_left, (counted range).remaining⟩ }
  split
  · next none_left extends_ =>
    obtain ⟨_, few⟩ := extends_
    refine State.evolves_postProbe h fun _ range => ?_
    have c := counted range
    have echoes := c.echoes
    exact { c with
      remaining := ⟨le_rfl, Nat.le_add_left 1 7⟩, extensions := few, echoes := by simp only; omega }
  · exact State.evolves_laneCompute h p

theorem State.Settling.restage {s : State} {i : LaneNo} {w0 w : LaneWork} (h : s.Settling i w0 w) (stage : Stage)
    (fail : Option FailKind) : s.Settling i w0 { w with stage := stage, lastFailure := fail } :=
  ⟨h.has, h.tag, h.notice, h.shot⟩

theorem State.evolves_probeFailure {s : State} {i : LaneNo} {w0 w : LaneWork} {p : ProbeWork} (h : s.Settling i w0 w)
    (counted : w0.Capped → p.Counted) (kind : FailKind) : Evolves s (s.probeFailure i w p kind) := by
  unfold State.probeFailure
  dsimp only
  split
  · exact State.evolves_laneFail h.has h.tag _
  · next few =>
    exact State.evolves_probeGoOn (h.restage _ _) fun range => { counted range with misses := by simp only; omega }

theorem ProbeWork.counted_valid {p : ProbeWork} (h : p.Capped) (ls : LineSettings) (r : BurstResult)
    (answer : Option CaptureAnswer) : (p.valid ls r answer).Counted := by
  have echoes := h.echoes
  have remaining := h.remaining
  have levels := h.levels
  refine { h with remaining := ?_, misses := Nat.zero_le _, echoes := ?_, levels := ?_ }
  · simp only [ProbeWork.valid]; omega
  · simp only [ProbeWork.valid, List.length_append, List.length_cons, List.length_nil]; omega
  · simp only [ProbeWork.valid]
    split <;> simp only [List.length_append, List.length_cons, List.length_nil] <;> omega

theorem State.evolves_settleProbe {s : State} {i : LaneNo} {w0 w : LaneWork} {p : ProbeWork} (h : s.Settling i w0 w)
    (capped : w0.Capped → p.Capped) (held : HeldGrant) (outcome : CloseOutcome) :
    Evolves s (s.settleProbe i w p held outcome) := by
  have counted (range : w0.Capped) : p.Counted := (capped range).counted
  unfold State.settleProbe
  split
  · split
    · next r _ =>
      split
      · exact State.evolves_probeGoOn (h.restage _ _) fun range => ProbeWork.counted_valid (capped range) _ _ _
      · dsimp only
        split
        · exact State.evolves_laneFail h.has h.tag _
        · next few =>
          refine State.evolves_probeFailure (p := { p with mismatches := p.mismatches + 1 }) h (fun range => ?_) _
          exact { counted range with mismatches := by simp only; omega }
    · exact State.evolves_probeFailure h counted _
  · exact State.evolves_probeFailure h counted _
  · exact State.evolves_laneFail h.has h.tag _
  · exact State.evolves_probeFailure h counted _

theorem State.evolves_enterProbe {s : State} {i : LaneNo} {w0 w : LaneWork} (h : s.Settling i w0 w)
    (held : (s.term w.tag).isSome) : Evolves s (s.enterProbe i w) := by
  obtain ⟨x, hx⟩ := Option.isSome_iff_exists.mp held
  unfold State.enterProbe
  rw [hx]
  refine State.evolves_postProbe (h.restage _ _) fun settings _ => ?_
  have probes := (settings.profiles x.profile).probes
  exact ⟨probes, probes, Nat.zero_le _, Nat.zero_le _, Nat.zero_le _, by simp [State.profileOf], le_rfl⟩

theorem State.evolves_offerFailure {s : State} {i : LaneNo} {w0 w : LaneWork} (h : s.Settling i w0 w) {attempts : Nat}
    (few : w0.Capped → attempts ≤ 3) (kind : FailKind) : Evolves s (s.offerFailure i w attempts kind) := by
  unfold State.offerFailure
  dsimp only
  split
  · exact State.evolves_laneFail h.has h.tag _
  · next left =>
    have on := h.goesOn w.held (some kind) (stage := .offer (attempts - 1)) fun _ range => by
      have := few range; simp only [Stage.Capped]; omega
    split
    · exact State.evolves_lanePostNotice h.has on (fun _ _ => h.shot) _
    · exact .single (Move.work i w0 _ h.has on)

theorem State.evolves_settleOffer {s : State} {i : LaneNo} {w0 w : LaneWork} (h : s.Settling i w0 w) {attempts : Nat}
    (few : w0.Capped → attempts ≤ 3) (held : HeldGrant) (outcome : CloseOutcome) :
    Evolves s (s.settleOffer i w attempts held outcome) := by
  unfold State.settleOffer
  split
  · dsimp only
    split
    · next echoed =>
      obtain ⟨there, same⟩ := echoed
      rw [same, Option.isSome_map] at there
      exact State.evolves_enterProbe h there
    · exact State.evolves_offerFailure h few _
  · exact State.evolves_offerFailure h few _
  · exact State.evolves_offerFailure h few _

theorem State.evolves_trimFailure {s : State} {i : LaneNo} {w0 w : LaneWork} (h : s.Settling i w0 w) {attempts : Nat}
    (few : w0.Capped → attempts ≤ 2) (last : Option SettledTrim) (kind : FailKind) :
    Evolves s (s.trimFailure i w attempts last kind) := by
  unfold State.trimFailure
  dsimp only
  split
  · exact State.evolves_laneFail h.has h.tag _
  · next left =>
    have on := h.goesOn w.held (some kind) (stage := .trim (attempts - 1) last) fun _ range => by
      have := few range; simp only [Stage.Capped]; omega
    split
    · exact State.evolves_lanePostNotice h.has on (fun _ _ => h.shot) _
    · exact .single (Move.work i w0 _ h.has on)

theorem State.evolves_settleTrim {s : State} {i : LaneNo} {w0 w : LaneWork} (h : s.Settling i w0 w) {attempts : Nat}
    (few : w0.Capped → attempts ≤ 2) (cycle : CycleNo) (held : HeldGrant) (outcome : CloseOutcome) :
    Evolves s (s.settleTrim i w attempts cycle held outcome) := by
  have restaged (last : Option SettledTrim) := h.restage (.trim attempts last) w.lastFailure
  unfold State.settleTrim
  dsimp only
  split
  · split
    · exact State.evolves_laneComplete h.has h.tag
    · exact State.evolves_trimFailure (restaged _) few _ _
  · exact State.evolves_trimFailure (restaged _) few _ _
  · exact State.evolves_laneFail h.has h.tag _
  · exact State.evolves_trimFailure (restaged _) few _ _

theorem State.evolves_settleIfDue {s : State} {i : LaneNo} {w : LaneWork} {cycle placedCycle : CycleNo} {kind : GrantKind}
    (has : s.work i = some w) (placed : w.shot = .placed placedCycle kind) (held : HeldGrant) :
    Evolves s (s.settleIfDue i w cycle held) := by
  have holds : Move s (s.setWork i (some { w with held := held })) :=
    Move.work i w _ has ⟨rfl, fun _ capped => ⟨capped.stage, capped.posting⟩⟩
  have settling : s.Settling i w { w with shot := .absent, held := .empty } :=
    ⟨has, rfl, fun capped => capped.posting.resolve_right (by simp [placed]), rfl⟩
  unfold State.settleIfDue
  split
  · split
    · exact .single holds
    · dsimp only
      split
      · next a stage =>
        exact State.evolves_settleOffer settling (fun capped => (stage ▸ capped.stage_capped : (Stage.offer a).Capped).2) _ _
      · next p stage =>
        exact State.evolves_settleProbe settling (fun capped => (stage ▸ capped.stage_capped : (Stage.probe p).Capped)) _ _
      · next a last stage =>
        exact State.evolves_settleTrim settling
          (fun capped => (stage ▸ capped.stage_capped : (Stage.trim a last).Capped).2) _ _ _
  · exact .single holds

theorem State.placedWork_some {s : State} {i : LaneNo} {t : Tag} {cycle : CycleNo} {kind : GrantKind} {w : LaneWork}
    (h : s.placedWork i t cycle kind = some w) : s.work i = some w ∧ w.tag = t ∧ w.shot = .placed cycle kind := by
  unfold State.placedWork at h
  split at h
  · next w' has =>
    split at h
    · next found => cases h; exact ⟨has, found⟩
    · cases h
  · cases h

theorem State.evolves_laneBurst (s : State) (i : LaneNo) (t : Tag) (r : BurstResult) :
    Evolves s (s.laneBurst i t r) := by
  unfold State.laneBurst
  split
  · exact .refl
  · next w found =>
    obtain ⟨has, _, placed⟩ := State.placedWork_some found
    split
    · exact State.evolves_laneFail has rfl _
    · split
      · exact State.evolves_laneFail has rfl _
      · exact State.evolves_settleIfDue has placed _

theorem State.evolves_laneClose (s : State) (i : LaneNo) (t : Tag) (cycle : CycleNo) (kind : GrantKind)
    (outcome : CloseOutcome) : Evolves s (s.laneClose i t cycle kind outcome) := by
  unfold State.laneClose
  split
  · exact .refl
  · next w found =>
    obtain ⟨has, _, placed⟩ := State.placedWork_some found
    exact State.evolves_settleIfDue has placed _

theorem State.evolves_laneCapture (s : State) (i : LaneNo) (t : Tag) (cycle : CycleNo) (answer : CaptureAnswer) :
    Evolves s (s.laneCapture i t cycle answer) := by
  unfold State.laneCapture
  split
  · exact .refl
  · next w found =>
    obtain ⟨has, _, placed⟩ := State.placedWork_some found
    split
    · exact State.evolves_settleIfDue has placed _
    · exact .refl

theorem State.evolves_laneSighting (s : State) (i : LaneNo) (t : Tag) (cycle : CycleNo) :
    Evolves s (s.laneSighting i t cycle) := by
  unfold State.laneSighting
  split
  · next w has =>
    split
    · split
      · split
        · exact State.evolves_laneFail has rfl _
        · exact .refl
      · exact .refl
    · exact .refl
  · exact .refl

end Sys2Proof.Machine

namespace Sys2Proof.Machine

/-! ## The Supervisor (chapter 8) -/

theorem State.evolves_parkPowerLoss {s : State} {t : Tag} {h : Terminal} (holds : s.term t = some h)
    (service : h.service.isSome) : Evolves s (s.parkPowerLoss t h) := by
  have detached : s.detach t h = s.supDrop t := by
    unfold Terminal.service at service
    unfold State.detach
    split at service <;> simp_all
  have leaves := s.recordLeaves_parked h .powerLoss fun settings => (settings.profiles h.profile).parkHold
  have parks := State.evolves_leave holds leaves
  rw [detached] at parks
  exact parks

/-- An ACTIVE record stays in service. -/
theorem State.recordGoesOn_of_active {s : State} {h h' : Terminal} {v : Service} (was : h.phase = .active v)
    (serial : h'.serial = h.serial) (listed : h'.listed = h.listed) (service : h'.service.isSome)
    (capped : s.SettingsInRange → v.Capped 14 → h'.phase.Capped) : s.RecordGoesOn h h' := by
  unfold Terminal.service at service
  refine ⟨serial, listed, ?_, ?_, ?_, fun settings range => capped settings (by simpa [was, Phase.Capped] using range)⟩ <;>
    split at service <;> simp_all [Terminal.lane, Terminal.park]

/-- A SILENT record stays in service. -/
theorem State.recordGoesOn_of_silent {s : State} {h h' : Terminal} {v : Service} {since : CycleNo} {grace : Nat}
    (was : h.phase = .silent v since grace)
    (serial : h'.serial = h.serial) (listed : h'.listed = h.listed) (service : h'.service.isSome)
    (capped : s.SettingsInRange → v.Capped 15 → grace ≤ 4095 → h'.phase.Capped) : s.RecordGoesOn h h' := by
  unfold Terminal.service at service
  refine ⟨serial, listed, ?_, ?_, ?_, fun settings range => ?_⟩
  · split at service <;> simp_all [Terminal.lane]
  · split at service <;> simp_all
  · simp [Terminal.park, was]
  · rw [was] at range
    exact capped settings range.1 range.2

theorem State.evolves_parkLost {s : State} {t : Tag} {h : Terminal} {v : Service} {since : CycleNo} {grace : Nat}
    (holds : s.term t = some h) (was : h.phase = .silent v since grace) : Evolves s (s.parkLost t h) := by
  unfold State.parkLost
  refine ((s.evolves_withdrawReturn t).trans (State.evolves_changeTerm (s := s.withdrawReturn t) holds ?_)).trans
    (State.evolves_standDown _ t .lost)
  refine ⟨rfl, rfl, ?_, ?_, ?_, ?_⟩
  · simp [Terminal.lane, was]
  · simp [was]
  · simp [Terminal.park]
  · exact fun settings _ => (settings.profiles h.profile).parkHold

/-! ### Drift (R60 to R62) -/

theorem driftAdd_inRange (ls : LineSettings) (drift d : Int) :
    -4096 ≤ driftAdd ls drift d ∧ driftAdd ls drift d ≤ 4095 :=
  clampInt_mem (by decide) _

theorem zero_inRange : (-4096 : Int) ≤ 0 ∧ (0 : Int) ≤ 4095 := by decide

theorem Service.capped_driftBlockClose {v : Service} {missMax : Nat} (h : { v with drift := 0, bursts := 0 }.Capped missMax)
    (ls : LineSettings) (threshold : Nat) (flags : RecFlags) :
    (driftBlockClose ls threshold v flags).svc.Capped missMax := by
  unfold driftBlockClose
  dsimp only
  split <;> exact ⟨h.miss, zero_inRange, Nat.zero_le _, h.levelOut, h.levelIn, h.corrupt⟩

/-- A drift step keeps the counts of a record in service within their ranges: the eighth burst closes the block. -/
theorem Service.capped_driftStep {v : Service} {missMax : Nat} (h : v.Capped missMax) (ls : LineSettings)
    (threshold : Nat) (cycle : CycleNo) (d : Int) (flags : RecFlags) :
    (driftStep ls threshold cycle d v flags).svc.Capped missMax := by
  unfold driftStep
  dsimp only
  split
  · split
    · refine Service.capped_driftBlockClose ?_ _ _ _
      exact { h with drift := zero_inRange, bursts := Nat.zero_le _ }
    · next few => exact { h with drift := driftAdd_inRange _ _ _, bursts := by simp only at few ⊢; omega }
  · exact h

/-! ### Standing windows (R141 to R143) -/

theorem State.evolves_standingMiss {s : State} {t : Tag} {h : Terminal} {v svc : Service} (holds : s.term t = some h)
    (was : h.phase = .active v) (capped : v.Capped 14 → svc.Capped 14) : Evolves s (s.standingMiss t h svc) := by
  refine State.evolves_changeTerm holds (State.recordGoesOn_of_active was rfl rfl ?_ ?_)
  · dsimp only [Terminal.service]
    by_cases reached : (s.profileOf h).missLimit ≤ svc.miss + 1 <;> simp [reached]
  · intro settings range
    have limit := (settings.profiles h.profile).missLimit.2
    have grace := (settings.profiles h.profile).grace.2
    have miss := (capped range).miss
    dsimp only
    split
    · exact ⟨{ capped range with miss := by simp only; omega }, grace⟩
    · next below =>
      simp only [State.profileOf] at below
      exact { capped range with miss := by simp only; omega }

theorem State.evolves_standingClean {s : State} {t : Tag} {h : Terminal} {v : Service} (holds : s.term t = some h)
    (was : h.phase = .active v) (r : BurstResult) : Evolves s (s.standingClean t h v r) := by
  unfold State.standingClean
  dsimp only
  have changed := State.evolves_changeTerm holds (State.recordGoesOn_of_active (s := s) (h' := { h with
      flags := (driftStep s.line.settings (s.profileOf h).threshold r.cycle (deviationOf r.position r.grant.point)
        { v with miss := 0 } { h.flags with rxLow := r.rxLow }).flags
      phase := .active (driftStep s.line.settings (s.profileOf h).threshold r.cycle
        (deviationOf r.position r.grant.point) { v with miss := 0 } { h.flags with rxLow := r.rxLow }).svc })
    was rfl rfl rfl fun _ range => Service.capped_driftStep (v := { v with miss := 0 }) { range with miss := Nat.zero_le _ } _ _ _ _ _)
  split
  · exact changed.trans (State.evolves_postNudge _ _ _)
  · exact changed

theorem State.evolves_standingClose (s : State) (t : Tag) (outcome : CloseOutcome) :
    Evolves s (s.standingClose t outcome) := by
  unfold State.standingClose
  have emptied : Evolves s (s.updSup t fun x => { x with held := none }) := .single (Move.sup t _ (.inl rfl))
  dsimp only
  split
  · next h holds =>
    split
    · next v was =>
      refine emptied.trans ?_
      split
      · exact State.evolves_standingClean holds was _
      · exact State.evolves_changeTerm holds (State.recordGoesOn_of_active was rfl rfl rfl
          fun _ range => { range with miss := Nat.zero_le _ })
      · exact State.evolves_standingMiss holds was fun range => { range with corrupt := satInc_le _ _ }
      · exact State.evolves_standingMiss holds was id
    · exact emptied
  · exact emptied

/-! ### Burst results, grace and nudges -/

theorem State.evolves_supBurst (s : State) (t : Tag) (r : BurstResult) : Evolves s (s.supBurst t r) := by
  unfold State.supBurst
  split
  · next h holds =>
    split
    · next v was =>
      split
      · exact State.evolves_parkPowerLoss holds (by simp [Terminal.service, was])
      split
      · exact .single (Move.sup t _ (.inr (.inr ⟨h, holds, by simp [Terminal.park, was]⟩)))
      · exact .refl
    · next v since grace was =>
      split
      · exact State.evolves_parkPowerLoss holds (by simp [Terminal.service, was])
      split
      · split
        · exact (s.evolves_withdrawReturn t).trans (State.evolves_changeTerm (s := s.withdrawReturn t) holds
            (State.recordGoesOn_of_silent was rfl rfl rfl fun _ range _ =>
              { range with miss := Nat.zero_le _, drift := zero_inRange, bursts := Nat.zero_le _ }))
        · exact State.evolves_changeTerm holds (State.recordGoesOn_of_silent was rfl rfl rfl
            fun _ range grace => ⟨{ range with corrupt := satInc_le _ _ }, grace⟩)
        · exact .refl
      · exact .refl
    · exact .refl
  · exact .refl

theorem Service.capped_nudged {v : Service} {missMax : Nat} (h : v.Capped missMax) (cycle : CycleNo) :
    (v.nudged cycle).Capped missMax := by
  unfold Service.nudged
  split
  · exact { h with }
  · exact h

theorem State.evolves_nudgeDeparture (s : State) (cycle : CycleNo) (t : Tag) :
    Evolves s (s.nudgeDeparture cycle t) := by
  unfold State.nudgeDeparture
  split
  · next h holds =>
    split
    · next v was =>
      exact .single (Move.put t h _ holds (State.recordGoesOn_of_active was rfl rfl rfl
        fun _ range => Service.capped_nudged range _))
    · next v since grace was =>
      exact .single (Move.put t h _ holds (State.recordGoesOn_of_silent was rfl rfl rfl
        fun _ range grace => ⟨Service.capped_nudged range _, grace⟩))
    · exact .refl
  · exact .refl

theorem State.evolves_returnPlaced (s : State) (t : Tag) : Evolves s (s.returnPlaced t) := by
  unfold State.returnPlaced
  split
  · next h holds =>
    split
    · next v since grace was =>
      split
      · exact .single (Move.put t h _ holds (State.recordGoesOn_of_silent was rfl rfl rfl
          fun _ range grace => ⟨{ range with }, grace⟩))
      · exact .refl
    · exact .refl
  · exact .refl

theorem Service.capped_levelRuns {v : Service} {missMax : Nat} (h : v.Capped missMax) (inside : Bool)
    (flags : RecFlags) : (levelRuns inside v flags).1.Capped missMax := by
  unfold levelRuns
  split
  · exact { h with levelIn := satInc_le _ _, levelOut := Nat.zero_le _ }
  · exact { h with levelOut := satInc_le _ _, levelIn := Nat.zero_le _ }

theorem State.evolves_supCapture (s : State) (t : Tag) (answer : CaptureAnswer) :
    Evolves s (s.supCapture t answer) := by
  unfold State.supCapture
  split
  · next h x holds =>
    split
    · next v was =>
      exact State.evolves_changeTerm holds (State.recordGoesOn_of_active was rfl rfl rfl
        fun _ range => Service.capped_levelRuns range _ _)
    · exact .refl
  · exact .refl

theorem State.evolves_graceTick (s : State) (t : Tag) : Evolves s (s.graceTick t) := by
  unfold State.graceTick
  split
  · next h holds =>
    split
    · next v since grace was =>
      dsimp only
      split
      · exact State.evolves_parkLost holds was
      · exact .single (Move.put t h _ holds (State.recordGoesOn_of_silent was rfl rfl rfl
          fun _ range few => ⟨range, (Nat.sub_le _ _).trans few⟩))
    · exact .refl
  · exact .refl

theorem State.evolves_returnDue (s : State) (t : Tag) : Evolves s (s.returnDue t) := by
  unfold State.returnDue
  split
  · next h holds =>
    split
    · next v since grace was =>
      split
      · have asked := Move.put t h { h with phase := .silent { v with returnOut := true } since grace } holds
          (State.recordGoesOn_of_silent was rfl rfl rfl fun _ range few => ⟨{ range with }, few⟩)
        exact .head asked (State.evolves_postReturn _ t)
      · exact .refl
    · exact .refl
  · exact .refl

/-! ## The Level Converter (chapter 9) -/

/-- A converter whose calibration and offset stay as they are. -/
theorem State.converterGoesOn_of_same (s : State) {v : Converter} (offset : v.offset = s.conv.offset)
    (curve : v.curve = s.conv.curve) (calib : v.calib = s.conv.calib) : s.ConverterGoesOn v :=
  ⟨fun settings => offset ▸ settings.offset, curve, fun settings => calib ▸ settings.calib, fun none => calib ▸ none⟩

theorem State.evolves_setConvState (s : State) (x : ConvState) : Evolves s (s.setConvState x) :=
  .single (Move.conv _ (s.converterGoesOn_of_same rfl rfl rfl))

theorem State.evolves_answerCapture (s : State) (owner : Owner) (t : Tag) (cycle : CycleNo) (answer : CaptureAnswer) :
    Evolves s (s.answerCapture owner t cycle answer) := by
  unfold State.answerCapture
  split
  · exact s.evolves_laneCapture _ _ _ _
  · exact s.evolves_supCapture _ _
  · exact .refl

theorem State.evolves_refuseCapture (s : State) (owner : Owner) (t : Tag) (cycle : CycleNo) :
    Evolves s (s.refuseCapture owner t cycle) :=
  .head (Move.conv { s.conv with refused := s.conv.refused + 1 } (s.converterGoesOn_of_same rfl rfl rfl))
    (State.evolves_answerCapture s.countRefused _ _ _ _)

theorem State.evolves_requestCapture (s : State) (owner : Owner) (t : Tag) (cycle : CycleNo) (begun : Tick) :
    Evolves s (s.requestCapture owner t cycle begun) := by
  unfold State.requestCapture
  dsimp only
  split
  · split
    · exact s.evolves_setConvState _
    · exact s.evolves_refuseCapture _ _ _
  · exact s.evolves_refuseCapture _ _ _

/-- The end of a calibration removes its record. -/
theorem State.evolves_endCalibration (s : State) (result : CalibResult) : Evolves s (s.endCalibration result) := by
  have ended := Move.conv (s := s) { s.conv with lastCalib := some result, calib := none }
    ⟨fun settings => settings.offset, rfl, fun _ _ h => (Option.not_mem_none _ h).elim, fun _ => rfl⟩
  exact .head ended (.head (Move.slot false (fun h => nomatch h)) (.single (Move.kinds _)))

theorem State.evolves_failCalibration (s : State) (c : Calibration) (cause : CalibCause) :
    Evolves s (s.failCalibration c cause) :=
  s.evolves_endCalibration _

theorem State.evolves_failAttempt {s : State} {c : Calibration} (has : s.conv.calib = some c) (cause : CalibCause) :
    Evolves s (s.failAttempt c cause) := by
  unfold State.failAttempt
  split
  · next few =>
    have waits := Move.conv (s := s) { s.conv with calib := some { c with phase := .waiting, cause := some cause } }
      ⟨fun settings => settings.offset, rfl, ?_, fun none => absurd (has.symm.trans none) (by simp)⟩
    · exact .head waits (.single (Move.slot true fun _ => by simp))
    · rintro settings x ⟨⟩
      obtain ⟨target, attempts, _⟩ := settings.calib c has
      exact ⟨target, attempts, fun _ => few⟩
  · exact s.evolves_failCalibration _ _

theorem clampInt_even {v : Int} (even : v % 2 = 0) : (clampInt (-14) 14 v) % 2 = 0 := by
  unfold clampInt; (repeat' split) <;> omega

theorem evenTowardZero_even (v : Int) : evenTowardZero v % 2 = 0 := by
  unfold evenTowardZero; (repeat' split) <;> omega

theorem offsetOf_inRange (v : Int) : -14 ≤ offsetOf v ∧ offsetOf v ≤ 14 ∧ offsetOf v % 2 = 0 :=
  ⟨(clampInt_mem (by decide) _).1, (clampInt_mem (by decide) _).2, clampInt_even (evenTowardZero_even v)⟩

theorem State.evolves_succeedAttempt (s : State) (c : Calibration) (code : BitVec 12) :
    Evolves s (s.succeedAttempt c code) := by
  have set (v : Int) : Move s (s.setOffset (offsetOf v)) :=
    Move.conv { s.conv with offset := offsetOf v }
      ⟨fun _ => offsetOf_inRange v, rfl, fun settings => settings.calib, id⟩
  exact .head (set _) (State.evolves_endCalibration _ _)

theorem State.evolves_intrude (s : State) (cycle : CycleNo) : Evolves s (s.intrude cycle) := by
  unfold State.intrude
  split
  · exact .refl
  · next c has =>
    split
    · split
      · exact State.evolves_failAttempt has _
      · exact .refl
    · exact .refl

theorem State.evolves_calibFrameEnd (s : State) (cycle : CycleNo) : Evolves s (s.calibFrameEnd cycle) := by
  unfold State.calibFrameEnd
  split
  · exact .refl
  · split
    · split
      · exact s.evolves_succeedAttempt _ _
      · exact .refl
    · exact .refl

/-- A calibration that goes on with the same target and attempts, in a phase that is not WAITING. -/
theorem State.evolves_setCalib {s : State} {c c' : Calibration} (has : s.conv.calib = some c)
    (target : c'.target = c.target) (attempts : s.SettingsInRange → c'.attempts ≤ 5) (phase : c'.phase ≠ .waiting) :
    Evolves s (s.setCalib (some c')) := by
  refine .single (Move.conv { s.conv with calib := some c' }
    ⟨fun settings => settings.offset, rfl, ?_, fun none => absurd (has.symm.trans none) (by simp)⟩)
  rintro settings x ⟨⟩
  exact ⟨target ▸ (settings.calib c has).1, attempts settings, fun waiting => absurd waiting phase⟩

theorem State.evolves_issueSlot (s : State) (cycle : CycleNo) (start : Tick) (slot : Option Slot) :
    Evolves s (s.issueSlot cycle start slot) := by
  unfold State.issueSlot
  split
  · next c span has =>
    split
    · next waiting =>
      refine State.evolves_setCalib has rfl (fun settings => ?_) (by simp)
      exact (settings.calib c has).2.2 waiting
    · exact .refl
  · exact .refl

theorem State.evolves_holdDarkCode (s : State) (code : BitVec 12) : Evolves s (s.holdDarkCode code) := by
  unfold State.holdDarkCode
  split
  · next c has =>
    split
    · exact State.evolves_setCalib has rfl (fun settings => (settings.calib c has).2.1) (by simp)
    · exact .refl
  · exact .refl

theorem State.evolves_converterLineDown (s : State) : Evolves s s.converterLineDown := by
  unfold State.converterLineDown
  dsimp only
  have marked (x : ConvState) : Evolves s ((s.setConvState x).setSlotWanted false) :=
    (s.evolves_setConvState x).tail (Move.slot false (fun h => nomatch h))
  split
  · exact (marked _).trans (State.evolves_failCalibration _ _ _)
  · exact marked _

theorem State.evolves_darkSlotStart (s : State) : Evolves s s.darkSlotStart := by
  unfold State.darkSlotStart
  split
  · next c has =>
    split
    · next slot placed =>
      have ticked : Move s (s.setTick slot.startTick) := Move.tick _
      unfold State.startSlot
      split
      · refine .head ticked (.single (Move.conv (s := s.setTick slot.startTick)
          { s.conv with state := .calibrating (s.conv.darkSample slot), calib := some { c with phase := .sampled slot none } }
          ⟨fun settings => settings.offset, rfl, ?_, fun none => absurd (has.symm.trans none) (by simp)⟩))
        rintro settings x ⟨⟩
        obtain ⟨target, attempts, _⟩ := settings.calib c has
        exact ⟨target, attempts, fun h => nomatch h⟩
      · exact .head ticked (State.evolves_failAttempt (s := s.setTick slot.startTick) has _)
      · exact .head ticked (State.evolves_failAttempt (s := s.setTick slot.startTick) has _)
      · exact .refl
    · exact .refl
  · exact .refl

/-- A write of the tick and of the converter's state. -/
theorem State.evolves_tick_convState (s : State) (x : Tick) (v : ConvState) :
    Evolves s { s with line.tick := x, conv.state := v } :=
  .head (Move.tick x) (State.evolves_setConvState (s.setTick x) v)

theorem State.evolves_endSampleWindow (s : State) : Evolves s s.endSampleWindow := by
  unfold State.endSampleWindow
  split
  · exact s.evolves_tick_convState _ _
  · split
    · exact .refl
    · exact s.evolves_tick_convState _ _
  · exact .refl

theorem State.evolves_endConversion (s : State) (raw : BitVec 12) : Evolves s (s.endConversion raw) := by
  unfold State.endConversion
  split
  · unfold State.endCapture
    dsimp only
    split
    · exact s.evolves_tick_convState _ _
    · exact (s.evolves_tick_convState _ _).trans (State.evolves_answerCapture _ _ _ _ _)
  · split
    · exact (s.evolves_tick_convState _ _).trans (State.evolves_holdDarkCode _ _)
    · exact .refl
  · exact .refl

/-! ## The Burst Intake (chapter 5) -/

theorem List.getLast?_modify {α : Type} (f : α → α) (k : Nat) (l : List α) {x : α} (h : x ∈ (l.modify k f).getLast?) :
    ∃ y ∈ l.getLast?, x = y ∨ x = f y := by
  rw [Option.mem_def, List.getLast?_eq_getElem?, List.length_modify, List.getElem?_modify] at h
  obtain ⟨y, at_, rfl⟩ := Option.map_eq_some_iff.mp h
  refine ⟨y, by rw [Option.mem_def, List.getLast?_eq_getElem?]; exact at_, ?_⟩
  split <;> simp

/-- A write of a window of a stored plan. -/
theorem State.evolves_updateWindow (s : State) (k j : Nat) (f : Window → Window) :
    Evolves s (s.updatePlan k fun p => p.updateWindow j f) := by
  refine .single (Move.store _ (by simp) fun p last => ?_)
  obtain ⟨q, hq, rfl | rfl⟩ := List.getLast?_modify _ _ _ last
  · exact ⟨p, hq, rfl, rfl, rfl⟩
  · exact ⟨q, hq, rfl, rfl, rfl⟩

theorem State.evolves_deliverBurst (s : State) (g : Grant) (r : BurstResult) : Evolves s (s.deliverBurst g r) := by
  unfold State.deliverBurst
  split
  · exact s.evolves_laneBurst _ _ _
  · exact s.evolves_supBurst _ _
  · exact .refl

theorem State.evolves_deliverClose (s : State) (g : Grant) (cycle : CycleNo) (garble : Bool) (outcome : CloseOutcome) :
    Evolves s (s.deliverClose g cycle garble outcome) := by
  unfold State.deliverClose
  split
  · exact s.evolves_censusClose _
  · exact s.evolves_laneClose _ _ _ _ _
  · split
    · exact s.evolves_standingClose _ _
    · exact .refl
  · exact .refl

theorem State.evolves_sight (s : State) (k : Nat) (plan : StoredPlan) (r : Report) : Evolves s (s.sight k plan r) := by
  unfold State.sight
  split
  · exact .refl
  split
  · exact .refl
  split
  · exact s.evolves_updateWindow _ _ _
  · unfold State.deliverSighting
    split
    · exact s.evolves_laneSighting _ _ _
    · exact .refl
  · exact .refl

theorem State.evolves_stray (s : State) (k : Nat) (plan : StoredPlan) (r : Report) : Evolves s (s.stray k plan r) :=
  .head Move.strayBurst (State.evolves_sight _ k plan r)

theorem State.evolves_censusBurst {s : State} (running : s.line.state = .running) (k j : Nat) (plan : StoredPlan)
    (g : Grant) (r : Report) (p : Nat) : Evolves s (s.censusBurst k j plan g r p) := by
  unfold State.censusBurst
  split
  · exact s.evolves_updateWindow _ _ _
  · split
    · split
      · exact State.evolves_candidate running _ _ _
      · exact s.evolves_stray _ _ _
    · exact s.evolves_stray _ _ _

theorem State.evolves_matchBurst (s : State) (k j : Nat) (plan : StoredPlan) (g : Grant) (r : Report) (p : Nat) :
    Evolves s (s.matchBurst k j plan g r p) := by
  unfold State.matchBurst
  dsimp only
  have delivered (f : Window → Window) (x : BurstResult) :
      Evolves s ((s.updatePlan k fun p => p.updateWindow j f).deliverBurst g x) :=
    (s.evolves_updateWindow k j f).trans (State.evolves_deliverBurst _ _ _)
  split
  · exact (delivered _ _).trans (State.evolves_requestCapture _ _ _ _ _)
  · exact delivered _ _

theorem State.evolves_judge {s : State} (running : s.line.state = .running) (r : Report) : Evolves s (s.judge r) := by
  have placed (k : Nat) (plan : StoredPlan) (p : Nat) : Evolves s (s.placeBurst k plan r p) := by
    unfold State.placeBurst
    split
    · exact s.evolves_stray _ _ _
    split
    · exact s.evolves_stray _ _ _
    split
    · split
      · exact State.evolves_censusBurst running _ _ _ _ _ _
      · exact s.evolves_matchBurst _ _ _ _ _ _
    · exact s.evolves_stray _ _ _
  unfold State.judge
  dsimp only
  split
  · exact .single Move.strayBurst
  split
  · exact .single Move.strayBurst
  split
  · exact (placed _ _ _).trans (State.evolves_intrude _ _)
  · exact placed _ _ _

theorem State.evolves_closeNext (s : State) : Evolves s s.closeNext := by
  unfold State.closeNext
  split
  · exact .refl
  split
  · exact .refl
  split
  · exact .refl
  · exact .head (Move.tick _) ((State.evolves_updateWindow _ _ _ _).trans (State.evolves_deliverClose _ _ _ _ _))

theorem State.evolves_closeMany (n : Nat) (s : State) : Evolves s (s.closeMany n) := by
  induction n generalizing s with
  | zero => exact .refl
  | succ n ih => exact s.evolves_closeNext.trans (ih _)

theorem State.evolves_endFrame (s : State) : Evolves s s.endFrame := by
  unfold State.endFrame
  split
  · refine ((s.evolves_closeMany _).tail (Move.tick _)).trans ((State.evolves_calibFrameEnd _ _).tail
      (Move.store _ (by simp) fun p last => ⟨p, ?_, rfl, rfl, rfl⟩))
    rw [List.getLast?_tail] at last
    split at last
    · cases last
    · exact last
  · exact .refl

/-! ## The Burst Planner (chapter 4) -/

theorem State.evolves_tellPlaced (cycle : CycleNo) (s : State) (e : OneShot) : Evolves s (s.tellPlaced cycle e) := by
  unfold State.tellPlaced
  split
  · exact s.evolves_lanePlaced _ _ _
  · exact s.evolves_returnPlaced _
  · exact .refl

theorem State.evolves_placeGap {s : State} (running : s.line.state = .running) (cycle : CycleNo) (len : Nat)
    (p : Placing) : Evolves s (s.placeGap cycle len p).1 := by
  unfold State.placeGap
  dsimp only
  split
  · next n rest due stack =>
    have searching : s.census.state = .searching := by
      simp only [Census.gapDue, Bool.and_eq_true, decide_eq_true_eq] at due
      exact due.1.1.1
    split
    · refine .single (Move.census _ ⟨rfl, fun _ h => ⟨{ h.counters with gaps := passInc_le _ }, h.wait, h.passes⟩,
        fun _ => .inr running, fun _ stopped => nomatch (searching.symm.trans stopped)⟩ fun h => ?_)
      have ordered := h.ordered
      have masked := h.masked
      rw [stack] at ordered masked
      obtain ⟨below, within, rising, above⟩ := ordered.rest
      exact { h with
        stopped := fun stopped => nomatch searching.symm.trans stopped
        stopping := fun stopping => nomatch searching.symm.trans stopping
        searching := fun _ => .inr rfl
        ordered := below
        outstanding := by rintro o ⟨⟩; exact ⟨within, rising, above⟩
        depth := below.length_le
        masked := fun m hm => masked m (List.mem_cons_of_mem _ hm)
        outMasked := by rintro o ⟨⟩; exact masked n List.mem_cons_self }
    · exact .refl
  · exact .refl

theorem State.evolves_placeSlot (s : State) (len : Nat) (p : Placing) : Evolves s (s.placeSlot len p).1 := by
  unfold State.placeSlot
  dsimp only
  split
  · exact .single (Move.slot false (fun h => nomatch h))
  · exact .refl

theorem State.evolves_countOverrun (s : State) (cycle : CycleNo) (skipped : Bool) :
    Evolves s (s.countOverrun cycle skipped) := by
  unfold State.countOverrun
  split
  · exact .head (Move.overruns _ _ (satInc_le _ _)) (.single (Move.kinds _))
  · exact .refl

theorem State.evolves_repostShots (s : State) : Evolves s s.repostShots :=
  (Evolves.foldl State.evolves_laneRepostShot _ _).trans (Evolves.foldl State.evolves_repostReturn _ _)

theorem Placing.fits_grants {p : Placing} {len size : Nat} (h : p.fits len size = true) : p.grants.length < 64 := by
  unfold Placing.fits at h; simp_all

theorem Placing.length_add (p : Placing) (guard : Nat) (g : Grant) :
    (p.add guard g).grants.length = p.grants.length + 1 := by
  simp [Placing.add]

theorem placeStanding_grants {ls : LineSettings} {len : Nat} (l : List (Tag × Nat)) {p : Placing}
    (h : p.grants.length ≤ 64) : (placeStanding ls len l p).1.grants.length ≤ 64 := by
  induction l generalizing p with
  | nil => exact h
  | cons x l ih =>
    obtain ⟨t, n⟩ := x
    unfold placeStanding
    split
    · next fits => exact ih (by rw [Placing.length_add]; exact Placing.fits_grants fits)
    · exact ih h

theorem placeShots_grants {ls : LineSettings} {len : Nat} (l : List OneShot) {p : Placing}
    (h : p.grants.length ≤ 64) : (placeShots ls len l p).1.grants.length ≤ 64 := by
  induction l generalizing p with
  | nil => exact h
  | cons e l ih =>
    unfold placeShots
    split
    · next fits => exact ih (by rw [Placing.length_add]; exact Placing.fits_grants fits)
    · exact h

/-- The one-shot entries that stay are the last of the queue. -/
theorem placeShots_left (ls : LineSettings) (len : Nat) (l : List OneShot) (p : Placing) :
    (placeShots ls len l p).2 <:+ l := by
  induction l generalizing p with
  | nil => exact List.suffix_rfl
  | cons e l ih =>
    unfold placeShots
    split
    · exact (ih _).trans (List.suffix_cons e l)
    · exact List.suffix_rfl

theorem State.placeGap_grants (s : State) (cycle : CycleNo) (len : Nat) {p : Placing} (h : p.grants.length ≤ 64) :
    (s.placeGap cycle len p).2.grants.length ≤ 64 := by
  unfold State.placeGap
  dsimp only
  split
  · split
    · next fits => simp only [Placing.length_add]; exact Placing.fits_grants fits
    · exact h
  · exact h

theorem State.placeSlot_grants (s : State) (len : Nat) (p : Placing) :
    (s.placeSlot len p).2.1.grants = p.grants := by
  unfold State.placeSlot; dsimp only; split <;> rfl

theorem mem_standingTags_le {grants : List Grant} {n : Nat} (h : n ∈ standingTags grants) : n ≤ 128 := by
  obtain ⟨g, _, found⟩ := List.mem_filterMap.mp h
  split at found
  · obtain ⟨t, _, rfl⟩ := Option.map_eq_some_iff.mp found
    exact t.isLt
  · cases found

theorem sweepTarget_le {grants : List Grant} {pointer n : Nat} (h : sweepTarget grants pointer = some n) : n ≤ 128 := by
  unfold sweepTarget at h
  dsimp only at h
  split at h
  · next least => cases h; exact mem_standingTags_le (List.mem_of_mem_filter (List.min?_mem least))
  · exact mem_standingTags_le (List.min?_mem h)

/-- A plan close builds its plan between two runs of moves: the placement, and the postings that are made again. -/
theorem State.buildPlan_evolves {s : State} (running : s.line.state = .running) (cycle : CycleNo) (len : Nat) :
    ∃ u p, Evolves s u ∧ Evolves (u.setBuilt (some p)) (s.buildPlan cycle len) ∧ p.cycle = cycle ∧ p.len = len ∧
      p.grants.length ≤ 64 := by
  unfold State.buildPlan
  dsimp only
  generalize gap : s.placeGap cycle len { grants := [], pos := 0 } = placedGap
  have gapGrants := s.placeGap_grants cycle len (p := { grants := [], pos := 0 }) (Nat.zero_le _)
  have gapEvolves := State.evolves_placeGap running cycle len { grants := [], pos := 0 }
  rw [gap] at gapGrants gapEvolves
  obtain ⟨s1, p1⟩ := placedGap
  dsimp only at gapGrants gapEvolves ⊢
  generalize slot : s1.placeSlot len p1 = placedSlot
  have slotGrants := s1.placeSlot_grants len p1
  have slotEvolves := s1.evolves_placeSlot len p1
  rw [slot] at slotGrants slotEvolves
  obtain ⟨s2, p2, at_⟩ := placedSlot
  dsimp only at slotGrants slotEvolves ⊢
  generalize standing : placeStanding s.line.settings len (s2.dueList cycle) p2 = placedStanding
  have standingGrants := placeStanding_grants (ls := s.line.settings) (len := len) (s2.dueList cycle)
    (slotGrants ▸ gapGrants)
  rw [standing] at standingGrants
  obtain ⟨p3, skipped⟩ := placedStanding
  dsimp only at standingGrants ⊢
  generalize shots : placeShots s.line.settings len s2.planner.shots p3 = placedShots
  have shotGrants := placeShots_grants (ls := s.line.settings) (len := len) s2.planner.shots standingGrants
  have shotsLeft := placeShots_left s.line.settings len s2.planner.shots p3
  rw [shots] at shotGrants shotsLeft
  obtain ⟨p4, left⟩ := placedShots
  dsimp only at shotGrants shotsLeft ⊢
  refine ⟨_, _, ?_, State.evolves_repostShots _, rfl, rfl, by simpa [markSweep] using shotGrants⟩
  refine gapEvolves.trans (slotEvolves.trans ?_)
  refine .head (Move.fewerShots left shotsLeft.sublist) ?_
  refine (State.evolves_countOverrun _ cycle skipped).trans ?_
  generalize List.take _ s2.planner.shots = placed
  refine (Evolves.foldl (State.evolves_tellPlaced cycle) placed _).tail ?_
  refine Move.sweep _ ?_
  cases target : sweepTarget p4.grants s2.planner.sweep with
  | none => exact .inr rfl
  | some n => exact .inl (sweepTarget_le target)

/-! ## The cycle start (chapter 1) -/

theorem State.evolves_departures (s : State) (carried : List LineNotice) : Evolves s (s.departures carried) :=
  (Evolves.foldl (fun x i => x.evolves_laneDeparture carried i) _ _).trans
    (Evolves.foldl (fun x t => x.evolves_nudgeDeparture s.cycleNo t) _ _)

theorem State.evolves_cycleStartPostings (s : State) : Evolves s s.cycleStartPostings :=
  s.evolves_repostRoster.trans ((Evolves.foldl State.evolves_graceTick _ _).trans
    ((Evolves.foldl State.evolves_laneRepostNotice _ _).trans
      ((Evolves.foldl State.evolves_repostNudge _ _).trans (Evolves.foldl State.evolves_returnDue _ _))))

end Sys2Proof.Machine

/-! PROOFS. What one step can do: the effects of the requests (11), and the one induction over the commands that every
invariant uses. -/

namespace Sys2Proof.Machine

/-! ## The effects of the requests (11) -/

/-- An effect of a request, with what its entry has checked. -/
inductive HostMove (s : State) : State → Prop
  | mask (m : NoticeMask) : HostMove s { s with link.mask := m }
  | handler (x : Handler) : HostMove s { s with link.handler := x }
  | settings (a : LineSettings) (dark : s.line.state = .dark) : HostMove s { s with line.settings := a.clamped }
  | pendingLen (n : Nat) : HostMove s { s with line.pendingLen := clampNat 280000 400000 n }
  | light (now : Tick) (dark : s.line.state = .dark) : HostMove s (s.light now)
  | darken : HostMove s s.darken
  | profile (n : ProfileNo) (a : Profile) : HostMove s { s with roster.profiles := s.roster.profiles.set n a.clamped }
  | admission (mode : AdmissionMode) (low high : Nat) (profile : ProfileNo) (bounds : poolBoundsOk low high = true)
      (disjoint : mode = .mixed → s.roster.poolConflict low high = false) :
      HostMove s
        { s with
          roster.mode := mode, roster.poolLow := low, roster.poolHigh := high, roster.openProfile := profile }
  | load (serial : Serial) (tag profile : Nat) : HostMove s (s.loadEntry serial tag profile).1
  | drop (serial : Serial) :
      HostMove s ({ s with roster.expected := s.roster.expected.filter fun e => e.serial != serial }.unlist serial)
  | bar (serial : Serial) (new : serial ∉ s.roster.barred) (room : s.roster.barred.length < 16) :
      HostMove s ({ s with roster.barred := s.roster.barred ++ [serial] }.expel serial)
  | lift (serial : Serial) : HostMove s { s with roster.barred := s.roster.barred.filter fun x => x != serial }
  | clearStrangers : HostMove s s.clearStrangers
  | beginCensus (mode : CensusMode) (interval : Nat) (split pattern mask : Serial)
      (takes : s.line.state.takesCensus = true) (stopped : s.census.state = .stopped) :
      HostMove s { s with census := s.census.begun mode interval split pattern mask }
  | stopSearch (searching : s.census.state = .searching) (settled : s.census.outstanding = none) :
      HostMove s s.stopSearch
  | awaitLastWindow (searching : s.census.state = .searching) (asked : s.census.outstanding ≠ none) :
      HostMove s s.awaitLastWindow
  | clearSticky (t : Tag) : HostMove s (s.clearSticky t)
  | park (t : Tag) (h : Terminal) (holds : s.term t = some h) : HostMove s (s.hostPark t h)
  | resume (t : Tag) (h : Terminal) (reason : Reason) (hold : Nat) (holds : s.term t = some h)
      (was : h.phase = .parked reason hold) : HostMove s (s.parkRecord t h reason.resumed 0)
  | release (t : Tag) (h : Terminal) (holds : s.term t = some h) (told : Bool) :
      HostMove s (if told then (s.freeRecord t h).standDown t .released else s.freeRecord t h)
  | converter (window : Fin 4) (step : Fin 3) (asked : Int) :
      HostMove s { s with conv.windowCode := window, conv.stepCode := step, conv.offset := offsetOf asked }
  | curve (start : Nat) (values : List Int) : HostMove s { s with conv.curve := writeCurve s.conv.curve start values }
  | calibrate (target : Nat) (running : s.line.state = .running) (idle : s.conv.calib = none) :
      HostMove s { s with conv.calib := some (.begun (clampNat 0 4095 target)), planner.slotWanted := true }

/-- Any number of effects, one after the other: LOAD EXPECTED judges its entries in turn. -/
abbrev HostMoves : State → State → Prop := Relation.ReflTransGen HostMove

/-- What an entry's answer leaves of the state. -/
def Entry (act : Request → State → Answer) : Prop := ∀ q s, HostMoves s (act q s).state

theorem entry_identify : Entry actIdentify := fun _ _ => .refl

theorem entry_readStatus : Entry actReadStatus := fun _ _ => .refl

theorem entry_setNoticeMask : Entry actSetNoticeMask := fun _ _ => .single (.mask _)

theorem entry_restart : Entry actRestart := by
  intro q s
  unfold actRestart
  split
  · exact .refl
  · exact .single (.handler _)

theorem entry_setLine : Entry actSetLine := by
  intro q s
  unfold actSetLine
  split
  · next dark => exact .single (.settings _ dark)
  · exact .refl

theorem entry_setCycleLength : Entry actSetCycleLength := fun _ _ => .single (.pendingLen _)

theorem entry_lightLine (now : Tick) : Entry (actLightLine now) := by
  intro q s
  unfold actLightLine
  split
  · next dark => exact .single (.light now dark)
  · exact .refl

theorem entry_darkenLine : Entry actDarkenLine := fun _ _ => .single .darken

theorem entry_setProfile : Entry actSetProfile := by
  intro q s
  unfold actSetProfile
  split
  · exact .refl
  · exact .single (.profile _ _)

theorem entry_readProfile : Entry actReadProfile := by
  intro q s
  unfold actReadProfile
  split <;> exact .refl

theorem entry_setAdmission : Entry actSetAdmission := by
  intro q s
  unfold actSetAdmission
  dsimp only
  split
  · split
    · exact .refl
    · next bounds =>
      split
      · exact .refl
      · next disjoint =>
        refine .single (.admission _ _ _ _ (by simpa using bounds) fun mixed => ?_)
        simpa [mixed] using disjoint
  · exact .refl

theorem State.hostMoves_loadEntries (n : Nat) (bs : List Byte) (s : State) : HostMoves s (s.loadEntries n bs).1 := by
  induction n generalizing bs s with
  | zero => exact .refl
  | succ n ih => exact .head (.load _ _ _) (ih (bs.drop 6) _)

theorem entry_loadExpected : Entry actLoadExpected := fun _ s => s.hostMoves_loadEntries _ _

theorem entry_dropExpected : Entry actDropExpected := by
  intro q s
  unfold actDropExpected
  dsimp only
  split
  · exact .refl
  · exact .single (.drop _)

theorem entry_readExpected : Entry actReadExpected := by
  intro q s
  unfold actReadExpected
  dsimp only
  split <;> exact .refl

theorem entry_barSerial : Entry actBarSerial := by
  intro q s
  unfold actBarSerial
  dsimp only
  split
  · exact .refl
  · next new =>
    split
    · exact .refl
    · next room => exact .single (.bar _ (by simpa using new) (Nat.not_le.mp room))

theorem entry_liftBar : Entry actLiftBar := by
  intro q s
  unfold actLiftBar
  dsimp only
  split
  · exact .single (.lift _)
  · exact .refl

theorem entry_readStrangers : Entry actReadStrangers := by
  intro q s
  unfold actReadStrangers
  dsimp only
  split
  · exact .refl
  · dsimp only
    split
    · exact .single .clearStrangers
    · exact .refl

theorem entry_startCensus : Entry actStartCensus := by
  intro q s
  unfold actStartCensus
  dsimp only
  split
  · exact .refl
  split
  · exact .refl
  · next takes =>
    split
    · exact .refl
    · next stopped => exact .single (.beginCensus _ _ _ _ _ (by simpa using takes) (not_not.mp stopped))

theorem entry_stopCensus : Entry actStopCensus := by
  intro q s
  unfold actStopCensus
  split
  · next searching settled => exact .single (.stopSearch searching settled)
  · next searching asked => exact .single (.awaitLastWindow searching (by simp [asked]))
  · exact .refl

theorem entry_readTerminal : Entry actReadTerminal := by
  intro q s
  unfold actReadTerminal
  split
  · exact .refl
  · dsimp only
    split
    · exact .refl
    · exact .single (.clearSticky _)

theorem entry_readRoster : Entry actReadRoster := fun _ _ => .refl

theorem entry_parkTerminal : Entry actParkTerminal := by
  intro q s
  unfold actParkTerminal
  split
  · exact .refl
  split
  · exact .refl
  · next holds => exact .single (.park _ _ holds)

theorem entry_resumeTerminal : Entry actResumeTerminal := by
  intro q s
  unfold actResumeTerminal
  split
  · exact .refl
  split
  · next holds =>
    split
    · next was => exact .single (.resume _ _ _ _ holds was)
    · exact .refl
  · exact .refl

theorem entry_releaseTerminal : Entry actReleaseTerminal := by
  intro q s
  unfold actReleaseTerminal
  split
  · exact .refl
  split
  · exact .refl
  · next holds => exact .single (.release _ _ holds _)

theorem entry_setConverter : Entry actSetConverter := fun _ _ => .single (.converter _ _ _)

theorem entry_setCurve : Entry actSetCurve := by
  intro q s
  unfold actSetCurve
  dsimp only
  split
  · exact .refl
  · exact .single (.curve _ _)

theorem entry_readCurve : Entry actReadCurve := by
  intro q s
  unfold actReadCurve
  dsimp only
  split <;> exact .refl

theorem entry_calibrate : Entry actCalibrate := by
  intro q s
  unfold actCalibrate
  split
  · next running idle => exact .single (.calibrate _ running idle)
  · exact .refl

/-! ## One step -/

/-- A predicate on states that every event keeps. -/
structure EventClosed (P : State → Prop) : Prop where
  tick : ∀ {s : State} (x : Tick), P s → P (s.setTick x)
  between : ∀ {s : State}, P s → P { s with link.tx := .betweenFrames }
  chooses : ∀ {s : State}, P s → P s.chooseFrame
  receiveByte : ∀ {s : State} (b : Byte) (stop : Bool), P s → P (s.receiveByte b stop)
  expireGap : ∀ {s : State}, P s → P s.expireGap
  reset : ∀ {s : State} (straps : BitVec 2) (cause : ResetCause), P s → P (s.resetTo straps cause)
  lineRestart : ∀ {s : State}, P s → P s.lineRestart
  answer : ∀ {s t : State} {q : Request} (r : Result) (body : List Byte), s.nextRequest = some q →
    HostMoves s.popRequest t → P s → P (t.offerReply q r body)
  startCycle : ∀ {s : State}, P s → P s.startCycle
  endDraining : ∀ {s : State}, P s → P s.endDraining
  closePlan : ∀ {s : State}, P s → P s.closePlan
  judge : ∀ {s : State} (r : Report), s.line.state = .running → P s → P (s.judge r)
  closeNext : ∀ {s : State}, P s → P s.closeNext
  endFrame : ∀ {s : State}, P s → P s.endFrame
  darkSlotStart : ∀ {s : State}, P s → P s.darkSlotStart
  endSampleWindow : ∀ {s : State}, P s → P s.endSampleWindow
  endConversion : ∀ {s : State} (raw : BitVec 12), P s → P (s.endConversion raw)

namespace EventClosed

variable {P : State → Prop} (closed : EventClosed P)

include closed

theorem chooseAgain {s : State} (h : P s) : P s.chooseAgain := by
  unfold State.chooseAgain
  split
  · exact closed.chooses h
  · exact h

theorem handle {s : State} {act : Request → State → Answer} (entry : Entry act) (kind : Nat) (ok : Nat → Bool)
    (h : P s) : P (s.handle kind ok act).chooseAgain := by
  refine closed.chooseAgain ?_
  unfold State.handle
  split
  · exact h
  · next q offered =>
    split
    · dsimp only
      split
      · exact closed.answer _ _ offered (entry _ _) h
      · exact closed.answer _ _ offered .refl h
    · exact h

theorem handleUnknown {s : State} (h : P s) : P s.handleUnknown := by
  unfold State.handleUnknown
  split
  · exact h
  · next q offered =>
    split
    · exact h
    · exact closed.answer _ _ offered .refl h

theorem receiveBytes {s : State} (bs : List RxByte) (h : P s) : P (s.receiveBytes bs) := by
  induction bs generalizing s with
  | nil => exact h
  | cons b bs ih => exact ih (closed.chooseAgain (closed.receiveByte b.data b.stop h))

/-- What every event keeps, every command keeps. -/
theorem exec {c : Instr} {s t : State} (run : exec c s = .next t) (h : P s) : P t := by
  cases c with
  | powerOnReset straps => cases run; exact closed.reset straps _ h
  | pinReset straps => cases run; exact closed.reset straps _ h
  | frameReceived bytes => cases run; exact closed.receiveBytes bytes h
  | gapExpiry => cases run; exact closed.chooseAgain (closed.expireGap h)
  | frameSent => cases run; exact closed.chooses (closed.between h)
  | restartTakesEffect =>
    cases run
    unfold State.takeRestart
    split
    · exact closed.lineRestart h
    · exact closed.reset _ _ h
    · exact closed.chooseAgain h
  | identify => cases run; exact closed.handle entry_identify _ _ h
  | readStatus => cases run; exact closed.handle entry_readStatus _ _ h
  | setLine => cases run; exact closed.handle entry_setLine _ _ h
  | setCycleLength => cases run; exact closed.handle entry_setCycleLength _ _ h
  | lightLine now => cases run; exact closed.handle (entry_lightLine now) _ _ h
  | darkenLine => cases run; exact closed.handle entry_darkenLine _ _ h
  | setProfile => cases run; exact closed.handle entry_setProfile _ _ h
  | readProfile => cases run; exact closed.handle entry_readProfile _ _ h
  | setAdmission => cases run; exact closed.handle entry_setAdmission _ _ h
  | loadExpected => cases run; exact closed.handle entry_loadExpected _ _ h
  | dropExpected => cases run; exact closed.handle entry_dropExpected _ _ h
  | readExpected => cases run; exact closed.handle entry_readExpected _ _ h
  | barSerial => cases run; exact closed.handle entry_barSerial _ _ h
  | liftBar => cases run; exact closed.handle entry_liftBar _ _ h
  | readStrangers => cases run; exact closed.handle entry_readStrangers _ _ h
  | startCensus => cases run; exact closed.handle entry_startCensus _ _ h
  | stopCensus => cases run; exact closed.handle entry_stopCensus _ _ h
  | readTerminal => cases run; exact closed.handle entry_readTerminal _ _ h
  | readRoster => cases run; exact closed.handle entry_readRoster _ _ h
  | parkTerminal => cases run; exact closed.handle entry_parkTerminal _ _ h
  | resumeTerminal => cases run; exact closed.handle entry_resumeTerminal _ _ h
  | releaseTerminal => cases run; exact closed.handle entry_releaseTerminal _ _ h
  | setConverter => cases run; exact closed.handle entry_setConverter _ _ h
  | setCurve => cases run; exact closed.handle entry_setCurve _ _ h
  | readCurve => cases run; exact closed.handle entry_readCurve _ _ h
  | calibrate => cases run; exact closed.handle entry_calibrate _ _ h
  | setNoticeMask => cases run; exact closed.handle entry_setNoticeMask _ _ h
  | restart => cases run; exact closed.handle entry_restart _ _ h
  | cycleStart => cases run; exact closed.chooseAgain (closed.startCycle h)
  | warmupEnd =>
    cases run
    refine closed.chooseAgain ?_
    split
    · exact closed.startCycle h
    · exact h
  | drainingEnd => cases run; exact closed.chooseAgain (closed.endDraining h)
  | graceExpiry tag =>
    cases run
    refine closed.chooseAgain ?_
    split
    · exact closed.startCycle h
    · exact h
  | planClose => cases run; exact closed.chooseAgain (closed.closePlan h)
  | burstReport arrival header check overlap taken =>
    cases run
    refine closed.chooseAgain ?_
    have ticked : P (s.setTick taken) := closed.tick taken h
    split
    · next running => exact closed.judge _ (by simpa [State.running] using running) ticked
    · exact ticked
  | windowClose => cases run; exact closed.chooseAgain (closed.closeNext h)
  | frameEnd => cases run; exact closed.chooseAgain (closed.endFrame h)
  | darkSlotStart => cases run; exact closed.chooseAgain (closed.darkSlotStart h)
  | sampleWindowEnd => cases run; exact closed.chooseAgain (closed.endSampleWindow h)
  | conversionEnd raw => cases run; exact closed.chooseAgain (closed.endConversion raw h)
  | byteReceived data stop => cases run; exact closed.chooseAgain (closed.receiveByte data stop h)
  | unknownRequest => cases run; exact closed.chooseAgain (closed.handleUnknown h)

/-- What every event keeps, a step keeps. -/
theorem step {s t : State} (pending : ∀ {u : State} (l : List Instr), P u → P { u with pending := l })
    (run : step s = .next t) (h : P s) : P t := by
  unfold Machine.step at run
  split at run
  · cases run
    exact closed.chooseAgain (closed.tick (s.line.tick + 1) h)
  · exact closed.exec run (pending _ h)

end EventClosed

/-- A predicate on states that asks nothing of the link or of the commands that wait. -/
structure LinkFree (P : State → Prop) : Prop where
  link : ∀ {s : State} (l : Link), P s → P { s with link := l }
  pending : ∀ {s : State} (l : List Instr), P s → P { s with pending := l }

namespace LinkFree

variable {P : State → Prop} (free : LinkFree P)

include free

theorem offerRequest {s : State} (q : Request) (h : P s) : P (s.offerRequest q) := by
  unfold State.offerRequest
  (repeat' split) <;> exact free.link _ h

theorem receiveByte {s : State} (b : Byte) (stop : Bool) (h : P s) : P (s.receiveByte b stop) := by
  have fault : P s.frameFault := free.link _ h
  unfold State.receiveByte
  split
  · split
    · exact free.link _ h
    · exact h
  · split
    · exact free.link _ h
    · exact fault
  · split
    · dsimp only
      split
      · exact free.link _ h
      · exact free.link _ h
    · exact fault
  · split
    · split
      · exact free.link _ h
      · unfold State.checkFrame
        split
        · exact free.offerRequest _ (free.link _ h)
        · exact fault
    · exact fault

theorem expireGap {s : State} (h : P s) : P s.expireGap := by
  unfold State.expireGap
  split
  · exact h
  · exact free.link _ h

theorem answer {s t : State} (request : ∀ {s t : State}, HostMove s t → P s → P t) (q : Request) (r : Result)
    (body : List Byte) (run : HostMoves s.popRequest t) (h : P s) : P (t.offerReply q r body) := by
  have effect : P t := by
    induction run with
    | refl => exact free.link _ h
    | tail _ move ih => exact request move ih
  rw [State.offerReply_eq]
  exact free.link _ effect

end LinkFree

/-- A predicate that asks nothing of the link, and that each move, each effect of a request and each event of the line
keeps. -/
structure MoveClosed (P : State → Prop) : Prop extends LinkFree P where
  chooses : ∀ {s : State}, P s → P s.chooseFrame
  reset : ∀ {s : State} (straps : BitVec 2) (cause : ResetCause), P s → P (s.resetTo straps cause)
  lineRestart : ∀ {s : State}, P s → P s.lineRestart
  request : ∀ {s t : State}, HostMove s t → P s → P t
  move : ∀ {s t : State}, Move s t → P s → P t
  startCycle : ∀ {s : State}, P s → P s.startCycle
  endDraining : ∀ {s : State}, P s → P s.endDraining
  closePlan : ∀ {s : State}, P s → P s.closePlan

namespace MoveClosed

variable {P : State → Prop} (closed : MoveClosed P)

include closed

theorem evolves {s t : State} (run : Evolves s t) : P s → P t := run.keeps closed.move

theorem eventClosed : EventClosed P where
  tick x := closed.move (.tick x)
  between := closed.link _
  chooses := closed.chooses
  receiveByte := closed.receiveByte
  expireGap := closed.expireGap
  reset := closed.reset
  lineRestart := closed.lineRestart
  answer r body _ := closed.answer closed.request _ r body
  startCycle := closed.startCycle
  endDraining := closed.endDraining
  closePlan := closed.closePlan
  judge r running := closed.evolves (State.evolves_judge running r)
  closeNext := closed.evolves (State.evolves_closeNext _)
  endFrame := closed.evolves (State.evolves_endFrame _)
  darkSlotStart := closed.evolves (State.evolves_darkSlotStart _)
  endSampleWindow := closed.evolves (State.evolves_endSampleWindow _)
  endConversion raw := closed.evolves (State.evolves_endConversion _ raw)

theorem step {s t : State} (run : Machine.step s = .next t) (h : P s) : P t :=
  closed.eventClosed.step closed.pending run h

end MoveClosed

end Sys2Proof.Machine

/-! PROOFS. The capacities of the queues, lists and plans (01 to 10), and the queue of commands that wait (95). -/

namespace Sys2Proof.Machine

/-! ## What the requests leave of the link and of the commands that wait -/

/-- An effect of a request keeps the link's two queues and the commands that wait. -/
theorem HostMove.queues {s t : State} (move : HostMove s t) :
    t.link.inbound = s.link.inbound ∧ t.link.outbound = s.link.outbound ∧ t.pending = s.pending := by
  have ofHostSide {u v : State} (h : v.hostSide = u.hostSide) :
      v.link.inbound = u.link.inbound ∧ v.link.outbound = u.link.outbound ∧ v.pending = u.pending :=
    ⟨congrArg HostSide.inbound h, congrArg HostSide.outbound h, congrArg HostSide.pending h⟩
  cases move with
  | mask | handler | settings | pendingLen | profile | admission | lift | clearStrangers | beginCensus
  | awaitLastWindow | converter | curve | calibrate => exact ⟨rfl, rfl, rfl⟩
  | light now => exact ofHostSide (by simp)
  | darken => exact ofHostSide (by simp)
  | load serial tag profile =>
    unfold State.loadEntry
    dsimp only
    (repeat' split) <;> exact ⟨rfl, rfl, rfl⟩
  | drop serial => unfold State.unlist; split <;> exact ⟨rfl, rfl, rfl⟩
  | bar serial =>
    unfold State.expel
    (repeat' split)
    · exact ⟨rfl, rfl, rfl⟩
    · exact ⟨rfl, rfl, rfl⟩
    · exact ofHostSide (u := { s with roster.barred := s.roster.barred ++ [serial] }) (by simp)
  | stopSearch => unfold State.stopSearch; split <;> exact ⟨rfl, rfl, rfl⟩
  | clearSticky t => exact ofHostSide (by simp [State.clearSticky])
  | park t h => exact ofHostSide (by simp [State.hostPark])
  | resume t h => exact ofHostSide (by simp)
  | release t h _ told => exact ofHostSide (by cases told <;> simp)

theorem HostMoves.queues {s t : State} (run : HostMoves s t) :
    t.link.inbound = s.link.inbound ∧ t.link.outbound = s.link.outbound ∧ t.pending = s.pending := by
  induction run with
  | refl => exact ⟨rfl, rfl, rfl⟩
  | tail _ move ih =>
    obtain ⟨a, b, c⟩ := move.queues
    obtain ⟨a', b', c'⟩ := ih
    exact ⟨a.trans a', b.trans b', c.trans c'⟩

@[simp] theorem State.darkSlotStart_hostSide (s : State) : s.darkSlotStart.hostSide = s.hostSide := by
  unfold State.darkSlotStart
  split
  · split
    · unfold State.startSlot
      split
      · rfl
      · exact State.failAttempt_hostSide _ _ _
      · exact State.failAttempt_hostSide _ _ _
      · rfl
    · rfl
  · rfl

@[simp] theorem State.endSampleWindow_hostSide (s : State) : s.endSampleWindow.hostSide = s.hostSide := by
  unfold State.endSampleWindow
  (repeat' split) <;> rfl

@[simp] theorem State.endConversion_hostSide (s : State) (raw : BitVec 12) :
    (s.endConversion raw).hostSide = s.hostSide := by
  unfold State.endConversion State.endCapture
  split
  · dsimp only
    split
    · rfl
    · exact State.answerCapture_hostSide _ _ _ _ _
  · split
    · exact State.holdDarkCode_hostSide _ _
    · rfl
  · rfl

/-- What every event of the blocks keeps, in that it is part of the host's side. -/
theorem EventClosed.of_hostSide {P : State → Prop} (same : ∀ {s t : State}, t.hostSide = s.hostSide → P s → P t)
    (between : ∀ {s : State}, P s → P { s with link.tx := .betweenFrames })
    (chooses : ∀ {s : State}, P s → P s.chooseFrame)
    (receiveByte : ∀ {s : State} (b : Byte) (stop : Bool), P s → P (s.receiveByte b stop))
    (expireGap : ∀ {s : State}, P s → P s.expireGap)
    (reset : ∀ {s : State} (straps : BitVec 2) (cause : ResetCause), P s → P (s.resetTo straps cause))
    (lineRestart : ∀ {s : State}, P s → P s.lineRestart)
    (answer : ∀ {s t : State} {q : Request} (r : Result) (body : List Byte), s.nextRequest = some q →
      HostMoves s.popRequest t → P s → P (t.offerReply q r body)) : EventClosed P where
  tick x := same rfl
  between := between
  chooses := chooses
  receiveByte := receiveByte
  expireGap := expireGap
  reset := reset
  lineRestart := lineRestart
  answer := answer
  startCycle := same (by simp)
  endDraining := same (by simp)
  closePlan := same (by simp)
  judge r _ := same (by simp)
  closeNext := same (by simp)
  endFrame := same (by simp)
  darkSlotStart := same (by simp)
  endSampleWindow := same (by simp)
  endConversion raw := same (by simp)

/-- The request queue and the reply queue are within their sizes. -/
def State.LinkFits (s : State) : Prop := s.link.inbound.length ≤ 4 ∧ s.link.outbound.length ≤ 8

theorem State.linkFits_of_queues {s t : State} (inbound : t.link.inbound = s.link.inbound)
    (outbound : t.link.outbound = s.link.outbound) (h : s.LinkFits) : t.LinkFits := by
  unfold State.LinkFits; rw [inbound, outbound]; exact h

theorem State.linkFits_offerRequest {s : State} (q : Request) (h : s.LinkFits) : (s.offerRequest q).LinkFits := by
  obtain ⟨inbound, outbound⟩ := h
  unfold State.offerRequest
  split
  · next room => exact ⟨by simpa using room, outbound⟩
  split
  · next room => exact ⟨inbound, by simpa using room⟩
  · exact ⟨inbound, outbound⟩

theorem State.linkFits_receiveByte {s : State} (b : Byte) (stop : Bool) (h : s.LinkFits) :
    (s.receiveByte b stop).LinkFits := by
  unfold State.receiveByte
  split
  · split <;> exact h
  · split <;> exact h
  · split
    · dsimp only
      split <;> exact h
    · exact h
  · split
    · split
      · exact h
      · unfold State.checkFrame
        split
        · exact State.linkFits_offerRequest _ h
        · exact h
    · exact h

/-- The handler takes a request with room for its reply. -/
theorem State.nextRequest_some {s : State} {q : Request} (h : s.nextRequest = some q) :
    s.link.handler = .idle ∧ s.link.outbound.length < 8 ∧ s.link.inbound = q :: s.link.inbound.tail := by
  unfold State.nextRequest at h
  split at h
  · next idle =>
    split at h
    · next room => exact ⟨idle, room, (List.eq_cons_of_mem_head? h)⟩
    · cases h
  · cases h

theorem repliesTo_length (q : Request) (r : Result) (body : List Byte) : (repliesTo q r body).length ≤ 1 := by
  unfold repliesTo; split <;> simp

theorem State.linkFits_eventClosed : EventClosed State.LinkFits := by
  refine EventClosed.of_hostSide ?_ id ?_ State.linkFits_receiveByte ?_ ?_ ?_ ?_
  · intro s t same
    exact State.linkFits_of_queues (congrArg HostSide.inbound same) (congrArg HostSide.outbound same)
  · rintro s ⟨inbound, outbound⟩
    obtain ⟨_, _, _, _, _, _, _, _, _, e, _, _, _, _, _, fewer⟩ := s.chooseFrame_keeps
    rw [e]
    exact ⟨inbound, fewer.trans outbound⟩
  · intro s h
    unfold State.expireGap
    split <;> exact h
  · exact fun _ _ _ => ⟨Nat.zero_le _, Nat.zero_le _⟩
  · exact fun _ => ⟨Nat.zero_le _, Nat.zero_le _⟩
  · rintro s t q r body offered run ⟨inbound, _⟩
    obtain ⟨_, room, _⟩ := State.nextRequest_some offered
    obtain ⟨same, out, _⟩ := run.queues
    have one := repliesTo_length q r body
    rw [State.offerReply_eq]
    constructor
    · simp only [same, State.popRequest, List.length_tail]; omega
    · simp only [out, State.popRequest, List.length_append]; omega

/-! ## The commands that wait (95) -/

theorem State.pending_receiveByte (s : State) (b : Byte) (stop : Bool) : (s.receiveByte b stop).pending = s.pending := by
  unfold State.receiveByte State.checkFrame State.offerRequest
  dsimp only
  (repeat' split) <;> rfl

theorem State.pending_eventClosed (l : List Instr) : EventClosed fun s => s.pending = l := by
  refine EventClosed.of_hostSide ?_ id ?_ ?_ ?_ ?_ ?_ ?_
  · exact fun same h => (congrArg HostSide.pending same).trans h
  · intro s h
    obtain ⟨_, _, _, _, _, _, _, _, _, e, _⟩ := s.chooseFrame_keeps
    rw [e]
    exact h
  · exact fun b stop h => (State.pending_receiveByte _ b stop).trans h
  · intro s h
    unfold State.expireGap
    split <;> exact h
  · exact fun _ _ => id
  · exact id
  · intro s t q r body _ run h
    rw [State.offerReply_eq]
    exact run.queues.2.2.trans h

/-- Every command answers a next state. -/
theorem exec_next (c : Instr) (s : State) : ∃ t, exec c s = .next t := by
  cases c <;> exact ⟨_, rfl⟩

end Sys2Proof.Machine

/-! PROOFS. The capacities (O54): the blocks' part, move by move. -/

namespace Sys2Proof.Machine

/-! ## The queues, lists and plans of the blocks -/

/-- The sizes of `State.Capacities` but for the link's two queues. -/
structure State.BlocksFit (s : State) : Prop where
  notices : s.line.notices.length ≤ 16
  shots : s.planner.shots.length ≤ 8
  expected : s.roster.expected.length ≤ 128
  barred : s.roster.barred.length ≤ 16
  strangers : s.roster.strangers.length ≤ 16
  store : s.intake.store.length ≤ 2
  darkStore : s.line.state = .dark → s.intake.store = []
  grants : ∀ p ∈ s.planner.built, p.grants.length ≤ 64
  head : ∀ h ∈ s.line.head, h.grants.length ≤ 64 ∧ h.notices.length ≤ 8

theorem State.capacities_iff (s : State) : s.Capacities ↔ s.BlocksFit ∧ s.LinkFits :=
  ⟨fun h => ⟨{ h with }, h.inbound, h.outbound⟩, fun ⟨h, inbound, outbound⟩ => { h with inbound, outbound }⟩

theorem State.blocksFit_detach {s : State} (t : Tag) (h : Terminal) (fits : s.BlocksFit) : (s.detach t h).BlocksFit := by
  have fewer (p : OneShot → Bool) : (s.planner.shots.filter p).length ≤ 8 :=
    (List.length_filter_le _ _).trans fits.shots
  unfold State.detach
  split
  · exact { fits with }
  · exact { fits with shots := fewer _ }
  · exact { fits with shots := fewer _ }
  · exact { fits with shots := fewer _ }
  · exact fits

theorem State.blocksFit_move {s t : State} (move : Move s t) (h : s.BlocksFit) : t.BlocksFit := by
  cases move with
  | notice n _ room => exact { h with notices := by simpa using room }
  | fewerNotices l fewer => exact { h with notices := fewer.length_le.trans h.notices }
  | shot e _ room => exact { h with shots := by simpa using room }
  | fewerShots l fewer => exact { h with shots := fewer.length_le.trans h.shots }
  | stranger x _ room => exact { h with strangers := by simpa using room }
  | fewerStrangers l fewer => exact { h with strangers := fewer.length_le.trans h.strangers }
  | leave t k _ _ _ => exact { State.blocksFit_detach t k h with }
  | stray i => exact { h with shots := (List.length_filter_le _ _).trans h.shots }
  | store l fewer _ =>
    refine { h with store := fewer.trans h.store, darkStore := fun dark => ?_ }
    exact List.length_eq_zero_iff.mp (Nat.le_zero.mp (by simpa [h.darkStore dark] using fewer))
  | tick | waiting | sup | overflowed | put | noted | enter | seize | vacant | work | census | kinds | overruns | sweep
  | slot | strayBurst | conv | countdowns => exact { h with }

theorem State.blocksFit_evolves {s t : State} (run : Evolves s t) : s.BlocksFit → t.BlocksFit :=
  run.keeps State.blocksFit_move

theorem State.blocksFit_reset : State.reset.BlocksFit where
  notices := Nat.zero_le _
  shots := Nat.zero_le _
  expected := Nat.zero_le _
  barred := Nat.zero_le _
  strangers := Nat.zero_le _
  store := Nat.zero_le _
  darkStore _ := rfl
  grants _ h := (Option.not_mem_none _ h).elim
  head _ h := (Option.not_mem_none _ h).elim

/-! ## The events of the line -/

theorem StoredPlan.length_append_le {l : List StoredPlan} (h : l.length ≤ 1) (p : StoredPlan) :
    (l ++ [p]).length ≤ 2 := by
  simpa using h

/-- A plan is issued to a store with room for it while the line is lit. -/
theorem State.blocksFit_issuePlan {s : State} (h : s.BlocksFit) (room : s.intake.store.length ≤ 1)
    (lit : s.line.state ≠ .dark) (p : Plan) (start : Tick) : (s.issuePlan p start).BlocksFit := by
  unfold State.issuePlan
  refine State.blocksFit_evolves (State.evolves_issueSlot _ _ _ _) ?_
  exact { h with
    store := StoredPlan.length_append_le room _
    darkStore := fun dark => absurd dark lit
    grants := fun _ none => (Option.not_mem_none _ none).elim }

theorem State.blocksFit_sendHead {s : State} (h : s.BlocksFit) (x : Head) : (s.sendHead x).BlocksFit :=
  { h with head := fun _ none => (Option.not_mem_none _ none).elim }

theorem State.length_store_closeMany (n : Nat) (s : State) :
    (s.closeMany n).intake.store.length = s.intake.store.length := by
  have next (u : State) : u.closeNext.intake.store.length = u.intake.store.length := by
    unfold State.closeNext
    (repeat' split) <;> simp
  induction n generalizing s with
  | zero => rfl
  | succ n ih => exact (ih _).trans (next s)

/-- A frame end leaves room in the store. -/
theorem State.room_endFrame {s : State} (h : s.intake.store.length ≤ 2) : s.endFrame.intake.store.length ≤ 1 := by
  unfold State.endFrame
  split
  · dsimp only
    rw [State.setStore_intake_store, List.length_tail, State.calibFrameEnd_intake, State.setTick_intake,
      State.length_store_closeMany]
    omega
  · next few =>
    match store : s.intake.store with
    | [] => exact Nat.zero_le _
    | [_] => exact le_rfl
    | plan :: next :: rest => exact absurd store (few plan next rest)

theorem State.nextCycle_some {s : State} {c : Cycle} {len : Nat} {h : Head} {p : Plan}
    (e : s.nextCycle = some (c, len, h, p)) :
    s.lit = true ∧ s.line.cycle = some c ∧ c.next = some len ∧ s.line.head = some h ∧ s.planner.built = some p := by
  unfold State.nextCycle at e
  split at e
  · next lit =>
    split at e
    · next cycle head built =>
      obtain ⟨n, next, pair⟩ := Option.map_eq_some_iff.mp e
      cases pair
      exact ⟨lit, cycle, next, head, built⟩
    · cases e
  · cases e

/-- The Line Timer but for its line notice queue and its tick, which moves write. -/
def State.lineCore (s : State) : LineTimer := { s.line with notices := [], tick := 0 }

theorem Move.lineCore {s t : State} (move : Move s t) : t.lineCore = s.lineCore := by
  cases move with
  | leave t h => unfold State.detach; split <;> rfl
  | _ => rfl

theorem Evolves.lineCore {s t : State} (run : Evolves s t) : t.lineCore = s.lineCore := by
  induction run with
  | refl => rfl
  | tail _ move ih => exact move.lineCore.trans ih

theorem Evolves.line_state {s t : State} (run : Evolves s t) : t.line.state = s.line.state :=
  (congrArg LineTimer.state run.lineCore : t.lineCore.state = s.lineCore.state)

/-- What the counts of a cycle start write: the line, and the flag of its change (R3, R6, R9). -/
theorem State.advanceCycle_keeps (s : State) (c : Cycle) (len : Nat) :
    ∃ line kinds, s.advanceCycle c len = { s with line := line, link.kinds := kinds } ∧
      line.cycle = some { num := c.num + 1, start := c.start + BitVec.ofNat 32 c.len, len := len, next := none } ∧
      line.notices = s.line.notices ∧ line.head = s.line.head ∧ line.settings = s.line.settings ∧
      line.pendingLen = s.line.pendingLen ∧ line.txEnable = s.line.txEnable ∧ line.warmup ≤ s.line.warmup ∧
      line.drainLeft ≤ s.line.drainLeft ∧ (s.line.transitions ≤ 255 → line.transitions ≤ 255) ∧
      (line.state = s.line.state ∨ s.line.state = .warming ∧ line.state = .running) := by
  unfold State.advanceCycle
  dsimp only
  split
  · next warming =>
    split
    · exact ⟨_, _, rfl, rfl, rfl, rfl, rfl, rfl, rfl, Nat.sub_le _ _, le_rfl, fun _ => satInc_le _ _, .inr ⟨warming, rfl⟩⟩
    · exact ⟨_, _, rfl, rfl, rfl, rfl, rfl, rfl, rfl, Nat.sub_le _ _, le_rfl, id, .inl rfl⟩
  · refine ⟨_, _, rfl, rfl, rfl, rfl, rfl, rfl, rfl, le_rfl, ?_, id, .inl rfl⟩
    simp only [State.setDrain_line_drainLeft]
    split
    · exact Nat.sub_le _ _
    · exact le_rfl
  · exact ⟨_, _, rfl, rfl, rfl, rfl, rfl, rfl, rfl, le_rfl, le_rfl, id, .inl rfl⟩

theorem State.lit_iff (s : State) : s.lit = true ↔ s.line.state ≠ .dark := by
  simp [State.lit]

/-- What the start of a cycle is made of: the overdue frame end, the counts, the head, the plan, and the moves of the blocks. -/
theorem State.startCycle_eq {s : State} {c : Cycle} {len : Nat} {h : Head} {p : Plan}
    (next : s.nextCycle = some (c, len, h, p)) :
    Evolves (((s.endFrame.advanceCycle c len).sendHead h).issuePlan p (c.start + BitVec.ofNat 32 c.len)) s.startCycle := by
  unfold State.startCycle
  simp only [next]
  have counted := ((State.evolves_departures (((s.endFrame.advanceCycle c len).sendHead h).issuePlan p
    (c.start + BitVec.ofNat 32 c.len)) h.notices).tail Move.countdowns)
  split
  · exact counted.trans (State.evolves_cycleStartPostings _)
  · exact counted

theorem State.blocksFit_startCycle {s : State} (fits : s.BlocksFit) : s.startCycle.BlocksFit := by
  cases next : s.nextCycle with
  | none => unfold State.startCycle; simp only [next]; exact fits
  | some x =>
    obtain ⟨c, len, h, p⟩ := x
    refine State.blocksFit_evolves (State.startCycle_eq next) ?_
    have dark := (State.lit_iff s).mp (State.nextCycle_some next).1
    have ended := State.blocksFit_evolves s.evolves_endFrame fits
    have litAfter : s.endFrame.line.state ≠ .dark := s.evolves_endFrame.line_state ▸ dark
    obtain ⟨line, kinds, e, _, notices, head, _, _, _, _, _, _, state⟩ := s.endFrame.advanceCycle_keeps c len
    have lit : line.state ≠ .dark := by
      rcases state with same | ⟨_, running⟩
      · rw [same]; exact litAfter
      · simp [running]
    rw [e]
    have counted : { s.endFrame with line := line, link.kinds := kinds }.BlocksFit :=
      { ended with notices := notices ▸ ended.notices, darkStore := fun e => absurd e lit, head := head ▸ ended.head }
    exact State.blocksFit_issuePlan (State.blocksFit_sendHead counted h) (State.room_endFrame fits.store) lit p _

/-- A plan close in RUNNING is a run of moves, the plan, another run, and then the head (R12, R66). -/
theorem State.closeRunning_evolves {s : State} (running : s.line.state = .running) (cycle : CycleNo) (len : Nat) :
    ∃ u p v, Evolves s u ∧ Evolves (u.setBuilt (some p)) v ∧ p.cycle = cycle ∧ p.len = len ∧ p.grants.length ≤ 64 ∧
      s.closeRunning cycle len = v.setHead (some
        { cycle := cycle, draining := false, grants := (v.planner.built.map Plan.grants).getD [],
          notices := s.line.notices.take 8 }) := by
  have seized : Evolves s (s.setNotices (s.line.notices.drop 8)).seizeAll :=
    .head (Move.fewerNotices _ (List.drop_sublist 8 _)) (State.evolves_seizeAll _)
  obtain ⟨u, p, before, after, ofCycle, ofLen, few⟩ :=
    State.buildPlan_evolves (seized.line_state.trans running) cycle len
  exact ⟨u, p, _, seized.trans before, after, ofCycle, ofLen, few, rfl⟩

theorem State.blocksFit_light {s : State} (h : s.BlocksFit) (dark : s.line.state = .dark) (now : Tick) :
    (s.light now).BlocksFit := by
  unfold State.light
  refine State.blocksFit_move Move.countdowns (State.blocksFit_issuePlan (State.blocksFit_sendHead ?_ _) ?_ ?_ _ _)
  · exact { h with darkStore := fun e => nomatch e }
  · simp [h.darkStore dark]
  · simp

theorem State.blocksFit_setNext {s : State} (h : s.BlocksFit) (x : Option Head) (p : Option Plan)
    (head : ∀ y ∈ x, y.grants.length ≤ 64 ∧ y.notices.length ≤ 8) (grants : ∀ y ∈ p, y.grants.length ≤ 64) :
    (s.setNext x p).BlocksFit :=
  { h with head := head, grants := grants }

theorem warmingHead_fits (num : CycleNo) : ∀ y ∈ some (warmingHead num), y.grants.length ≤ 64 ∧ y.notices.length ≤ 8 := by
  rintro y ⟨⟩; exact ⟨Nat.zero_le _, Nat.zero_le _⟩

theorem drainingHead_fits (num : CycleNo) : ∀ y ∈ some (drainingHead num), y.grants.length ≤ 64 ∧ y.notices.length ≤ 8 := by
  rintro y ⟨⟩; exact ⟨Nat.zero_le _, by simp [drainingHead]⟩

theorem emptyPlan_fits (num : CycleNo) (len : Nat) : ∀ y ∈ some (emptyPlan num len), y.grants.length ≤ 64 := by
  rintro y ⟨⟩; exact Nat.zero_le _

theorem State.blocksFit_goDark {s : State} (h : s.BlocksFit) : s.goDark.BlocksFit :=
  { h with
    store := Nat.zero_le _
    darkStore := fun _ => rfl
    grants := fun _ none => (Option.not_mem_none _ none).elim
    head := fun _ none => (Option.not_mem_none _ none).elim }

/-- Parking a record for the line-down event writes the records and their flags alone (R5). -/
theorem State.lineDownRecord_keeps (s : State) (t : Tag) :
    ∃ records flags, s.lineDownRecord t = { s with roster.records := records, link.recFlags := flags } := by
  unfold State.lineDownRecord State.parkRecord State.changeTerm
  (repeat' split) <;> exact ⟨_, _, rfl⟩

theorem State.lineDownRecords_keeps (l : List Tag) (s : State) :
    ∃ records flags, l.foldl State.lineDownRecord s = { s with roster.records := records, link.recFlags := flags } := by
  induction l generalizing s with
  | nil => exact ⟨_, _, rfl⟩
  | cons t l ih =>
    obtain ⟨records, flags, e⟩ := s.lineDownRecord_keeps t
    obtain ⟨records', flags', e'⟩ := ih (s.lineDownRecord t)
    exact ⟨records', flags', by rw [List.foldl_cons, e', e]⟩

theorem State.blocksFit_lineDown {s : State} (h : s.BlocksFit) : s.lineDown.BlocksFit := by
  unfold State.lineDown
  refine State.blocksFit_evolves ((State.evolves_censusLineDown _).trans (State.evolves_converterLineDown _)) ?_
  obtain ⟨records, flags, e⟩ := State.lineDownRecords_keeps allTags s
  rw [e]
  exact { h with
    notices := Nat.zero_le _
    shots := Nat.zero_le _
    store := Nat.zero_le _
    darkStore := fun _ => rfl }

theorem State.blocksFit_darken {s : State} (h : s.BlocksFit) : s.darken.BlocksFit := by
  unfold State.darken
  split
  · exact h
  · exact h
  · exact State.blocksFit_goDark h
  · unfold State.enterDraining
    have drained : ((s.setDrain 4 false).enterLine .draining).lineDown.BlocksFit :=
      State.blocksFit_lineDown { h with darkStore := fun e => nomatch e }
    have nothing {α : Type} {P : α → Prop} : ∀ y ∈ (none : Option α), P y := fun _ none => (Option.not_mem_none _ none).elim
    dsimp only
    split
    · split
      · exact State.blocksFit_setNext drained _ _ (drainingHead_fits _) (emptyPlan_fits _ _)
      · exact State.blocksFit_setNext drained _ _ nothing nothing
    · exact State.blocksFit_setNext drained _ _ nothing nothing

theorem State.blocksFit_closePlan {s : State} (h : s.BlocksFit) : s.closePlan.BlocksFit := by
  have nothing {α : Type} {P : α → Prop} : ∀ y ∈ (none : Option α), P y := fun _ none => (Option.not_mem_none _ none).elim
  unfold State.closePlan
  split
  · exact h
  next c _ =>
  split
  · exact h
  dsimp only
  have latched (x : Tick) (c : Option Cycle) : ((s.setTick x).setCycle c).BlocksFit := { h with }
  split
  · exact h
  · exact State.blocksFit_setNext (latched _ _) _ _ (warmingHead_fits _) (emptyPlan_fits _ _)
  · next running =>
    generalize latch : State.setCycle _ _ = u
    have runs : u.line.state = .running := latch ▸ running
    obtain ⟨u', p, v, before, after, _, _, few, e⟩ := State.closeRunning_evolves runs (c.num + 1) s.line.pendingLen
    have fits : u'.BlocksFit := State.blocksFit_evolves before (latch ▸ latched _ _)
    have planned : (u'.setBuilt (some p)).BlocksFit := { fits with grants := by rintro x ⟨⟩; exact few }
    have built : v.BlocksFit := State.blocksFit_evolves after planned
    rw [e]
    refine { built with head := ?_ }
    rintro y ⟨⟩
    refine ⟨?_, List.length_take_le _ _⟩
    cases plan : v.planner.built with
    | none => exact Nat.zero_le _
    | some p => exact built.grants p plan
  · split
    · exact State.blocksFit_setNext (latched _ _) _ _ nothing nothing
    · exact State.blocksFit_setNext (latched _ _) _ _ (drainingHead_fits _) (emptyPlan_fits _ _)

/-! ## The requests -/

theorem State.evolves_clearSticky (s : State) (t : Tag) : Evolves s (s.clearSticky t) := by
  unfold State.clearSticky
  cases holds : s.term t with
  | none =>
    have same : s.putTerm t none = s := by
      have records : s.roster.records.update t (fun r => { r with term := none }) = s.roster.records := by
        have free : s.roster.records.get t = { s.roster.records.get t with term := none } := by
          rw [State.term] at holds; rw [← holds]
        rw [Bank.update, ← free, Bank.set_get_self]
      simp only [State.putTerm, records]
    simpa [same] using s.evolves_noteChange_if t none
  | some h => exact State.evolves_changeTerm holds ⟨rfl, rfl, rfl, Iff.rfl, id, fun _ => id⟩

theorem State.evolves_hostPark {s : State} {t : Tag} {h : Terminal} (holds : s.term t = some h) :
    Evolves s (s.hostPark t h) :=
  (State.evolves_leave holds (s.recordLeaves_parked h .host fun _ => Nat.zero_le _)).trans
    (State.evolves_standDown _ t .host)

theorem State.evolves_resume {s : State} {t : Tag} {h : Terminal} {reason : Reason} {hold : Nat}
    (holds : s.term t = some h) (was : h.phase = .parked reason hold) :
    Evolves s (s.parkRecord t h reason.resumed 0) := by
  refine State.evolves_changeTerm holds ⟨rfl, rfl, ?_, ?_, ?_, fun _ _ => Nat.zero_le _⟩
  · simp [Terminal.lane, was]
  · simp [was]
  · simp [Terminal.park]

theorem State.evolves_release {s : State} {t : Tag} {h : Terminal} (holds : s.term t = some h) (told : Bool) :
    Evolves s (if told then (s.freeRecord t h).standDown t .released else s.freeRecord t h) := by
  split
  · exact (State.evolves_freeRecord holds).trans (State.evolves_standDown _ _ _)
  · exact State.evolves_freeRecord holds

theorem State.evolves_expel (s : State) (serial : Serial) : Evolves s (s.expel serial) := by
  unfold State.expel
  split
  · exact .refl
  split
  · exact .refl
  · next holds => exact State.evolves_release holds true

theorem State.evolves_awaitLastWindow {s : State} (asked : s.census.outstanding ≠ none) : Evolves s s.awaitLastWindow := by
  refine .single (Move.census _ ⟨rfl, fun _ h => ⟨h.counters, h.wait, h.passes⟩, .inl, fun _ h => nomatch h⟩ fun h => ?_)
  exact { h with
    stopped := nofun
    stopping := fun _ => ⟨rfl, Option.isSome_iff_ne_none.mpr asked⟩
    searching := nofun
    ordered := stackOrdered_nil
    outstanding := fun o asked => ⟨(h.outstanding o asked).1, List.Pairwise.nil, nofun⟩
    depth := Nat.zero_le _
    masked := nofun }

/-- A search stops as the census halts, with a free value drawn where no cycle runs (R104; log 6). -/
theorem State.stopSearch_evolves (s : State) : ∃ n, Evolves { s with free := n } s.stopSearch := by
  unfold State.stopSearch
  split
  · exact ⟨s.free, s.evolves_haltCensus _ _⟩
  · exact ⟨s.free + 1, State.evolves_haltCensus _ _ _⟩

/-- The entry of `serial` and `t` passes the checks of R41. -/
structure State.MayList (s : State) (serial : Serial) (t : Tag) : Prop where
  room : s.roster.expected.length < 128
  newSerial : ∀ e ∈ s.roster.expected, e.serial ≠ serial
  newTag : ∀ e ∈ s.roster.expected, e.tag ≠ t
  pool : s.roster.mode = .mixed → ¬(s.roster.poolLow ≤ tagNum t ∧ tagNum t ≤ s.roster.poolHigh)
  own : ∀ h ∈ s.term t, h.serial = serial
  others : ∀ u, u ≠ t → ∀ h ∈ s.term u, h.serial ≠ serial

/-- The entry joins the list, and the record of its tag becomes listed with the entry's profile (R41). -/
def State.withEntry (s : State) (serial : Serial) (t : Tag) (profile : ProfileNo) : State :=
  let s1 := { s with roster.expected := s.roster.expected ++ [⟨serial, t, profile⟩] }
  match s.term t with
  | some h => s1.putTerm t (some { h with listed := true, profile := profile })
  | none => s1

theorem tagOfNum_some {n : Nat} {t : Tag} (h : tagOfNum n = some t) : tagNum t = n := by
  unfold tagOfNum at h
  split at h
  · cases h; simp [tagNum]; omega
  · cases h

/-- All that an entry of LOAD EXPECTED can do (R41). -/
theorem State.loadEntry_cases (s : State) (serial : Serial) (tag profile : Nat) :
    (s.loadEntry serial tag profile).1 = s ∨
      ∃ t p, s.MayList serial t ∧ (s.loadEntry serial tag profile).1 = s.withEntry serial t p := by
  unfold State.loadEntry
  dsimp only
  split
  · next t p named _ =>
    split
    · exact .inl rfl
    next room =>
    split
    · exact .inl rfl
    next serialNew =>
    split
    · exact .inl rfl
    next tagNew =>
    split
    · exact .inl rfl
    next unpooled =>
    split
    · exact .inl rfl
    next own =>
    split
    · exact .inl rfl
    next elsewhere =>
    refine .inr ⟨t, p, ⟨Nat.not_le.mp room, by simpa using serialNew, by simpa [Roster.reserved] using tagNew, ?_, ?_, ?_⟩, ?_⟩
    · intro mixed inPool
      rw [tagOfNum_some named] at inPool
      exact unpooled ⟨mixed, inPool⟩
    · intro h holds
      rw [Option.mem_def.mp holds] at own
      simpa using own
    · intro u ne h holds same
      refine elsewhere (List.any_eq_true.mpr ⟨u, List.mem_finRange u, ?_⟩)
      simp [ne, Option.mem_def.mp holds, same]
    · unfold State.withEntry
      cases s.term t <;> rfl
  · exact .inl rfl

theorem State.blocksFit_request {s t : State} (move : HostMove s t) (h : s.BlocksFit) : t.BlocksFit := by
  cases move with
  | mask | handler | settings | pendingLen | profile | admission | beginCensus | awaitLastWindow | converter | curve
  | calibrate => exact { h with }
  | clearStrangers => exact { h with strangers := Nat.zero_le _ }
  | lift serial => exact { h with barred := (List.length_filter_le _ _).trans h.barred }
  | light now dark => exact State.blocksFit_light h dark now
  | darken => exact State.blocksFit_darken h
  | load serial tag profile =>
    rcases s.loadEntry_cases serial tag profile with same | ⟨u, p, may, e⟩
    · rw [same]; exact h
    · rw [e]
      have fits : { s with roster.expected := s.roster.expected ++ [Expected.mk serial u p] }.BlocksFit :=
        { h with expected := by simpa using may.room }
      unfold State.withEntry
      dsimp only
      split
      · exact { fits with }
      · exact fits
  | drop serial =>
    have fits : { s with roster.expected := s.roster.expected.filter fun e => e.serial != serial }.BlocksFit :=
      { h with expected := (List.length_filter_le _ _).trans h.expected }
    unfold State.unlist
    split
    · exact fits
    · exact { fits with }
  | bar serial _ room =>
    have fits : { s with roster.barred := s.roster.barred ++ [serial] }.BlocksFit :=
      { h with barred := by simpa using room }
    exact State.blocksFit_evolves (State.evolves_expel _ _) fits
  | stopSearch =>
    obtain ⟨n, run⟩ := s.stopSearch_evolves
    exact State.blocksFit_evolves run { h with }
  | clearSticky t => exact State.blocksFit_evolves (s.evolves_clearSticky t) h
  | park t x holds => exact State.blocksFit_evolves (State.evolves_hostPark holds) h
  | resume t x reason hold holds was => exact State.blocksFit_evolves (State.evolves_resume holds was) h
  | release t x holds told => exact State.blocksFit_evolves (State.evolves_release holds told) h

theorem State.blocksFit_moveClosed : MoveClosed State.BlocksFit where
  link _ h := { h with }
  pending _ h := { h with }
  chooses {s} h := by
    obtain ⟨_, _, _, _, _, _, _, _, _, e, -⟩ := s.chooseFrame_keeps
    rw [e]
    exact { h with }
  reset straps cause _ := { State.blocksFit_reset with }
  lineRestart h := { State.blocksFit_reset with expected := h.expected, barred := h.barred }
  request := State.blocksFit_request
  move := State.blocksFit_move
  startCycle := State.blocksFit_startCycle
  endDraining {s} h := by
    unfold State.endDraining
    split
    · split
      · exact State.blocksFit_goDark { h with }
      · exact h
    · exact h
  closePlan := State.blocksFit_closePlan

/-- Settles O54: the link's two queues by the handler's room for a reply, and the blocks' queues, lists and plans move by
move. -/
theorem capacitiesKept : Obligations.CapacitiesKept := by
  intro s t h run
  obtain ⟨blocks, link⟩ := s.capacities_iff.mp h
  exact t.capacities_iff.mpr
    ⟨State.blocksFit_moveClosed.step run blocks, State.linkFits_eventClosed.step (fun _ h => h) run link⟩

end Sys2Proof.Machine

/-! PROOFS. The line with its cycle, head and plan (01, 04, 05), and the part outside RUNNING (01). -/

namespace Sys2Proof.Machine

/-! ## The commands that wait (95) -/

/-- Settles O2: every command has its meaning, and the queue is part of what no event writes. -/
theorem everyCommandKeepsQueue : Obligations.EveryCommandKeepsQueue := by
  intro c s
  obtain ⟨t, run⟩ := exec_next c s
  exact ⟨t, run, (State.pending_eventClosed s.pending).exec run rfl⟩

/-! ## Line, cycle, head, plan and store -/

theorem Move.planner_built {s t : State} (move : Move s t) : t.planner.built = s.planner.built := by
  cases move with
  | leave t h => unfold State.detach; split <;> rfl
  | _ => rfl

/-- The newest plan in the store keeps its cycle, its start and its length through every move. -/
theorem Move.newest {s t : State} (move : Move s t) :
    ∀ p ∈ t.intake.store.getLast?, ∃ q ∈ s.intake.store.getLast?, p.cycle = q.cycle ∧ p.start = q.start ∧ p.len = q.len := by
  cases move with
  | store l _ newest => exact newest
  | leave t h => intro p hp; rw [State.putTerm_intake, State.detach_intake] at hp; exact ⟨p, hp, rfl, rfl, rfl⟩
  | _ => exact fun p hp => ⟨p, hp, rfl, rfl, rfl⟩

theorem Evolves.planner_built {s t : State} (run : Evolves s t) : t.planner.built = s.planner.built := by
  induction run with
  | refl => rfl
  | tail _ move ih => exact move.planner_built.trans ih

theorem Evolves.newest {s t : State} (run : Evolves s t) :
    ∀ p ∈ t.intake.store.getLast?, ∃ q ∈ s.intake.store.getLast?, p.cycle = q.cycle ∧ p.start = q.start ∧ p.len = q.len := by
  induction run with
  | refl => exact fun p hp => ⟨p, hp, rfl, rfl, rfl⟩
  | tail _ move ih =>
    intro p hp
    obtain ⟨q, hq, num, start, len⟩ := move.newest p hp
    obtain ⟨q', hq', num', start', len'⟩ := ih q hq
    exact ⟨q', hq', num.trans num', start.trans start', len.trans len'⟩

theorem Evolves.line_cycle {s t : State} (run : Evolves s t) : t.line.cycle = s.line.cycle :=
  (congrArg LineTimer.cycle run.lineCore : t.lineCore.cycle = s.lineCore.cycle)

theorem Evolves.line_txEnable {s t : State} (run : Evolves s t) : t.line.txEnable = s.line.txEnable :=
  (congrArg LineTimer.txEnable run.lineCore : t.lineCore.txEnable = s.lineCore.txEnable)

theorem State.lineShape_move {s t : State} (move : Move s t) (h : s.LineShape) : t.LineShape := by
  have core := move.lineCore
  have state : t.line.state = s.line.state := (congrArg LineTimer.state core : t.lineCore.state = s.lineCore.state)
  have enable : t.line.txEnable = s.line.txEnable := (congrArg LineTimer.txEnable core : t.lineCore.txEnable = _)
  have cycle : t.line.cycle = s.line.cycle := (congrArg LineTimer.cycle core : t.lineCore.cycle = _)
  have head : t.line.head = s.line.head := (congrArg LineTimer.head core : t.lineCore.head = _)
  have lit : t.lit = s.lit := by simp only [State.lit, state]
  refine ⟨?_, ?_, ?_, ?_, ?_⟩
  · rw [enable, lit, h.enable]
  · rw [cycle, lit, h.cycle]
  · rw [head, move.planner_built, h.paired]
  · rw [move.planner_built, cycle]; exact h.next
  · intro p hp
    obtain ⟨q, hq, num, start, len⟩ := move.newest p hp
    rw [cycle, num, start, len]
    exact h.newest q hq

theorem State.lineShape_evolves {s t : State} (run : Evolves s t) : s.LineShape → t.LineShape :=
  run.keeps State.lineShape_move

/-- The plan that is issued at a cycle's start is the plan of that cycle. -/
theorem State.lineShape_issuePlan {s : State} {c : Cycle} {p : Plan} (enable : s.line.txEnable = s.lit)
    (lit : s.lit = true) (cycle : s.line.cycle = some c) (head : s.line.head = none) (num : p.cycle = c.num)
    (len : p.len = c.len) : (s.issuePlan p c.start).LineShape := by
  unfold State.issuePlan
  refine State.lineShape_evolves (State.evolves_issueSlot _ _ _ _) ⟨enable, ?_, ?_, ?_, ?_⟩
  · exact (by simp [cycle] : s.line.cycle.isSome = true).trans lit.symm
  · exact congrArg (Option.map Head.cycle) head
  · exact fun _ none => (Option.not_mem_none _ none).elim
  · intro q hq
    have last : p.stored c.start = q := by simpa using hq
    subst last
    exact ⟨c, cycle, num, rfl, len⟩

theorem State.lineShape_startCycle {s : State} (shape : s.LineShape) : s.startCycle.LineShape := by
  cases next : s.nextCycle with
  | none => unfold State.startCycle; simp only [next]; exact shape
  | some x =>
    obtain ⟨c, len, h, p⟩ := x
    refine State.lineShape_evolves (State.startCycle_eq next) ?_
    obtain ⟨lit, cycle, latched, _, built⟩ := State.nextCycle_some next
    obtain ⟨c', same, num, planned⟩ := shape.next p built
    cases cycle.symm.trans same
    have ended := State.lineShape_evolves s.evolves_endFrame shape
    have litAfter : s.endFrame.lit = true := by
      rw [State.lit_iff, s.evolves_endFrame.line_state]; exact (State.lit_iff s).mp lit
    obtain ⟨line, kinds, e, started, _, _, _, _, enable, _, _, _, state⟩ := s.endFrame.advanceCycle_keeps c len
    have litNow : State.lit { s.endFrame with line := line, link.kinds := kinds } = true := by
      rw [State.lit_iff]
      rcases state with same | ⟨_, running⟩
      · rw [show line.state = s.endFrame.line.state from same]; exact (State.lit_iff _).mp litAfter
      · rw [show line.state = .running from running]; simp
    rw [e]
    refine State.lineShape_issuePlan (c := { num := c.num + 1, start := c.start + BitVec.ofNat 32 c.len, len := len, next := none })
      ?_ litNow started rfl num (Option.some.inj (planned.symm.trans latched))
    exact (enable.trans (ended.enable.trans litAfter)).trans litNow.symm

theorem State.lineShape_light {s : State} (now : Tick) : (s.light now).LineShape :=
  State.lineShape_move Move.countdowns (State.lineShape_issuePlan (c := ⟨0, now, s.line.pendingLen, none⟩)
    rfl rfl rfl rfl rfl rfl)

theorem State.lineShape_goDark (s : State) : s.goDark.LineShape where
  enable := rfl
  cycle := rfl
  paired := rfl
  next _ none := (Option.not_mem_none _ none).elim
  newest _ none := (Option.not_mem_none _ none).elim

/-- A head and a plan for the next cycle are held together. -/
theorem State.lineShape_setNext {s : State} (h : s.LineShape) {c : Cycle} {len : Nat} (cycle : s.line.cycle = some c)
    (latched : c.next = some len) (x : Head) (p : Plan) (head : x.cycle = c.num + 1) (plan : p.cycle = c.num + 1)
    (planLen : p.len = len) : (s.setNext (some x) (some p)).LineShape :=
  { h with
    paired := congrArg some (head.trans plan.symm)
    next := by rintro q ⟨⟩; exact ⟨c, cycle, plan, latched.trans (congrArg some planLen.symm)⟩ }

theorem State.lineShape_setNext_none {s : State} (h : s.LineShape) : (s.setNext none none).LineShape :=
  { h with paired := rfl, next := fun _ none => (Option.not_mem_none _ none).elim }

/-- The record that the line-down event leaves of one: PARKED with LINE_DOWN and hold 0, unless it is PARKED (R5). -/
def Terminal.downed (h : Terminal) : Terminal :=
  match h.phase with
  | .parked _ _ => h
  | _ => { h with phase := .parked .lineDown 0 }

theorem Terminal.downed_downed (h : Terminal) : h.downed.downed = h.downed := by
  unfold Terminal.downed
  cases phase : h.phase <;> simp [phase]

theorem Terminal.downed_park (h : Terminal) : h.downed.park.isSome := by
  unfold Terminal.downed
  split <;> simp_all [Terminal.park]

theorem State.term_lineDownRecord (s : State) (t u : Tag) :
    (s.lineDownRecord t).term u = if u = t then (s.term u).map Terminal.downed else s.term u := by
  unfold State.lineDownRecord
  cases holds : s.term t with
  | none => by_cases same : u = t <;> simp [same, holds]
  | some h =>
    dsimp only
    split
    · next reason hold phase =>
      by_cases same : u = t
      · subst same; simp [holds, Terminal.downed, phase]
      · simp [same]
    · next other =>
      rw [State.parkRecord, State.term_changeTerm]
      by_cases same : u = t
      · subst same
        simp only [if_true, holds, Option.map_some, Terminal.downed]
      · simp [same]

theorem mem_allTags (t : Tag) : t ∈ allTags := List.mem_finRange t

theorem State.term_lineDownRecords (l : List Tag) (s : State) (u : Tag) :
    (l.foldl State.lineDownRecord s).term u = if u ∈ l then (s.term u).map Terminal.downed else s.term u := by
  induction l generalizing s with
  | nil => simp
  | cons t l ih =>
    rw [List.foldl_cons, ih, State.term_lineDownRecord]
    by_cases same : u = t
    · subst same
      simp [Function.comp_def, Terminal.downed_downed]
    · simp [same]

theorem State.changes_changeTerm {s : State} {t u : Tag} {h : Option Terminal}
    (few : (s.roster.records.get u).changes ≤ 255) : ((s.changeTerm t h).roster.records.get u).changes ≤ 255 := by
  have put : ((s.putTerm t h).roster.records.get u).changes ≤ 255 := by
    simp only [State.putTerm, Bank.get_update]; split <;> exact few
  unfold State.changeTerm
  split
  · exact put
  · simp only [State.noteChange, Bank.get_update]
    split
    · exact satInc_le _ _
    · exact put

theorem State.changes_lineDownRecords (l : List Tag) (s : State) (u : Tag)
    (few : (s.roster.records.get u).changes ≤ 255) :
    ((l.foldl State.lineDownRecord s).roster.records.get u).changes ≤ 255 := by
  induction l generalizing s with
  | nil => exact few
  | cons t l ih =>
    refine ih _ ?_
    unfold State.lineDownRecord
    (repeat' split) <;> first | exact few | exact State.changes_changeTerm few

/-- The line-down event parks the records, empties the queues, the store, the lanes and the Supervisor's fields, and halts
census and converter (R5). -/
theorem State.lineDown_evolves (s : State) :
    ∃ records flags,
      Evolves
        { s with
          roster.records := records, link.recFlags := flags, roster.admission := [], roster.waiting := []
          lanes := s.lanes.map Lane.ended, planner.shots := [], line.notices := [], intake.store := []
          sup := .fill 128 .empty } s.lineDown ∧
      (∀ t : Tag, (records.get t).term = (s.term t).map Terminal.downed) ∧
      ∀ t : Tag, (s.roster.records.get t).changes ≤ 255 → (records.get t).changes ≤ 255 := by
  obtain ⟨records, flags, e⟩ := State.lineDownRecords_keeps allTags s
  refine ⟨records, flags, ?_, fun t => ?_, fun t few => ?_⟩
  · unfold State.lineDown
    rw [e]
    exact (State.evolves_censusLineDown _).trans (State.evolves_converterLineDown _)
  · have downed := s.term_lineDownRecords allTags t
    rw [e, if_pos (mem_allTags t)] at downed
    exact downed
  · have kept := s.changes_lineDownRecords allTags t few
    rw [e] at kept
    exact kept

theorem State.lineShape_darken {s : State} (h : s.LineShape) : s.darken.LineShape := by
  unfold State.darken
  split
  · exact h
  · exact h
  · exact s.lineShape_goDark
  · next running =>
    unfold State.enterDraining
    have drained : ((s.setDrain 4 false).enterLine .draining).lineDown.LineShape := by
      obtain ⟨records, flags, run, -⟩ := ((s.setDrain 4 false).enterLine .draining).lineDown_evolves
      have lit : s.lit = true := by simp [State.lit, running]
      refine State.lineShape_evolves run { h with
        enable := h.enable.trans lit, cycle := h.cycle.trans lit
        newest := fun _ none => (Option.not_mem_none _ none).elim }
    have cycleAfter : ((s.setDrain 4 false).enterLine .draining).lineDown.line.cycle = s.line.cycle := by
      obtain ⟨_, _, run, -⟩ := ((s.setDrain 4 false).enterLine .draining).lineDown_evolves
      exact run.line_cycle
    dsimp only
    split
    · next c cycle =>
      split
      · next len latched =>
        exact State.lineShape_setNext drained (cycleAfter.trans cycle) latched _ _ rfl rfl rfl
      · exact State.lineShape_setNext_none drained
    · exact State.lineShape_setNext_none drained

theorem State.lineShape_closePlan {s : State} (h : s.LineShape) : s.closePlan.LineShape := by
  unfold State.closePlan
  split
  · exact h
  next c cycle =>
  split
  · exact h
  next unlatched =>
  dsimp only
  have unplanned : s.planner.built = none := by
    cases built : s.planner.built with
    | none => rfl
    | some p =>
      obtain ⟨c', same, _, latched⟩ := h.next p built
      cases cycle.symm.trans same
      cases unlatched.symm.trans latched
  have shape : ((s.setTick (c.start + BitVec.ofNat 32 (closeOffset s.line.settings c.len))).setCycle
      (some { c with next := some s.line.pendingLen })).LineShape := by
    refine { h with cycle := ?_, next := ?_, newest := ?_ }
    · have lit := h.cycle
      rw [cycle] at lit
      exact lit
    · intro p built; cases unplanned.symm.trans built
    · intro p last
      obtain ⟨c', same, num⟩ := h.newest p last
      cases cycle.symm.trans same
      exact ⟨_, rfl, num⟩
  split
  · exact h
  · exact State.lineShape_setNext shape rfl rfl _ _ rfl rfl rfl
  · next running =>
    generalize latch : State.setCycle _ _ = u at shape ⊢
    have runs : u.line.state = .running := latch ▸ running
    have latched : u.line.cycle = some { c with next := some s.line.pendingLen } := latch ▸ rfl
    obtain ⟨u', p, v, before, after, num, len, _, e⟩ := State.closeRunning_evolves runs (c.num + 1) s.line.pendingLen
    have placed := State.lineShape_evolves before shape
    have cycleAfter : v.line.cycle = some { c with next := some s.line.pendingLen } :=
      after.line_cycle.trans (before.line_cycle.trans latched)
    have planned : v.planner.built = some p := after.planner_built
    have lit : v.lit = u'.lit := by simp only [State.lit, after.line_state, State.setBuilt_line]
    rw [e]
    refine ⟨?_, ?_, ?_, ?_, fun q last => ?_⟩
    · exact after.line_txEnable.trans (placed.enable.trans lit.symm)
    · exact (congrArg Option.isSome after.line_cycle).trans (placed.cycle.trans lit.symm)
    · simp [planned, num]
    · intro q built
      cases planned.symm.trans built
      exact ⟨_, cycleAfter, num, congrArg some len.symm⟩
    · obtain ⟨q', last', num', start', len'⟩ := after.newest q last
      obtain ⟨c', same, rest⟩ := placed.newest q' last'
      rw [num', start', len']
      exact ⟨c', after.line_cycle.trans same, rest⟩
  · split
    · exact State.lineShape_setNext_none shape
    · exact State.lineShape_setNext shape rfl rfl _ _ rfl rfl rfl

theorem State.lineShape_reset : State.reset.LineShape where
  enable := rfl
  cycle := rfl
  paired := rfl
  next _ none := (Option.not_mem_none _ none).elim
  newest _ none := (Option.not_mem_none _ none).elim

theorem State.lineShape_request {s t : State} (move : HostMove s t) (h : s.LineShape) : t.LineShape := by
  cases move with
  | mask | handler | settings | pendingLen | profile | admission | beginCensus | converter | curve
  | calibrate | clearStrangers | lift => exact { h with }
  | light now dark => exact State.lineShape_light now
  | darken => exact State.lineShape_darken h
  | load serial tag profile =>
    rcases s.loadEntry_cases serial tag profile with same | ⟨u, p, may, e⟩
    · rw [same]; exact h
    · rw [e]
      unfold State.withEntry
      dsimp only
      split <;> exact { h with }
  | drop serial => unfold State.unlist; split <;> exact { h with }
  | bar serial =>
    exact State.lineShape_evolves (State.evolves_expel { s with roster.barred := s.roster.barred ++ [serial] } serial)
      { h with }
  | stopSearch =>
    obtain ⟨n, run⟩ := s.stopSearch_evolves
    exact State.lineShape_evolves run { h with }
  | awaitLastWindow searching asked => exact State.lineShape_evolves (State.evolves_awaitLastWindow asked) h
  | clearSticky t => exact State.lineShape_evolves (s.evolves_clearSticky t) h
  | park t x holds => exact State.lineShape_evolves (State.evolves_hostPark holds) h
  | resume t x reason hold holds was => exact State.lineShape_evolves (State.evolves_resume holds was) h
  | release t x holds told => exact State.lineShape_evolves (State.evolves_release holds told) h

theorem State.lineShape_moveClosed : MoveClosed State.LineShape where
  link _ h := { h with }
  pending _ h := { h with }
  chooses {s} h := by
    obtain ⟨_, _, _, _, _, _, _, _, _, e, -⟩ := s.chooseFrame_keeps
    rw [e]
    exact { h with }
  reset straps cause _ := { State.lineShape_reset with }
  lineRestart _ := { State.lineShape_reset with }
  request := State.lineShape_request
  move := State.lineShape_move
  startCycle := State.lineShape_startCycle
  endDraining {s} h := by
    unfold State.endDraining
    split
    · split
      · exact State.lineShape_goDark _
      · exact h
    · exact h
  closePlan := State.lineShape_closePlan

/-- Settles O55: no move writes the line's cycle, head or plan, and the events that write them write all that must agree. -/
theorem lineShapeKept : Obligations.LineShapeKept :=
  fun _ _ h run => State.lineShape_moveClosed.step run h

end Sys2Proof.Machine

/-! PROOFS. The part outside RUNNING (01): nothing that depends on the line is in flight there. -/

namespace Sys2Proof.Machine

/-- The part is quiet outside RUNNING, and a census that is STOPPED has no node outstanding: what the line-down event needs
of the census (R116). -/
structure State.QuietHolds (s : State) : Prop where
  quiet : s.QuietOffRunning
  stopped : s.census.state = .stopped → s.census.outstanding = none

/-- In a quiet part no record stands in the admission queue or in a lane, so that a record is detached from nothing. -/
theorem State.Quiet.detach {s : State} (q : s.Quiet) {t : Tag} {h : Terminal} (holds : s.term t = some h) :
    s.detach t h = s := by
  have parked := q.records t h holds
  unfold Terminal.park at parked
  unfold State.detach
  split at parked
  · next phase => simp [phase]
  · cases parked

theorem State.Quiet.putTerm {s : State} (q : s.Quiet) (t : Tag) {k : Option Terminal} (parked : ∀ h ∈ k, h.park.isSome) :
    (s.putTerm t k).Quiet := by
  refine { q with records := fun u h holds => ?_ }
  rw [State.term_putTerm] at holds
  split at holds
  · exact parked h holds
  · exact q.records u h holds

theorem State.quiet_countdowns {s : State} (q : s.Quiet) : s.countdowns.Quiet := by
  refine { q with records := fun t h holds => ?_ }
  have ticked : (s.roster.records.get t).holdTick.term = some h := by
    rw [Option.mem_def, State.term, State.countdowns] at holds
    simpa using holds
  unfold Record.holdTick at ticked
  split at ticked
  · next k held =>
    split at ticked
    · cases ticked; simp [Terminal.park]
    · exact q.records t h ticked
  · exact q.records t h ticked

/-- No move stirs a quiet part. -/
theorem State.quiet_move {s t : State} (move : Move s t) (off : s.line.state ≠ .running) (q : s.Quiet) : t.Quiet := by
  cases move with
  | notice _ running | shot _ running => exact absurd running off
  | fewerNotices l fewer => exact { q with notices := List.sublist_nil.mp (q.notices ▸ fewer) }
  | waiting l running => exact { q with waiting := running.resolve_right off }
  | fewerShots l fewer => exact { q with shots := List.sublist_nil.mp (q.shots ▸ fewer) }
  | sup t f stirred =>
    have still : f .empty = .empty := by
      rcases stirred with same | running | ⟨h, holds, unparked⟩
      · exact same
      · exact absurd running off
      · have := q.records t h holds; rw [unparked] at this; cases this
    refine { q with supervisor := fun u => ?_ }
    simp only [State.updSup, Bank.get_update, q.supervisor, still, ite_self]
  | put t h h' holds on =>
    exact q.putTerm t (by rintro k ⟨⟩; exact on.park (q.records t h holds))
  | noted t => exact { q with records := fun u h holds => q.records u h (s.term_noteChange t u ▸ holds) }
  | enter t h enters => exact absurd enters.running off
  | leave t h k holds leaves =>
    rw [q.detach holds]
    exact q.putTerm t fun h' hk => leaves.park h' hk (q.records t h holds)
  | stray i w has => rw [q.lanes i] at has; cases has
  | seize i t rest h w _ head => rw [q.admission] at head; cases head
  | vacant t rest head => rw [q.admission] at head; cases head
  | work i w w' has => rw [q.lanes i] at has; cases has
  | census c on =>
    refine { q with outstanding := not_not.mp fun asked => ?_ }
    exact (on.outstanding asked).elim (fun h => h q.outstanding) off
  | slot b wanted =>
    refine { q with slot := ?_ }
    cases b with
    | false => rfl
    | true => exact absurd q.calib (wanted rfl)
  | conv v on => exact { q with calib := on.absent q.calib }
  | countdowns => exact State.quiet_countdowns q
  | tick | stranger | fewerStrangers | overflowed | kinds | overruns | sweep | store | strayBurst => exact { q with }

theorem Move.census_stopped {s t : State} (move : Move s t)
    (h : s.census.state = .stopped → s.census.outstanding = none) :
    t.census.state = .stopped → t.census.outstanding = none := by
  cases move with
  | census c on => exact on.stopped h
  | leave t x => rw [State.putTerm_census, State.detach_census]; exact h
  | _ => exact h

theorem State.quietHolds_move {s t : State} (move : Move s t) (h : s.QuietHolds) : t.QuietHolds := by
  refine ⟨fun off => ?_, move.census_stopped h.stopped⟩
  have same : t.line.state = s.line.state := (congrArg LineTimer.state move.lineCore : t.lineCore.state = s.lineCore.state)
  exact State.quiet_move move (same ▸ off) (h.quiet (same ▸ off))

theorem State.quietHolds_evolves {s t : State} (run : Evolves s t) : s.QuietHolds → t.QuietHolds :=
  run.keeps State.quietHolds_move

/-! ## The events of the line -/

theorem State.quietHolds_issuePlan {s : State} (h : s.QuietHolds) (p : Plan) (start : Tick) :
    (s.issuePlan p start).QuietHolds :=
  State.quietHolds_evolves (State.evolves_issueSlot _ _ _ _) ⟨fun off => { h.quiet off with }, h.stopped⟩

theorem State.quietHolds_startCycle {s : State} (h : s.QuietHolds) : s.startCycle.QuietHolds := by
  cases next : s.nextCycle with
  | none => unfold State.startCycle; simp only [next]; exact h
  | some x =>
    obtain ⟨c, len, head, p⟩ := x
    refine State.quietHolds_evolves (State.startCycle_eq next) ?_
    have ended := State.quietHolds_evolves s.evolves_endFrame h
    obtain ⟨line, kinds, e, _, notices, _, _, _, _, _, _, _, state⟩ := s.endFrame.advanceCycle_keeps c len
    rw [e]
    have counted : (State.sendHead { s.endFrame with line := line, link.kinds := kinds } head).QuietHolds := by
      refine ⟨fun off => ?_, ended.stopped⟩
      have q := ended.quiet fun running => off <| by
        rcases state with same | ⟨_, running'⟩
        · exact same.trans running
        · exact running'
      exact { q with notices := notices.trans q.notices }
    exact State.quietHolds_issuePlan counted p _

theorem State.quietHolds_closePlan {s : State} (h : s.QuietHolds) : s.closePlan.QuietHolds := by
  unfold State.closePlan
  split
  · exact h
  next c _ =>
  split
  · exact h
  dsimp only
  have latched (x : Tick) (c : Option Cycle) : ((s.setTick x).setCycle c).QuietHolds :=
    ⟨fun off => { h.quiet off with }, h.stopped⟩
  have next {u : State} (hu : u.QuietHolds) (x : Option Head) (p : Option Plan) : (u.setNext x p).QuietHolds :=
    ⟨fun off => { hu.quiet off with }, hu.stopped⟩
  split
  · exact h
  · exact next (latched _ _) _ _
  · next running =>
    generalize latch : State.setCycle _ _ = u
    have runs : u.line.state = .running := latch ▸ running
    obtain ⟨u', p, v, before, after, _, _, _, e⟩ := State.closeRunning_evolves runs (c.num + 1) s.line.pendingLen
    have placed : u'.QuietHolds := State.quietHolds_evolves before (latch ▸ latched _ _)
    have planned : (u'.setBuilt (some p)).QuietHolds := ⟨fun off => { placed.quiet off with }, placed.stopped⟩
    have posted := State.quietHolds_evolves after planned
    rw [e]
    exact ⟨fun off => { posted.quiet off with }, posted.stopped⟩
  · split
    · exact next (latched _ _) _ _
    · exact next (latched _ _) _ _

/-- The line-down event in the census leaves no node outstanding (R116). -/
theorem State.censusLineDown_quiet {s : State} (h : s.census.state = .stopped → s.census.outstanding = none) :
    ∃ c k, s.censusLineDown = { s with census := c, link.kinds := k } ∧ c.outstanding = none := by
  unfold State.censusLineDown
  split
  · next stopped => exact ⟨s.census, s.link.kinds, rfl, h stopped⟩
  · exact ⟨_, _, rfl, rfl⟩

/-- The line-down event in the converter leaves no calibration and wants no dark slot (R166). -/
theorem State.converterLineDown_quiet (s : State) :
    ∃ v k, s.converterLineDown = { s with conv := v, planner.slotWanted := false, link.kinds := k } ∧ v.calib = none := by
  unfold State.converterLineDown
  dsimp only
  split
  · exact ⟨_, _, rfl, rfl⟩
  · next none => exact ⟨_, s.link.kinds, rfl, none⟩

theorem State.quiet_lineDown {s : State} (h : s.census.state = .stopped → s.census.outstanding = none) :
    s.lineDown.Quiet := by
  have parked := s.term_lineDownRecords allTags
  obtain ⟨records, flags, e⟩ := State.lineDownRecords_keeps allTags s
  unfold State.lineDown
  rw [e] at parked ⊢
  dsimp only
  generalize cleared : State.setSup _ _ = u
  have still : u.census.state = .stopped → u.census.outstanding = none := by subst cleared; exact h
  obtain ⟨c, k, census, settled⟩ := State.censusLineDown_quiet still
  obtain ⟨v, k', conv, done⟩ := State.converterLineDown_quiet u.censusLineDown
  rw [conv, census]
  subst cleared
  refine ⟨rfl, rfl, rfl, rfl, fun i => ?_, fun t => ?_, fun t x holds => ?_, settled, done, rfl⟩
  · simp [State.work, Lane.ended]
  · simp
  · have downed : (s.term t).map Terminal.downed = some x := by
      have := parked t
      rw [if_pos (mem_allTags t)] at this
      exact this.symm.trans holds
    obtain ⟨y, _, rfl⟩ := Option.map_eq_some_iff.mp downed
    exact y.downed_park

theorem State.quietHolds_setNext {s : State} (h : s.QuietHolds) (x : Option Head) (p : Option Plan) :
    (s.setNext x p).QuietHolds :=
  ⟨fun off => { h.quiet off with }, h.stopped⟩

theorem State.quietHolds_goDark {s : State} (h : s.QuietHolds) (off : s.line.state ≠ .running) :
    s.goDark.QuietHolds :=
  ⟨fun _ => { h.quiet off with }, h.stopped⟩

theorem State.quietHolds_darken {s : State} (h : s.QuietHolds) : s.darken.QuietHolds := by
  unfold State.darken
  split
  · exact h
  · exact h
  · next warming => exact State.quietHolds_goDark h (by simp [warming])
  · have quiet := State.quiet_lineDown (s := (s.setDrain 4 false).enterLine .draining) h.stopped
    have drained : ((s.setDrain 4 false).enterLine .draining).lineDown.QuietHolds :=
      ⟨fun _ => quiet, fun _ => quiet.outstanding⟩
    unfold State.enterDraining
    dsimp only
    (repeat' split) <;> exact State.quietHolds_setNext drained _ _

theorem State.quietHolds_light {s : State} (h : s.QuietHolds) (dark : s.line.state = .dark) (now : Tick) :
    (s.light now).QuietHolds := by
  unfold State.light
  have lit (x : Tick) (c : Option Cycle) (n : Nat) (head : Head) :
      ((((((((s.setEnable true).setTick x).setCycle c).setWarmup n).setDrain 0 false).enterLine .warming).sendHead
        head)).QuietHolds :=
    ⟨fun _ => { h.quiet (by simp [dark]) with }, h.stopped⟩
  exact State.quietHolds_move Move.countdowns (State.quietHolds_issuePlan (lit _ _ _ _) _ _)

theorem State.quietHolds_endDraining {s : State} (h : s.QuietHolds) : s.endDraining.QuietHolds := by
  unfold State.endDraining
  split
  · split
    · next last =>
      have off : s.line.state ≠ .running := by
        unfold State.lastDraining at last
        intro running
        simp [running] at last
      exact State.quietHolds_goDark (s := s.setTick _) ⟨fun off => { h.quiet off with }, h.stopped⟩ off
    · exact h
  · exact h

theorem State.quiet_reset : State.reset.Quiet := by
  refine ⟨rfl, rfl, rfl, rfl, fun i => ?_, fun t => ?_, fun t h holds => ?_, rfl, rfl, rfl⟩
  · simp [State.reset, State.work, Lane.free]
  · simp [State.reset]
  · simp [State.reset, Roster.reset, State.term, Record.free] at holds

theorem State.quietHolds_request {s t : State} (move : HostMove s t) (h : s.QuietHolds) : t.QuietHolds := by
  have listed (l : List Expected) (q : s.Quiet) : State.Quiet { s with roster.expected := l } := { q with }
  have on {u : State} (state : u.line.state = s.line.state) (quiet : s.Quiet → u.Quiet)
      (census : u.census = s.census) : u.QuietHolds :=
    ⟨fun off => quiet (h.quiet (state ▸ off)), census ▸ h.stopped⟩
  cases move with
  | mask | handler | settings | pendingLen | profile | admission | converter | curve | clearStrangers | lift =>
    exact on rfl (fun q => { q with }) rfl
  | light now dark => exact State.quietHolds_light h dark now
  | darken => exact State.quietHolds_darken h
  | load serial tag profile =>
    rcases s.loadEntry_cases serial tag profile with same | ⟨u, p, may, e⟩
    · rw [same]; exact h
    · rw [e]
      unfold State.withEntry
      dsimp only
      split
      · next x holds =>
        refine on rfl (fun q => (listed _ q).putTerm u ?_) rfl
        rintro y ⟨⟩
        exact q.records u x holds
      · exact on rfl (fun q => { q with }) rfl
  | drop serial =>
    unfold State.unlist
    split
    · exact on rfl (fun q => { q with }) rfl
    · next t _ =>
      refine on rfl (fun q => (listed _ q).putTerm t fun y holds => ?_) rfl
      obtain ⟨x, held, rfl⟩ := Option.map_eq_some_iff.mp holds
      exact q.records t x held
  | bar serial =>
    exact State.quietHolds_evolves (State.evolves_expel { s with roster.barred := s.roster.barred ++ [serial] } serial)
      (on rfl (fun q => { q with }) rfl)
  | beginCensus mode interval split pattern mask takes stopped =>
    exact ⟨fun off => { h.quiet off with }, fun _ => h.stopped stopped⟩
  | stopSearch =>
    obtain ⟨n, run⟩ := s.stopSearch_evolves
    exact State.quietHolds_evolves run (on rfl (fun q => { q with }) rfl)
  | awaitLastWindow searching asked => exact State.quietHolds_evolves (State.evolves_awaitLastWindow asked) h
  | clearSticky t => exact State.quietHolds_evolves (s.evolves_clearSticky t) h
  | park t x holds => exact State.quietHolds_evolves (State.evolves_hostPark holds) h
  | resume t x reason hold holds was => exact State.quietHolds_evolves (State.evolves_resume holds was) h
  | release t x holds told => exact State.quietHolds_evolves (State.evolves_release holds told) h
  | calibrate target running => exact ⟨fun off => absurd running off, h.stopped⟩

theorem State.quietHolds_moveClosed : MoveClosed State.QuietHolds where
  link _ h := ⟨fun off => { h.quiet off with }, h.stopped⟩
  pending _ h := ⟨fun off => { h.quiet off with }, h.stopped⟩
  chooses {s} h := by
    obtain ⟨_, _, _, _, _, _, _, _, _, e, kept, -⟩ := s.chooseFrame_keeps
    rw [e]
    refine ⟨fun off => ?_, h.stopped⟩
    have q := h.quiet off
    exact { q with records := fun t x holds => q.records t x ((kept t).symm.trans holds) }
  reset straps cause _ := ⟨fun _ => { State.quiet_reset with }, fun _ => rfl⟩
  lineRestart _ := ⟨fun _ => { State.quiet_reset with }, fun _ => rfl⟩
  request := State.quietHolds_request
  move := State.quietHolds_move
  startCycle := State.quietHolds_startCycle
  endDraining := State.quietHolds_endDraining
  closePlan := State.quietHolds_closePlan

/-- Settles O59: no move stirs a quiet part, and each way out of RUNNING is the line-down event or a reset. -/
theorem quietOffRunningKept : Obligations.QuietOffRunningKept :=
  fun _ _ quiet census run =>
    (State.quietHolds_moveClosed.step run ⟨quiet, fun stopped => (census.stopped stopped).2⟩).quiet

end Sys2Proof.Machine

/-! PROOFS. Measures (03), and what an admission queue that names a PARKED record does to them. -/

namespace Sys2Proof.Machine

/-! ## The settings after a reset -/

theorem State.settingsInRange_reset : State.reset.SettingsInRange where
  line := ⟨by decide, by decide, by decide, by decide, by decide, by decide, by decide, by decide⟩
  pendingLen := ⟨by decide, by decide⟩
  cycle _ none := (Option.not_mem_none _ none).elim
  warmup := by decide
  profiles n := by
    rw [show State.reset.roster.profiles.get n = Profile.default from Bank.get_fill ..]
    exact ⟨by decide, by decide, by decide, by decide, by decide, by decide, by decide, by decide, by decide, by decide,
      by decide⟩
  pool := by decide
  interval := by decide
  offset := by decide
  curve := by decide
  calib _ none := (Option.not_mem_none _ none).elim

/-! ## A PARKED record that waits for a lane -/

/-- A record PARKED with a coarse echo of 0, as earlier settings may have left it (R52). -/
def staleRecord : Terminal :=
  { serial := 1, listed := false, profile := 0, coarse := 0, level := none, flags := .clear, heardCycle := 0,
    phase := .parked .host 0 }

/-- The line runs, its plan close is next, and the admission queue names the PARKED record of tag 1. -/
def staleAdmission : State :=
  { State.reset with
    line.state := .running, line.cycle := some ⟨0, 0, 312500, none⟩
    roster.records := State.reset.roster.records.update 0 fun r => { r with term := some staleRecord }
    roster.admission := [0]
    pending := [.planClose] }

theorem staleAdmission_term (t : Tag) : ∀ h ∈ staleAdmission.term t, h = staleRecord := by
  intro h holds
  have term : staleAdmission.term t = if t = 0 then some staleRecord else none := by
    unfold State.term staleAdmission
    rw [Bank.get_update]
    split
    · rfl
    · rw [show State.reset.roster.records.get t = Record.free from Bank.get_fill ..]; rfl
  rw [term] at holds
  split at holds <;> simp_all

theorem staleAdmission_work (i : LaneNo) : staleAdmission.work i = none := by
  unfold State.work staleAdmission
  rw [show State.reset.lanes.get i = Lane.free from Bank.get_fill ..]; rfl

theorem staleAdmission_measures : staleAdmission.MeasuresInRange where
  coarse t h holds := by rw [staleAdmission_term t h holds]; decide
  echo t h holds x held := by rw [staleAdmission_term t h holds] at held; cases held
  trimmed i w has := by rw [staleAdmission_work i] at has; cases has
  level t h holds v held := by rw [staleAdmission_term t h holds] at held; cases held
  sampled i w has := by rw [staleAdmission_work i] at has; cases has

theorem staleAdmission_settings : staleAdmission.SettingsInRange :=
  { State.settingsInRange_reset with cycle := by rintro c ⟨⟩; exact ⟨⟨by decide, by decide⟩, nofun⟩ }

/-- The record of tag 1 is in service after a step, with a coarse echo below E_min. -/
def firstTooNear (x : Host.Outcome State Fault Refusal) : Bool :=
  match x with
  | .next t => (t.term 0).any fun h => h.park == none && h.coarse < (t.line.settings.eMin : Int)
  | _ => false

theorem firstTooNear_staleAdmission : firstTooNear (step staleAdmission) = true := by decide +kernel

/-- Refutes O57: without RosterShape the admission queue may name a PARKED record; the seizure takes it out of its park with
a coarse echo below E_min. -/
theorem not_measuresKept : ¬ Obligations.MeasuresKept := by
  intro kept
  obtain ⟨t, run⟩ := exec_next .planClose { staleAdmission with pending := [] }
  have tooNear := firstTooNear_staleAdmission
  rw [show step staleAdmission = .next t from run, firstTooNear, Option.any_eq_true] at tooNear
  obtain ⟨h, holds, near⟩ := tooNear
  simp only [Bool.and_eq_true, beq_iff_eq, decide_eq_true_eq] at near
  obtain ⟨unparked, near⟩ := near
  have measures := kept staleAdmission t staleAdmission_measures staleAdmission_settings
    (fun off => absurd rfl off) run
  obtain ⟨-, -, inRange⟩ := measures.coarse 0 h holds
  exact absurd (inRange unparked).1 (not_le.mpr near)

end Sys2Proof.Machine

/-! PROOFS. Settings and counts (R6, R7, R10, R21, R23, R48, R102, R114, R118, R157 to R159). -/

namespace Sys2Proof.Machine

/-- Every setting and every count is in its range. -/
structure State.InBounds (s : State) : Prop where
  settings : s.SettingsInRange
  counts : s.CountsCapped

/-! ## The moves -/

theorem State.work_bumpSeizure (s : State) (i j : LaneNo) : (s.bumpSeizure i).work j = s.work j := by
  simp only [State.work, State.bumpSeizure, Bank.get_update]
  split <;> rfl

theorem State.CountsCapped.putTerm {s : State} (h : s.CountsCapped) (t : Tag) {k : Option Terminal}
    (capped : ∀ x ∈ k, x.phase.Capped) : (s.putTerm t k).CountsCapped := by
  refine { h with changes := fun u => ?_, phases := fun u x holds => ?_ }
  · simp only [State.putTerm, Bank.get_update]
    split <;> exact h.changes u
  · rw [State.term_putTerm] at holds
    split at holds
    · exact capped x holds
    · exact h.phases u x holds

theorem State.CountsCapped.noteChange {s : State} (h : s.CountsCapped) (t : Tag) : (s.noteChange t).CountsCapped := by
  refine { h with changes := fun u => ?_, phases := fun u x holds => h.phases u x (s.term_noteChange t u ▸ holds) }
  simp only [State.noteChange, Bank.get_update]
  split
  · exact satInc_le _ _
  · exact h.changes u

theorem State.CountsCapped.freeLane {s : State} (h : s.CountsCapped) (i : LaneNo) : (s.freeLane i).CountsCapped := by
  refine { h with lanes := fun j w has => ?_ }
  rw [State.work_freeLane] at has
  split at has
  · cases has
  · exact h.lanes j w has

theorem State.CountsCapped.setWork {s : State} (h : s.CountsCapped) (i : LaneNo) {w : LaneWork} (capped : w.Capped) :
    (s.setWork i (some w)).CountsCapped := by
  refine { h with lanes := fun j w' has => ?_ }
  rw [State.work_setWork] at has
  split at has
  · cases has; exact capped
  · exact h.lanes j w' has

theorem State.CountsCapped.detach {s : State} (h : s.CountsCapped) (t : Tag) (x : Terminal) :
    (s.detach t x).CountsCapped := by
  unfold State.detach
  split
  · exact { h with }
  · exact h.freeLane _
  · exact { h with }
  · exact { h with }
  · exact h

theorem State.CountsCapped.countdowns {s : State} (h : s.CountsCapped) : s.countdowns.CountsCapped := by
  have ticked (r : Record) (capped : ∀ x ∈ r.term, x.phase.Capped) :
      r.holdTick.changes = r.changes ∧ ∀ x ∈ r.holdTick.term, x.phase.Capped := by
    unfold Record.holdTick
    split
    · next y holds =>
      split
      · next phase =>
        have held := capped y holds
        rw [phase] at held
        refine ⟨rfl, fun x hx => ?_⟩
        cases hx
        exact (Nat.sub_le _ _).trans held
      · exact ⟨rfl, capped⟩
    · exact ⟨rfl, capped⟩
  refine { h with wait := (Nat.sub_le _ _).trans h.wait, changes := fun t => ?_, phases := fun t x holds => ?_ }
  · simp only [State.countdowns, Bank.get_map, (ticked _ (h.phases t)).1]
    exact h.changes t
  · rw [Option.mem_def, State.term, State.countdowns, Bank.get_map] at holds
    exact (ticked _ (h.phases t)).2 x holds

theorem State.settingsInRange_move {s t : State} (move : Move s t) (h : s.SettingsInRange) : t.SettingsInRange := by
  cases move with
  | conv v on => exact { h with offset := on.offset h, curve := fun k => by rw [on.curve]; exact h.curve k, calib := on.calib h }
  | census c on => exact { h with interval := by rw [State.setCensus_census, on.interval]; exact h.interval }
  | leave t x =>
    unfold State.detach
    split <;> exact { h with }
  | _ => exact { h with }

theorem State.inBounds_move {s t : State} (move : Move s t) (h : s.InBounds) : t.InBounds := by
  refine ⟨State.settingsInRange_move move h.settings, ?_⟩
  have c := h.counts
  cases move with
  | put t x x' holds on =>
    exact c.putTerm t (by rintro y ⟨⟩; exact on.capped h.settings (c.phases t x holds))
  | noted t => exact c.noteChange t
  | enter t x enters =>
    have put : (s.putTerm t (some x)).CountsCapped :=
      c.putTerm t (by rintro y ⟨⟩; rw [enters.heard]; trivial)
    exact { put with }
  | leave t x k holds leaves => exact (c.detach t x).putTerm t fun y hy => leaves.capped y hy h.settings
  | stray i => exact c.freeLane i
  | seize i t rest x w _ _ _ _ capped =>
    have queue : (s.setAdmissionQueue rest).CountsCapped := { c with }
    have put : ((s.setAdmissionQueue rest).putTerm t (some { x with phase := .engaged i none })).CountsCapped :=
      queue.putTerm t (by rintro y ⟨⟩; trivial)
    have bumped : (((s.setAdmissionQueue rest).putTerm t (some { x with phase := .engaged i none })).bumpSeizure i).CountsCapped :=
      { put with lanes := fun j y has => put.lanes j y (s.setAdmissionQueue rest |>.putTerm t _ |>.work_bumpSeizure i j ▸ has) }
    exact bumped.setWork i capped
  | work i w w' has on => exact c.setWork i (on.capped h.settings (c.lanes i w has))
  | census n on =>
    obtain ⟨counters, wait, passes⟩ := on.capped h.settings c
    exact { c with counters := counters, wait := wait, passes := passes }
  | overruns n _ capped => exact { c with overruns := capped }
  | sweep n capped => exact { c with sweep := capped.elim id (fun same => same ▸ c.sweep) }
  | countdowns => exact c.countdowns
  | _ => exact { c with }

theorem State.inBounds_evolves {s t : State} (run : Evolves s t) : s.InBounds → t.InBounds :=
  run.keeps State.inBounds_move

/-! ## The events of the line -/

theorem State.inBounds_issuePlan {s : State} (h : s.InBounds) (p : Plan) (start : Tick) :
    (s.issuePlan p start).InBounds :=
  State.inBounds_evolves (State.evolves_issueSlot _ _ _ _) ⟨{ h.settings with }, { h.counts with }⟩

theorem State.inBounds_startCycle {s : State} (h : s.InBounds) : s.startCycle.InBounds := by
  cases next : s.nextCycle with
  | none => unfold State.startCycle; simp only [next]; exact h
  | some x =>
    obtain ⟨c, len, head, p⟩ := x
    refine State.inBounds_evolves (State.startCycle_eq next) ?_
    obtain ⟨_, cycle, latched, _, _⟩ := State.nextCycle_some next
    have ended := State.inBounds_evolves s.evolves_endFrame h
    obtain ⟨line, kinds, e, started, _, _, settings, pendingLen, _, warmup, drain, transitions, _⟩ :=
      s.endFrame.advanceCycle_keeps c len
    rw [e]
    have inRange : cycleLengthOk len := (h.settings.cycle c cycle).2 len latched
    have counted : (State.sendHead { s.endFrame with line := line, link.kinds := kinds } head).InBounds := by
      have t := ended.settings
      have u := ended.counts
      refine ⟨{ t with
        line := settings ▸ t.line, pendingLen := pendingLen ▸ t.pendingLen, warmup := warmup.trans t.warmup
        cycle := ?_ }, { u with transitions := transitions u.transitions, drainLeft := drain.trans u.drainLeft }⟩
      intro c' same
      cases started.symm.trans same
      exact ⟨inRange, nofun⟩
    exact State.inBounds_issuePlan counted p _

theorem State.inBounds_setNext {s : State} (h : s.InBounds) (x : Option Head) (p : Option Plan) :
    (s.setNext x p).InBounds :=
  ⟨{ h.settings with }, { h.counts with }⟩

theorem State.inBounds_closePlan {s : State} (h : s.InBounds) : s.closePlan.InBounds := by
  unfold State.closePlan
  split
  · exact h
  next c cycle =>
  split
  · exact h
  dsimp only
  have latched (x : Tick) : ((s.setTick x).setCycle (some { c with next := some s.line.pendingLen })).InBounds := by
    refine ⟨{ h.settings with cycle := ?_ }, { h.counts with }⟩
    rintro c' ⟨⟩
    refine ⟨(h.settings.cycle c cycle).1, ?_⟩
    rintro n ⟨⟩
    exact h.settings.pendingLen
  split
  · exact h
  · exact State.inBounds_setNext (latched _) _ _
  · next running =>
    specialize latched (c.start + BitVec.ofNat 32 (closeOffset s.line.settings c.len))
    generalize latch : State.setCycle _ _ = u at latched ⊢
    have runs : u.line.state = .running := latch ▸ running
    obtain ⟨u', p, v, before, after, _, _, _, e⟩ := State.closeRunning_evolves runs (c.num + 1) s.line.pendingLen
    have placed : u'.InBounds := State.inBounds_evolves before latched
    have planned : (u'.setBuilt (some p)).InBounds := ⟨{ placed.settings with }, { placed.counts with }⟩
    have posted := State.inBounds_evolves after planned
    rw [e]
    exact ⟨{ posted.settings with }, { posted.counts with }⟩
  · split
    · exact State.inBounds_setNext (latched _) _ _
    · exact State.inBounds_setNext (latched _) _ _

theorem State.inBounds_goDark {s : State} (h : s.InBounds) : s.goDark.InBounds :=
  ⟨{ h.settings with cycle := fun _ none => (Option.not_mem_none _ none).elim, warmup := Nat.zero_le _ },
    { h.counts with transitions := satInc_le _ _, drainLeft := Nat.zero_le _ }⟩

theorem State.inBounds_endDraining {s : State} (h : s.InBounds) : s.endDraining.InBounds := by
  unfold State.endDraining
  split
  · split
    · exact State.inBounds_goDark (s := s.setTick _) ⟨{ h.settings with }, { h.counts with }⟩
    · exact h
  · exact h

theorem State.inBounds_light {s : State} (h : s.InBounds) (now : Tick) : (s.light now).InBounds := by
  have few : 2 ^ s.line.settings.exponent ≤ 4096 := Nat.pow_le_pow_right (by decide) h.settings.line.exponent.2
  have lit (head : Head) :
      ((((((((s.setEnable true).setTick now).setCycle (some ⟨0, now, s.line.pendingLen, none⟩)).setWarmup
        (2 ^ s.line.settings.exponent)).setDrain 0 false).enterLine .warming).sendHead head)).InBounds := by
    refine ⟨{ h.settings with cycle := ?_, warmup := few },
      { h.counts with transitions := satInc_le _ _, drainLeft := Nat.zero_le _ }⟩
    rintro c ⟨⟩
    exact ⟨h.settings.pendingLen, nofun⟩
  exact State.inBounds_move Move.countdowns (State.inBounds_issuePlan (lit _) _ _)

theorem Terminal.downed_capped {h : Terminal} (capped : h.phase.Capped) : h.downed.phase.Capped := by
  unfold Terminal.downed
  split
  · exact capped
  · exact Nat.zero_le _

theorem State.inBounds_lineDown {s : State} (h : s.InBounds) : s.lineDown.InBounds := by
  obtain ⟨records, flags, run, downed, few⟩ := s.lineDown_evolves
  refine State.inBounds_evolves run ⟨{ h.settings with }, { h.counts with
    changes := fun t => few t (h.counts.changes t), phases := fun t x holds => ?_, lanes := fun i w has => ?_ }⟩
  · obtain ⟨y, held, rfl⟩ := Option.map_eq_some_iff.mp ((downed t).symm.trans holds)
    exact Terminal.downed_capped (h.counts.phases t y held)
  · simp [State.work, Lane.ended] at has

theorem State.inBounds_darken {s : State} (h : s.InBounds) : s.darken.InBounds := by
  unfold State.darken
  split
  · exact h
  · exact h
  · exact State.inBounds_goDark h
  · have draining : ((s.setDrain 4 false).enterLine .draining).InBounds :=
      ⟨{ h.settings with }, { h.counts with transitions := satInc_le _ _, drainLeft := le_rfl }⟩
    have drained := State.inBounds_lineDown draining
    unfold State.enterDraining
    dsimp only
    (repeat' split) <;> exact State.inBounds_setNext drained _ _

/-! ## The requests -/

theorem LineSettings.clamped_inRange (a : LineSettings) : a.clamped.InRange := by
  have ref := clampNat_mem (by decide : 100000 ≤ 262143) a.ref
  exact ⟨ref, (clampNat_mem (Nat.zero_le _) _).2, clampNat_mem (by decide) _, clampNat_mem (by decide) _,
    clampNat_mem (by decide) _, clampNat_mem (by decide) _, (clampNat_mem (Nat.zero_le 3) _).2, clampNat_mem (by decide) _⟩

theorem Profile.clamped_inRange (a : Profile) : a.clamped.InRange :=
  ⟨clampNat_mem (by decide) _, clampNat_mem (by decide) _, clampInt_mem (by decide) _, clampInt_mem (by decide) _,
    clampNat_mem (by decide) _, (clampNat_mem (Nat.zero_le 255) _).2, clampNat_mem (by decide) _, clampNat_mem (by decide) _,
    clampNat_mem (by decide) _, clampNat_mem (by decide) _, (clampNat_mem (Nat.zero_le 65535) _).2⟩

theorem writeCurve_inRange {curve : Bank Int 33} (inRange : ∀ k, -600 ≤ curve.get k ∧ curve.get k ≤ 100) (start : Nat)
    (values : List Int) (k : Fin 33) :
    -600 ≤ (writeCurve curve start values).get k ∧ (writeCurve curve start values).get k ≤ 100 := by
  induction values generalizing curve start with
  | nil => exact inRange k
  | cons v values ih =>
    unfold writeCurve
    split
    · refine ih (fun j => ?_) _
      rw [Bank.get_set]
      split
      · exact clampInt_mem (by decide) v
      · exact inRange j
    · exact inRange k

theorem State.inBounds_request {s t : State} (move : HostMove s t) (h : s.InBounds) : t.InBounds := by
  have c := h.counts
  cases move with
  | mask | handler | clearStrangers | lift => exact ⟨{ h.settings with }, { c with }⟩
  | settings a => exact ⟨{ h.settings with line := a.clamped_inRange }, { c with }⟩
  | pendingLen n => exact ⟨{ h.settings with pendingLen := clampNat_mem (by decide) n }, { c with }⟩
  | light now dark => exact State.inBounds_light h now
  | darken => exact State.inBounds_darken h
  | profile n a =>
    refine ⟨{ h.settings with profiles := fun m => ?_ }, { c with }⟩
    simp only [Bank.get_set]
    split
    · exact a.clamped_inRange
    · exact h.settings.profiles m
  | admission mode low high profile bounds =>
    simp only [poolBoundsOk, Bool.and_eq_true, decide_eq_true_eq] at bounds
    exact ⟨{ h.settings with pool := ⟨bounds.1.1, bounds.1.2, bounds.2⟩ }, { c with }⟩
  | load serial tag profile =>
    rcases s.loadEntry_cases serial tag profile with same | ⟨u, p, may, e⟩
    · rw [same]; exact h
    · rw [e]
      have listed : State.CountsCapped { s with roster.expected := s.roster.expected ++ [⟨serial, u, p⟩] } := { c with }
      unfold State.withEntry
      dsimp only
      split
      · next x holds =>
        exact ⟨{ h.settings with }, listed.putTerm u (by rintro y ⟨⟩; exact c.phases u x holds)⟩
      · exact ⟨{ h.settings with }, listed⟩
  | drop serial =>
    have listed : State.CountsCapped
        { s with roster.expected := s.roster.expected.filter fun e => e.serial != serial } := { c with }
    unfold State.unlist
    split
    · exact ⟨{ h.settings with }, listed⟩
    · next t _ =>
      refine ⟨{ h.settings with }, listed.putTerm t fun y holds => ?_⟩
      obtain ⟨x, held, rfl⟩ := Option.map_eq_some_iff.mp holds
      exact c.phases t x held
  | bar serial =>
    exact State.inBounds_evolves (State.evolves_expel { s with roster.barred := s.roster.barred ++ [serial] } serial)
      ⟨{ h.settings with }, { c with }⟩
  | beginCensus mode interval split pattern mask =>
    refine ⟨{ h.settings with interval := clampNat_mem (by decide) interval },
      { c with wait := Nat.zero_le _, counters := ?_ }⟩
    constructor <;> exact Nat.zero_le _
  | stopSearch =>
    obtain ⟨n, run⟩ := s.stopSearch_evolves
    exact State.inBounds_evolves run ⟨{ h.settings with }, { c with }⟩
  | awaitLastWindow searching asked => exact State.inBounds_evolves (State.evolves_awaitLastWindow asked) h
  | clearSticky t => exact State.inBounds_evolves (s.evolves_clearSticky t) h
  | park t x holds => exact State.inBounds_evolves (State.evolves_hostPark holds) h
  | resume t x reason hold holds was => exact State.inBounds_evolves (State.evolves_resume holds was) h
  | release t x holds told => exact State.inBounds_evolves (State.evolves_release holds told) h
  | converter window step asked => exact ⟨{ h.settings with offset := offsetOf_inRange asked }, { c with }⟩
  | curve start values =>
    exact ⟨{ h.settings with curve := writeCurve_inRange h.settings.curve start values }, { c with }⟩
  | calibrate target =>
    refine ⟨{ h.settings with calib := ?_ }, { c with }⟩
    rintro x ⟨⟩
    exact ⟨(clampNat_mem (Nat.zero_le _) target).2, Nat.zero_le _, fun _ => Nat.zero_lt_succ 4⟩

theorem State.countsCapped_reset : State.reset.CountsCapped := by
  refine ⟨by decide, by decide, by decide, by decide, by decide, by decide, ?_, fun t => ?_, fun t x holds => ?_,
    fun i w has => ?_⟩
  · constructor <;> decide
  · simp [State.reset, Roster.reset, Record.free]
  · simp [State.reset, Roster.reset, State.term, Record.free] at holds
  · simp [State.reset, State.work, Lane.free] at has

theorem State.inBounds_moveClosed : MoveClosed State.InBounds where
  link _ h := ⟨{ h.settings with }, { h.counts with }⟩
  pending _ h := ⟨{ h.settings with }, { h.counts with }⟩
  chooses {s} h := by
    obtain ⟨_, _, _, _, _, _, _, _, _, e, kept, changes, transitions, passes, overruns, -⟩ := s.chooseFrame_keeps
    rw [e]
    have c := h.counts
    exact ⟨{ h.settings with }, { c with
      transitions := transitions.trans c.transitions, passes := passes.trans c.passes
      overruns := overruns.trans c.overruns, changes := fun t => (changes t).trans (c.changes t)
      phases := fun t x holds => c.phases t x ((kept t).symm.trans holds) }⟩
  reset straps cause _ := ⟨{ State.settingsInRange_reset with }, { State.countsCapped_reset with }⟩
  lineRestart h := by
    have t := h.settings
    exact ⟨{ State.settingsInRange_reset with
        line := t.line, pendingLen := t.pendingLen, profiles := t.profiles, pool := t.pool, offset := t.offset
        curve := t.curve }, { State.countsCapped_reset with }⟩
  request := State.inBounds_request
  move := State.inBounds_move
  startCycle := State.inBounds_startCycle
  endDraining := State.inBounds_endDraining
  closePlan := State.inBounds_closePlan

/-- Settles O56: the settings are clamped as they are stored, and each move keeps the counts that it writes. -/
theorem rangesKept : Obligations.RangesKept := by
  intro s t settings counts run
  obtain ⟨settings', counts'⟩ := State.inBounds_moveClosed.step run ⟨settings, counts⟩
  exact ⟨settings', counts'⟩

end Sys2Proof.Machine

/-! PROOFS. The roster's lists, the records, the admission queue and the lanes (02, 07). -/

namespace Sys2Proof.Machine

/-- The roster's lists agree with the records, and the records with the lanes. -/
structure State.RosterHolds (s : State) : Prop where
  shape : s.RosterShape
  lanes : s.LanesAgree

/-- What the host has set for the records to agree with. -/
def Roster.policy (r : Roster) : List Expected × List Serial × AdmissionMode × Nat × Nat :=
  (r.expected, r.barred, r.mode, r.poolLow, r.poolHigh)

/-- Where each record holds what it held, the agreement is a matter of the admission queue and of the lanes. -/
theorem State.RosterHolds.carry {s u : State} (h : s.RosterHolds) (policy : u.roster.policy = s.roster.policy)
    (strangers : (u.roster.strangers.map Stranger.serial).Nodup)
    (held : ∀ t, ∀ k ∈ u.term t, ∃ x ∈ s.term t, k.serial = x.serial ∧ k.listed = x.listed)
    (once : u.roster.admission.Nodup) (heard : ∀ t, t ∈ u.roster.admission ↔ ∃ k ∈ u.term t, k.phase = .heard)
    (lanes : u.LanesAgree) : u.RosterHolds := by
  simp only [Roster.policy, Prod.mk.injEq] at policy
  obtain ⟨expected, barred, mode, low, high⟩ := policy
  have shape := h.shape
  refine ⟨⟨?_, expected ▸ shape.entrySerials, expected ▸ shape.entryTags, ?_, ?_, ?_, barred ▸ shape.barredOnce, strangers,
    ?_, once, ?_, heard⟩, lanes⟩
  · intro t v k hk k' hk' same
    obtain ⟨x, hx, serial, -⟩ := held t k hk
    obtain ⟨x', hx', serial', -⟩ := held v k' hk'
    exact shape.serials t v x hx x' hx' (serial.symm.trans (same.trans serial'))
  · intro e he k hk
    obtain ⟨x, hx, serial, -⟩ := held e.tag k hk
    exact serial.trans (shape.entryRecords e (expected ▸ he) x hx)
  · intro t k hk
    obtain ⟨x, hx, serial, listed⟩ := held t k hk
    rw [listed, shape.listed t x hx, Roster.entryOf, Roster.entryOf, expected, serial]
  · intro t k hk
    obtain ⟨x, hx, serial, -⟩ := held t k hk
    rw [serial, barred]
    exact shape.barredOut t x hx
  · simp only [Roster.poolConflict, mode, low, high, expected]
    exact shape.mixedPool
  · exact once.length_le_card.trans_eq (Fintype.card_fin 128)

/-- An agreement with the lanes is a matter of what the records say of their lanes, and of the tags the lanes name. -/
theorem State.LanesAgree.carry {s u : State} (h : s.LanesAgree)
    (work : ∀ i t, (∃ w ∈ u.work i, w.tag = t) ↔ ∃ w ∈ s.work i, w.tag = t)
    (lane : ∀ i t, (∃ k ∈ u.term t, k.lane = some i) ↔ ∃ k ∈ s.term t, k.lane = some i) : u.LanesAgree :=
  fun i t => (work i t).trans ((h i t).trans (lane i t).symm)

/-- Each record holds after a map of the records what the map makes of what it held. -/
theorem State.RosterHolds.mapTerms {s u : State} (h : s.RosterHolds) (f : Tag → Terminal → Terminal)
    (policy : u.roster.policy = s.roster.policy) (strangers : u.roster.strangers = s.roster.strangers)
    (admission : u.roster.admission = s.roster.admission) (lanes : ∀ i, u.work i = s.work i)
    (term : ∀ t, u.term t = (s.term t).map (f t))
    (on : ∀ t, ∀ x ∈ s.term t, (f t x).serial = x.serial ∧ (f t x).listed = x.listed ∧ (f t x).lane = x.lane ∧
      ((f t x).phase = .heard ↔ x.phase = .heard)) : u.RosterHolds := by
  refine h.carry policy (strangers ▸ h.shape.strangersOnce) (fun t k hk => ?_) (admission ▸ h.shape.admissionOnce)
    (fun t => ?_) (h.lanes.carry (fun i t => by rw [lanes]) fun i t => ?_)
  · rw [term] at hk
    obtain ⟨x, hx, rfl⟩ := Option.map_eq_some_iff.mp hk
    exact ⟨x, hx, (on t x hx).1, (on t x hx).2.1⟩
  · rw [admission, h.shape.admissionHeard, term]
    cases hx : s.term t with
    | none => simp
    | some x => simpa using (on t x hx).2.2.2.symm
  · rw [term]
    cases hx : s.term t with
    | none => simp
    | some x => simp [(on t x hx).2.2.1]

theorem State.RosterHolds.put {s : State} (h : s.RosterHolds) {t : Tag} {x x' : Terminal} (holds : s.term t = some x)
    (serial : x'.serial = x.serial) (listed : x'.listed = x.listed) (lane : x'.lane = x.lane)
    (heard : x'.phase = .heard ↔ x.phase = .heard) : (s.putTerm t (some x')).RosterHolds := by
  refine h.mapTerms (fun u y => if u = t then x' else y) rfl rfl rfl (fun _ => rfl) (fun u => ?_) fun u y hy => ?_
  · rw [State.term_putTerm]
    split
    · next same => subst same; simp [holds]
    · simp
  · split
    · next same => subst same; cases holds.symm.trans hy; exact ⟨serial, listed, lane, heard⟩
    · exact ⟨rfl, rfl, rfl, Iff.rfl⟩

theorem Record.holdTick_term (r : Record) :
    r.holdTick.term = r.term.map fun h =>
      match h.phase with
      | .parked reason hold => { h with phase := .parked reason (hold - 1) }
      | _ => h := by
  unfold Record.holdTick
  cases holds : r.term with
  | none => simp [holds]
  | some h => cases phase : h.phase <;> simp [holds, phase]

/-! ## The moves -/

theorem State.detach_policy (s : State) (t : Tag) (h : Terminal) : (s.detach t h).roster.policy = s.roster.policy := by
  unfold State.detach; split <;> rfl

theorem State.detach_strangers (s : State) (t : Tag) (h : Terminal) :
    (s.detach t h).roster.strangers = s.roster.strangers := by
  unfold State.detach; split <;> rfl

theorem State.detach_admission (s : State) (t : Tag) (h : Terminal) :
    (s.detach t h).roster.admission =
      if h.phase = .heard then s.roster.admission.filter fun x => x != t else s.roster.admission := by
  unfold State.detach
  cases phase : h.phase <;> simp

theorem Terminal.lane_of_heard {h : Terminal} (heard : h.phase = .heard) : h.lane = none := by
  simp [Terminal.lane, heard]

theorem State.RosterHolds.enter {s : State} (h : s.RosterHolds) {t : Tag} {x : Terminal} (enters : s.RecordEnters t x) :
    ((s.putTerm t (some x)).setAdmissionQueue (s.roster.admission ++ [t])).RosterHolds := by
  have shape := h.shape
  have parked := enters.parked shape
  have unheld := enters.unheld shape
  have term (u : Tag) : ((s.putTerm t (some x)).setAdmissionQueue (s.roster.admission ++ [t])).term u =
      if u = t then some x else s.term u := s.term_putTerm t u (some x)
  have unqueued : t ∉ s.roster.admission := by
    intro queued
    obtain ⟨k, hk, heard⟩ := (shape.admissionHeard t).mp queued
    have := (parked k hk).2
    simp [Terminal.park, heard] at this
  have once : (s.roster.admission ++ [t]).Nodup := by
    rw [List.nodup_append_comm]
    exact List.nodup_cons.mpr ⟨unqueued, shape.admissionOnce⟩
  refine ⟨{ shape with
    serials := ?_, entryRecords := ?_, listed := ?_, barredOut := ?_, admissionOnce := once
    admissionFits := once.length_le_card.trans_eq (Fintype.card_fin 128), admissionHeard := ?_ }, ?_⟩
  · intro a b k hk k' hk' same
    rw [term] at hk hk'
    split at hk <;> split at hk'
    · next ha hb => exact ha.trans hb.symm
    · next ha _ => cases hk; exact ha.trans (unheld b k' hk' same.symm).symm
    · next hb => cases hk'; exact (unheld a k hk same).trans hb.symm
    · exact shape.serials a b k hk k' hk' same
  · intro e he k hk
    rw [term] at hk
    split at hk
    · next own => cases hk; exact (enters.reserved e he own shape).symm
    · exact shape.entryRecords e he k hk
  · intro a k hk
    rw [term] at hk
    split at hk
    · cases hk; exact enters.listed
    · exact shape.listed a k hk
  · intro a k hk
    rw [term] at hk
    split at hk
    · cases hk; exact enters.unbarred
    · exact shape.barredOut a k hk
  · intro a
    rw [term, State.setAdmissionQueue_roster_admission, List.mem_append, List.mem_singleton, shape.admissionHeard]
    by_cases own : a = t
    · simp [own, enters.heard]
    · simp [own]
  · refine h.lanes.carry (fun _ _ => Iff.rfl) fun i a => ?_
    rw [term]
    split
    · next own =>
      subst own
      refine ⟨fun ⟨k, hk, lane⟩ => ?_, fun ⟨k, hk, lane⟩ => ?_⟩
      · cases hk; cases (Terminal.lane_of_heard enters.heard).symm.trans lane
      · have := (parked k hk).2
        unfold Terminal.lane at lane
        split at lane
        · next phase => simp [Terminal.park, phase] at this
        · cases lane
    · rfl

theorem State.RosterHolds.leave {s : State} (h : s.RosterHolds) {t : Tag} {x : Terminal} {k : Option Terminal}
    (holds : s.term t = some x) (leaves : s.RecordLeaves x k) : ((s.detach t x).putTerm t k).RosterHolds := by
  have shape := h.shape
  have term (u : Tag) : ((s.detach t x).putTerm t k).term u = if u = t then k else s.term u := by
    rw [State.term_putTerm, State.term_detach]
  have queued (u : Tag) : u ∈ ((s.detach t x).putTerm t k).roster.admission ↔ u ∈ s.roster.admission ∧ u ≠ t := by
    rw [State.putTerm_roster_admission, State.detach_admission]
    split
    · simp
    · next unheard =>
      refine ⟨fun hu => ⟨hu, ?_⟩, And.left⟩
      rintro rfl
      obtain ⟨y, hy, heard⟩ := (shape.admissionHeard u).mp hu
      cases holds.symm.trans hy
      exact unheard heard
  refine h.carry (s.detach_policy t x) ((s.detach_strangers t x).symm ▸ shape.strangersOnce) ?_ ?_ ?_ ?_
  · intro u y hy
    rw [term] at hy
    split at hy
    · next own => subst own; exact ⟨x, holds, leaves.serial y hy, leaves.listed y hy⟩
    · exact ⟨y, hy, rfl, rfl⟩
  · rw [State.putTerm_roster_admission, State.detach_admission]
    split
    · exact shape.admissionOnce.filter _
    · exact shape.admissionOnce
  · intro u
    rw [queued, term, shape.admissionHeard]
    by_cases own : u = t
    · simp only [own, ne_eq, not_true_eq_false, and_false, if_true, false_iff, not_exists, not_and]
      exact leaves.heard
    · simp [own]
  · intro i u
    have owner := h.lanes i t
    have work : ((s.detach t x).putTerm t k).work i = if x.lane = some i then none else s.work i := s.lanes_detach t x i
    rw [term, work]
    by_cases own : u = t
    · subst own
      rw [if_pos rfl]
      refine iff_of_false ?_ fun ⟨y, hy, lane⟩ => ?_
      · split
        · simp
        · next other =>
          rw [owner]
          rintro ⟨y, hy, lane⟩
          cases holds.symm.trans hy
          exact other lane
      · cases (leaves.lane y hy).symm.trans lane
    · rw [if_neg own]
      split
      · next lane =>
        refine iff_of_false (by simp) fun other => ?_
        obtain ⟨w, hw, tag⟩ := owner.mpr ⟨x, holds, lane⟩
        obtain ⟨w', hw', tag'⟩ := (h.lanes i u).mpr other
        cases hw.symm.trans hw'
        exact own (tag'.symm.trans tag)
      · exact h.lanes i u

theorem State.RosterHolds.seize {s : State} (h : s.RosterHolds) {i : LaneNo} {t : Tag} {rest : List Tag} {x : Terminal}
    {w : LaneWork} (free : s.work i = none) (head : s.roster.admission = t :: rest) (holds : s.term t = some x)
    (tag : w.tag = t) :
    ((((s.setAdmissionQueue rest).putTerm t (some { x with phase := .engaged i none })).bumpSeizure i).setWork i
      (some w)).RosterHolds := by
  have shape := h.shape
  have once := head ▸ shape.admissionOnce
  obtain ⟨unqueued, onceRest⟩ := List.nodup_cons.mp once
  have heard : x.phase = .heard := by
    obtain ⟨y, hy, heard⟩ := (shape.admissionHeard t).mp (head ▸ List.mem_cons_self)
    cases holds.symm.trans hy
    exact heard
  generalize after : State.setWork _ i (some w) = u
  have term (v : Tag) : u.term v = if v = t then some { x with phase := .engaged i none } else s.term v := by
    subst after; exact State.term_putTerm _ t v _
  have work (j : LaneNo) : u.work j = if j = i then some w else s.work j := by
    subst after; rw [State.work_setWork, State.work_bumpSeizure]; rfl
  have admission : u.roster.admission = rest := by subst after; rfl
  refine h.carry (by subst after; rfl) (by subst after; exact shape.strangersOnce) ?_ (admission ▸ onceRest) ?_ ?_
  · intro v y hy
    rw [term] at hy
    split at hy
    · next own => subst own; cases hy; exact ⟨x, holds, rfl, rfl⟩
    · exact ⟨y, hy, rfl, rfl⟩
  · intro v
    rw [admission, term]
    have queue := shape.admissionHeard v
    rw [head, List.mem_cons] at queue
    by_cases own : v = t
    · subst own; simp [unqueued]
    · simpa [own] using queue
  · intro j v
    rw [term, work]
    by_cases lane : j = i <;> by_cases own : v = t
    · simp [lane, own, tag, Terminal.lane]
    · rw [if_pos lane, if_neg own, lane]
      refine iff_of_false ?_ fun other => ?_
      · rintro ⟨y, ⟨⟩, tag'⟩; exact own (tag'.symm.trans tag)
      · obtain ⟨y, hy, -⟩ := (h.lanes i v).mpr other
        rw [free] at hy; cases hy
    · rw [if_neg lane, if_pos own, own]
      refine iff_of_false (fun other => ?_) (by simpa [Terminal.lane] using fun e => lane e.symm)
      obtain ⟨y, hy, seized⟩ := (h.lanes j t).mp other
      cases holds.symm.trans hy
      cases (Terminal.lane_of_heard heard).symm.trans seized
    · rw [if_neg lane, if_neg own]
      exact h.lanes j v

theorem State.RosterHolds.countdowns {s : State} (h : s.RosterHolds) : s.countdowns.RosterHolds := by
  refine h.mapTerms (fun _ x =>
    match x.phase with
    | .parked reason hold => { x with phase := .parked reason (hold - 1) }
    | _ => x) rfl rfl rfl (fun _ => rfl) (fun t => ?_) fun t x _ => ?_
  · rw [State.term, State.countdowns, Bank.get_map, Record.holdTick_term]
    rfl
  · cases phase : x.phase <;> simp [Terminal.lane, phase]

theorem State.rosterHolds_move {s t : State} (move : Move s t) (h : s.RosterHolds) : t.RosterHolds := by
  have shape := h.shape
  cases move with
  | stranger x new =>
    refine ⟨{ shape with strangersOnce := ?_ }, h.lanes⟩
    have unlisted : x.serial ∉ s.roster.strangers.map Stranger.serial := by simpa using new
    rw [State.setStrangers_roster_strangers, List.map_append, List.nodup_append_comm]
    exact List.nodup_cons.mpr ⟨unlisted, shape.strangersOnce⟩
  | fewerStrangers l fewer =>
    exact ⟨{ shape with strangersOnce := shape.strangersOnce.sublist (fewer.map _) }, h.lanes⟩
  | put t x x' holds on => exact h.put holds on.serial on.listed on.lane on.heard
  | noted t =>
    exact h.mapTerms (fun _ x => x) rfl rfl rfl (fun _ => rfl) (fun u => by simp) fun _ _ _ => ⟨rfl, rfl, rfl, Iff.rfl⟩
  | enter t x enters => exact h.enter enters
  | leave t x k holds leaves => exact h.leave holds leaves
  | stray i w has astray =>
    obtain ⟨x, hx, lane⟩ := (h.lanes i w.tag).mp ⟨w, has, rfl⟩
    exact absurd lane (astray x hx)
  | seize i t rest x w free head holds tag => exact h.seize free head holds tag
  | vacant t rest head free =>
    obtain ⟨x, hx, -⟩ := (shape.admissionHeard t).mp (head ▸ List.mem_cons_self)
    rw [free] at hx; cases hx
  | work i w w' has on =>
    refine ⟨{ shape with }, h.lanes.carry (fun j t => ?_) fun _ _ => Iff.rfl⟩
    rw [State.work_setWork]
    split
    · next same => subst same; simp [has, on.tag]
    · rfl
  | countdowns => exact h.countdowns
  | _ => exact ⟨{ shape with }, h.lanes⟩

theorem State.rosterHolds_evolves {s t : State} (run : Evolves s t) : s.RosterHolds → t.RosterHolds :=
  run.keeps State.rosterHolds_move

/-! ## The events of the line -/

theorem State.rosterHolds_issuePlan {s : State} (h : s.RosterHolds) (p : Plan) (start : Tick) :
    (s.issuePlan p start).RosterHolds :=
  State.rosterHolds_evolves (State.evolves_issueSlot _ _ _ _) ⟨{ h.shape with }, h.lanes⟩

theorem State.rosterHolds_startCycle {s : State} (h : s.RosterHolds) : s.startCycle.RosterHolds := by
  cases next : s.nextCycle with
  | none => unfold State.startCycle; simp only [next]; exact h
  | some x =>
    obtain ⟨c, len, head, p⟩ := x
    refine State.rosterHolds_evolves (State.startCycle_eq next) ?_
    have ended := State.rosterHolds_evolves s.evolves_endFrame h
    obtain ⟨line, kinds, e, -⟩ := s.endFrame.advanceCycle_keeps c len
    rw [e]
    have counted : (State.sendHead { s.endFrame with line := line, link.kinds := kinds } head).RosterHolds :=
      ⟨{ ended.shape with }, ended.lanes⟩
    exact State.rosterHolds_issuePlan counted p _

theorem State.rosterHolds_setNext {s : State} (h : s.RosterHolds) (x : Option Head) (p : Option Plan) :
    (s.setNext x p).RosterHolds :=
  ⟨{ h.shape with }, h.lanes⟩

theorem State.rosterHolds_closePlan {s : State} (h : s.RosterHolds) : s.closePlan.RosterHolds := by
  unfold State.closePlan
  split
  · exact h
  next c _ =>
  split
  · exact h
  dsimp only
  have latched (x : Tick) (c : Option Cycle) : ((s.setTick x).setCycle c).RosterHolds := ⟨{ h.shape with }, h.lanes⟩
  split
  · exact h
  · exact State.rosterHolds_setNext (latched _ _) _ _
  · next running =>
    generalize latch : State.setCycle _ _ = u
    have runs : u.line.state = .running := latch ▸ running
    obtain ⟨u', p, v, before, after, _, _, _, e⟩ := State.closeRunning_evolves runs (c.num + 1) s.line.pendingLen
    have placed : u'.RosterHolds := State.rosterHolds_evolves before (latch ▸ latched _ _)
    have planned : (u'.setBuilt (some p)).RosterHolds := ⟨{ placed.shape with }, placed.lanes⟩
    have posted := State.rosterHolds_evolves after planned
    rw [e]
    exact ⟨{ posted.shape with }, posted.lanes⟩
  · split
    · exact State.rosterHolds_setNext (latched _ _) _ _
    · exact State.rosterHolds_setNext (latched _ _) _ _

theorem State.rosterHolds_light {s : State} (h : s.RosterHolds) (now : Tick) : (s.light now).RosterHolds := by
  have lit (x : Tick) (c : Option Cycle) (n : Nat) (head : Head) :
      ((((((((s.setEnable true).setTick x).setCycle c).setWarmup n).setDrain 0 false).enterLine .warming).sendHead
        head)).RosterHolds :=
    ⟨{ h.shape with }, h.lanes⟩
  exact State.rosterHolds_move Move.countdowns (State.rosterHolds_issuePlan (lit _ _ _ _) _ _)

theorem Terminal.downed_serial (h : Terminal) : h.downed.serial = h.serial := by
  unfold Terminal.downed; split <;> rfl

theorem Terminal.downed_listed (h : Terminal) : h.downed.listed = h.listed := by
  unfold Terminal.downed; split <;> rfl

theorem Terminal.downed_lane (h : Terminal) : h.downed.lane = none := by
  unfold Terminal.downed; split <;> simp_all [Terminal.lane]

theorem Terminal.downed_unheard (h : Terminal) : h.downed.phase ≠ .heard := by
  unfold Terminal.downed; split <;> simp_all

theorem State.rosterHolds_lineDown {s : State} (h : s.RosterHolds) : s.lineDown.RosterHolds := by
  obtain ⟨records, flags, run, downed, -⟩ := s.lineDown_evolves
  refine State.rosterHolds_evolves run (h.carry rfl h.shape.strangersOnce ?_ List.nodup_nil ?_ ?_)
  · intro t k hk
    obtain ⟨x, hx, rfl⟩ := Option.map_eq_some_iff.mp ((downed t).symm.trans hk)
    exact ⟨x, hx, x.downed_serial, x.downed_listed⟩
  · intro t
    refine iff_of_false (by simp) fun ⟨k, hk, heard⟩ => ?_
    obtain ⟨x, _, rfl⟩ := Option.map_eq_some_iff.mp ((downed t).symm.trans hk)
    exact x.downed_unheard heard
  · intro i t
    refine iff_of_false (by simp [State.work, Lane.ended]) fun ⟨k, hk, lane⟩ => ?_
    obtain ⟨x, _, rfl⟩ := Option.map_eq_some_iff.mp ((downed t).symm.trans hk)
    cases x.downed_lane.symm.trans lane

theorem State.rosterHolds_darken {s : State} (h : s.RosterHolds) : s.darken.RosterHolds := by
  unfold State.darken
  split
  · exact h
  · exact h
  · exact ⟨{ h.shape with }, h.lanes⟩
  · have draining : ((s.setDrain 4 false).enterLine .draining).RosterHolds := ⟨{ h.shape with }, h.lanes⟩
    have drained := State.rosterHolds_lineDown draining
    unfold State.enterDraining
    dsimp only
    (repeat' split) <;> exact State.rosterHolds_setNext drained _ _

/-! ## The requests -/

/-- The records of a roster hold no terminal with this serial. -/
def State.Unheld (s : State) (serial : Serial) : Prop := ∀ t, ∀ h ∈ s.term t, h.serial ≠ serial

theorem State.RosterHolds.bar {s : State} (h : s.RosterHolds) {serial : Serial} (new : serial ∉ s.roster.barred)
    (unheld : s.Unheld serial) : State.RosterHolds { s with roster.barred := s.roster.barred ++ [serial] } := by
  refine ⟨{ h.shape with barredOut := fun t x hx => ?_, barredOnce := ?_ }, h.lanes⟩
  · simpa using ⟨h.shape.barredOut t x hx, unheld t x hx⟩
  · rw [List.nodup_append_comm]
    exact List.nodup_cons.mpr ⟨new, h.shape.barredOnce⟩

theorem State.detach_barred (s : State) (t : Tag) (h : Terminal) (l : List Serial) :
    State.detach { s with roster.barred := l } t h = { s.detach t h with roster.barred := l } := by
  unfold State.detach
  split <;> rfl

theorem State.freeRecord_barred (s : State) (t : Tag) (h : Terminal) (l : List Serial) :
    State.freeRecord { s with roster.barred := l } t h = { s.freeRecord t h with roster.barred := l } := by
  unfold State.freeRecord State.changeTerm
  rw [State.detach_barred]
  by_cases same : visibleOf ((s.detach t h).term t) = visibleOf none
  · rw [if_pos same]; exact if_pos same
  · rw [if_neg same]; exact if_neg same

theorem State.freeRecord_policy (s : State) (t : Tag) (h : Terminal) :
    (s.freeRecord t h).roster.policy = s.roster.policy := by
  unfold State.freeRecord State.changeTerm
  split <;> exact s.detach_policy t h

theorem State.term_freeRecord (s : State) (t u : Tag) (h : Terminal) :
    (s.freeRecord t h).term u = if u = t then none else s.term u := by
  rw [State.freeRecord, State.term_changeTerm, State.term_detach]

theorem State.rosterHolds_bar {s : State} (h : s.RosterHolds) {serial : Serial} (new : serial ∉ s.roster.barred) :
    (State.expel { s with roster.barred := s.roster.barred ++ [serial] } serial).RosterHolds := by
  unfold State.expel
  split
  · next unheld => exact h.bar new (Roster.holderOf_none unheld)
  · next t holder =>
    obtain ⟨x, hx, own⟩ := Roster.holderOf_some holder
    have holds : s.term t = some x := hx
    split
    · next none => cases none.symm.trans hx
    · next y holds' =>
      cases holds'.symm.trans hx
      rw [State.freeRecord_barred]
      refine State.rosterHolds_evolves (State.evolves_standDown _ _ _) ?_
      have freed := State.rosterHolds_evolves (State.evolves_freeRecord holds) h
      have barred : (s.freeRecord t x).roster.barred = s.roster.barred :=
        congrArg (fun r => r.2.1) (s.freeRecord_policy t x)
      have unheld : (s.freeRecord t x).Unheld serial := by
        intro u k hk same
        rw [State.term_freeRecord] at hk
        split at hk
        · cases hk
        · next other => exact other (h.shape.serials u t k hk x hx (same.trans own.symm))
      have closed := freed.bar (barred ▸ new) unheld
      rwa [barred] at closed

/-- The host's list of entries changes, and with it what the records say of being listed. -/
theorem State.RosterHolds.relist {s u : State} (h : s.RosterHolds) (f : Tag → Terminal → Terminal)
    (term : ∀ t, u.term t = (s.term t).map (f t)) (serial : ∀ t x, (f t x).serial = x.serial)
    (phase : ∀ t x, (f t x).phase = x.phase) (barred : u.roster.barred = s.roster.barred)
    (strangers : u.roster.strangers = s.roster.strangers) (admission : u.roster.admission = s.roster.admission)
    (lanes : ∀ i, u.work i = s.work i) (entrySerials : (u.roster.expected.map Expected.serial).Nodup)
    (entryTags : (u.roster.expected.map Expected.tag).Nodup)
    (entryRecords : ∀ e ∈ u.roster.expected, ∀ x ∈ s.term e.tag, x.serial = e.serial)
    (listed : ∀ t, ∀ x ∈ s.term t, (f t x).listed = (u.roster.entryOf x.serial).isSome)
    (mixedPool : u.roster.mode = .mixed → u.roster.poolConflict u.roster.poolLow u.roster.poolHigh = false) :
    u.RosterHolds := by
  have shape := h.shape
  have held {t : Tag} {k : Terminal} (hk : k ∈ u.term t) : ∃ x ∈ s.term t, f t x = k := by
    rw [term] at hk
    exact Option.map_eq_some_iff.mp hk
  refine ⟨⟨?_, entrySerials, entryTags, ?_, ?_, ?_, barred ▸ shape.barredOnce, strangers ▸ shape.strangersOnce, mixedPool,
    admission ▸ shape.admissionOnce, admission ▸ shape.admissionFits, ?_⟩, h.lanes.carry (fun i t => by rw [lanes]) ?_⟩
  · intro t v k hk k' hk' same
    obtain ⟨x, hx, rfl⟩ := held hk
    obtain ⟨x', hx', rfl⟩ := held hk'
    rw [serial, serial] at same
    exact shape.serials t v x hx x' hx' same
  · intro e he k hk
    obtain ⟨x, hx, rfl⟩ := held hk
    exact (serial _ _).trans (entryRecords e he x hx)
  · intro t k hk
    obtain ⟨x, hx, rfl⟩ := held hk
    rw [serial]
    exact listed t x hx
  · intro t k hk
    obtain ⟨x, hx, rfl⟩ := held hk
    rw [serial, barred]
    exact shape.barredOut t x hx
  · intro t
    rw [admission, shape.admissionHeard, term]
    cases s.term t <;> simp [phase]
  · intro i t
    rw [term]
    cases s.term t <;> simp [Terminal.lane, phase]

theorem State.term_withEntry (s : State) (serial : Serial) (t : Tag) (profile : ProfileNo) (u : Tag) :
    (s.withEntry serial t profile).term u =
      (s.term u).map fun h => if u = t then { h with listed := true, profile := profile } else h := by
  unfold State.withEntry
  dsimp only
  split
  · next h holds =>
    rw [State.term_putTerm]
    split
    · next own => simp [own, holds]
    · exact Option.map_id'.symm
  · next holds =>
    split
    · next own => subst own; simp [holds]; exact holds
    · exact Option.map_id'.symm

theorem State.rosterHolds_load {s : State} (h : s.RosterHolds) {serial : Serial} {t : Tag} (may : s.MayList serial t)
    (profile : ProfileNo) : (s.withEntry serial t profile).RosterHolds := by
  have shape := h.shape
  have term := s.term_withEntry serial t profile
  have expected : (s.withEntry serial t profile).roster.expected = s.roster.expected ++ [⟨serial, t, profile⟩] := by
    unfold State.withEntry; dsimp only; split <;> rfl
  have rest : (s.withEntry serial t profile).roster.barred = s.roster.barred ∧
      (s.withEntry serial t profile).roster.strangers = s.roster.strangers ∧
      (s.withEntry serial t profile).roster.admission = s.roster.admission ∧
      (s.withEntry serial t profile).roster.mode = s.roster.mode ∧
      (s.withEntry serial t profile).roster.poolLow = s.roster.poolLow ∧
      (s.withEntry serial t profile).roster.poolHigh = s.roster.poolHigh ∧
      (s.withEntry serial t profile).lanes = s.lanes := by
    unfold State.withEntry; dsimp only; split <;> exact ⟨rfl, rfl, rfl, rfl, rfl, rfl, rfl⟩
  obtain ⟨barred, strangers, admission, mode, low, high, lanes⟩ := rest
  refine h.relist _ term (fun u x => by split <;> rfl) (fun u x => by split <;> rfl) barred strangers
    admission (fun i => by simp only [State.work, lanes]) ?_ ?_ ?_ ?_ ?_
  · rw [expected, List.map_append, List.nodup_append_comm]
    refine List.nodup_cons.mpr ⟨?_, shape.entrySerials⟩
    simpa using may.newSerial
  · rw [expected, List.map_append, List.nodup_append_comm]
    refine List.nodup_cons.mpr ⟨?_, shape.entryTags⟩
    simpa using may.newTag
  · intro e he x hx
    rw [expected, List.mem_append, List.mem_singleton] at he
    rcases he with old | rfl
    · exact shape.entryRecords e old x hx
    · exact may.own x hx
  · intro u x hx
    have listed := shape.listed u x hx
    rw [Roster.entryOf] at listed
    rw [Roster.entryOf, expected, List.find?_append, Option.isSome_or, ← listed]
    split
    · next own => subst own; simp [may.own x hx]
    · next other =>
      have ne := (may.others u other x hx).symm
      simp [ne]
  · rw [mode, low, high]
    intro mixed
    have disjoint := shape.mixedPool mixed
    rw [Roster.poolConflict] at disjoint ⊢
    rw [expected, List.any_append, disjoint]
    simpa using may.pool mixed

/-- The one record that holds the serial becomes unlisted (R42). -/
theorem State.term_unlist {s : State} {serial : Serial}
    (once : ∀ t u, ∀ h ∈ s.term t, ∀ k ∈ s.term u, h.serial = k.serial → t = u) (t : Tag) :
    (s.unlist serial).term t = (s.term t).map fun x => if x.serial = serial then { x with listed := false } else x := by
  unfold State.unlist
  split
  · next unheld =>
    cases holds : s.term t with
    | none => rfl
    | some x => simp [Roster.holderOf_none unheld t x holds]
  · next v holder =>
    obtain ⟨y, hy, own⟩ := Roster.holderOf_some holder
    rw [State.term_putTerm]
    split
    · next same =>
      subst same
      rw [show s.term t = some y from hy]
      simp [own]
    · next other =>
      cases holds : s.term t with
      | none => rfl
      | some x =>
        have ne : x.serial ≠ serial := fun same => other (once t v x holds y hy (same.trans own.symm))
        simp [ne]

theorem State.rosterHolds_drop {s : State} (h : s.RosterHolds) (serial : Serial) :
    (State.unlist { s with roster.expected := s.roster.expected.filter fun e => e.serial != serial } serial).RosterHolds := by
  have shape := h.shape
  have fewer : (s.roster.expected.filter fun e => e.serial != serial).Sublist s.roster.expected := List.filter_sublist
  have term := State.term_unlist (serial := serial)
    (s := { s with roster.expected := s.roster.expected.filter fun e => e.serial != serial }) shape.serials
  generalize after : State.unlist _ serial = u at term ⊢
  have rest : u.roster.expected = s.roster.expected.filter (fun e => e.serial != serial) ∧
      u.roster.barred = s.roster.barred ∧ u.roster.strangers = s.roster.strangers ∧
      u.roster.admission = s.roster.admission ∧ u.roster.mode = s.roster.mode ∧ u.roster.poolLow = s.roster.poolLow ∧
      u.roster.poolHigh = s.roster.poolHigh ∧ u.lanes = s.lanes := by
    subst after; unfold State.unlist; split <;> exact ⟨rfl, rfl, rfl, rfl, rfl, rfl, rfl, rfl⟩
  obtain ⟨expected, barred, strangers, admission, mode, low, high, lanes⟩ := rest
  refine h.relist _ term (fun _ x => by split <;> rfl) (fun _ x => by split <;> rfl) barred strangers
    admission (fun i => by simp only [State.work, lanes]) ?_ ?_ ?_ ?_ ?_
  · rw [expected]; exact shape.entrySerials.sublist (fewer.map _)
  · rw [expected]; exact shape.entryTags.sublist (fewer.map _)
  · intro e he x hx
    rw [expected] at he
    exact shape.entryRecords e (List.mem_of_mem_filter he) x hx
  · intro t x hx
    have listed := shape.listed t x hx
    rw [Roster.entryOf] at listed
    rw [Roster.entryOf, expected, List.find?_filter]
    split
    · next own =>
      symm
      simp [own]
    · next other =>
      rw [listed]
      congr 2
      funext e
      by_cases same : e.serial = x.serial <;> simp [same, other]
  · rw [mode, low, high]
    intro mixed
    have disjoint := shape.mixedPool mixed
    rw [Roster.poolConflict, List.any_eq_false] at disjoint ⊢
    rw [expected]
    exact fun e he => disjoint e (List.mem_of_mem_filter he)

theorem State.rosterHolds_request {s t : State} (move : HostMove s t) (h : s.RosterHolds) : t.RosterHolds := by
  cases move with
  | mask | handler | settings | pendingLen | profile | beginCensus | converter | curve | calibrate =>
    exact ⟨{ h.shape with }, h.lanes⟩
  | light now dark => exact State.rosterHolds_light h now
  | darken => exact State.rosterHolds_darken h
  | admission mode low high profile bounds disjoint => exact ⟨{ h.shape with mixedPool := disjoint }, h.lanes⟩
  | load serial tag profile =>
    rcases s.loadEntry_cases serial tag profile with same | ⟨u, p, may, e⟩
    · rw [same]; exact h
    · rw [e]; exact State.rosterHolds_load h may p
  | drop serial => exact State.rosterHolds_drop h serial
  | bar serial new => exact State.rosterHolds_bar h new
  | lift serial =>
    exact ⟨{ h.shape with
      barredOut := fun t x hx barred => h.shape.barredOut t x hx (List.mem_of_mem_filter barred)
      barredOnce := h.shape.barredOnce.filter _ }, h.lanes⟩
  | clearStrangers => exact ⟨{ h.shape with strangersOnce := List.nodup_nil }, h.lanes⟩
  | stopSearch =>
    obtain ⟨n, run⟩ := s.stopSearch_evolves
    exact State.rosterHolds_evolves run ⟨{ h.shape with }, h.lanes⟩
  | awaitLastWindow searching asked => exact State.rosterHolds_evolves (State.evolves_awaitLastWindow asked) h
  | clearSticky t => exact State.rosterHolds_evolves (s.evolves_clearSticky t) h
  | park t x holds => exact State.rosterHolds_evolves (State.evolves_hostPark holds) h
  | resume t x reason hold holds was => exact State.rosterHolds_evolves (State.evolves_resume holds was) h
  | release t x holds told => exact State.rosterHolds_evolves (State.evolves_release holds told) h

theorem State.rosterHolds_empty {s : State} (entrySerials : (s.roster.expected.map Expected.serial).Nodup)
    (entryTags : (s.roster.expected.map Expected.tag).Nodup) (barredOnce : s.roster.barred.Nodup)
    (strangers : s.roster.strangers = [])
    (mixedPool : s.roster.mode = .mixed → s.roster.poolConflict s.roster.poolLow s.roster.poolHigh = false)
    (admission : s.roster.admission = []) (records : s.roster.records = .fill 128 .free)
    (lanes : s.lanes = .fill 8 .free) : s.RosterHolds := by
  have term (t : Tag) : s.term t = none := by simp [State.term, records, Record.free]
  refine ⟨⟨?_, entrySerials, entryTags, ?_, ?_, ?_, barredOnce, ?_, mixedPool, ?_, ?_, ?_⟩, ?_⟩ <;>
    simp [term, strangers, admission, State.LanesAgree, State.work, lanes, Lane.free]

theorem State.rosterHolds_moveClosed : MoveClosed State.RosterHolds where
  link _ h := ⟨{ h.shape with }, h.lanes⟩
  pending _ h := ⟨{ h.shape with }, h.lanes⟩
  chooses {s} h := by
    obtain ⟨_, _, _, _, _, _, _, _, _, e, kept, -⟩ := s.chooseFrame_keeps
    rw [e]
    exact h.mapTerms (fun _ x => x) rfl rfl rfl (fun _ => rfl) (fun t => by simpa [State.term] using kept t)
      fun _ _ _ => ⟨rfl, rfl, rfl, Iff.rfl⟩
  reset straps cause _ :=
    State.rosterHolds_empty List.nodup_nil List.nodup_nil List.nodup_nil rfl (fun mixed => nomatch mixed) rfl rfl rfl
  lineRestart h :=
    State.rosterHolds_empty h.shape.entrySerials h.shape.entryTags h.shape.barredOnce rfl h.shape.mixedPool rfl rfl rfl
  request := State.rosterHolds_request
  move := State.rosterHolds_move
  startCycle := State.rosterHolds_startCycle
  endDraining {s} h := by
    unfold State.endDraining
    split
    · split
      · exact ⟨{ h.shape with }, h.lanes⟩
      · exact h
    · exact h
  closePlan := State.rosterHolds_closePlan

/-- Settles O60: a record and a lane change hands only in the moves that write both sides, and the host's lists in the
requests that check them. -/
theorem rosterShapeKept : Obligations.RosterShapeKept := by
  intro s t shape lanes run
  obtain ⟨shape', lanes'⟩ := State.rosterHolds_moveClosed.step run ⟨shape, lanes⟩
  exact ⟨shape', lanes'⟩

end Sys2Proof.Machine

/-! PROOFS. The census stack (06), and what holds of the state after a reset. -/

namespace Sys2Proof.Machine

theorem State.censusShape_move {s t : State} (move : Move s t) (h : s.CensusShape) : t.CensusShape := by
  cases move with
  | census c _ shape => exact shape h
  | leave t x =>
    unfold State.detach
    split <;> exact { h with }
  | _ => exact { h with }

theorem State.censusShape_evolves {s t : State} (run : Evolves s t) : s.CensusShape → t.CensusShape :=
  run.keeps State.censusShape_move

theorem State.censusShape_issuePlan {s : State} (h : s.CensusShape) (p : Plan) (start : Tick) :
    (s.issuePlan p start).CensusShape :=
  State.censusShape_evolves (State.evolves_issueSlot _ _ _ _) { h with }

theorem State.censusShape_startCycle {s : State} (h : s.CensusShape) : s.startCycle.CensusShape := by
  cases next : s.nextCycle with
  | none => unfold State.startCycle; simp only [next]; exact h
  | some x =>
    obtain ⟨c, len, head, p⟩ := x
    refine State.censusShape_evolves (State.startCycle_eq next) ?_
    have ended := State.censusShape_evolves s.evolves_endFrame h
    obtain ⟨line, kinds, e, -⟩ := s.endFrame.advanceCycle_keeps c len
    rw [e]
    have counted : (State.sendHead { s.endFrame with line := line, link.kinds := kinds } head).CensusShape :=
      { ended with }
    exact State.censusShape_issuePlan counted p _

theorem State.censusShape_setNext {s : State} (h : s.CensusShape) (x : Option Head) (p : Option Plan) :
    (s.setNext x p).CensusShape := { h with }

theorem State.censusShape_closePlan {s : State} (h : s.CensusShape) : s.closePlan.CensusShape := by
  unfold State.closePlan
  split
  · exact h
  next c _ =>
  split
  · exact h
  dsimp only
  have latched (x : Tick) (c : Option Cycle) : ((s.setTick x).setCycle c).CensusShape := { h with }
  split
  · exact h
  · exact State.censusShape_setNext (latched _ _) _ _
  · next running =>
    generalize latch : State.setCycle _ _ = u
    have runs : u.line.state = .running := latch ▸ running
    obtain ⟨u', p, v, before, after, _, _, _, e⟩ := State.closeRunning_evolves runs (c.num + 1) s.line.pendingLen
    have placed : u'.CensusShape := State.censusShape_evolves before (latch ▸ latched _ _)
    have planned : (u'.setBuilt (some p)).CensusShape := { placed with }
    have posted := State.censusShape_evolves after planned
    rw [e]
    exact { posted with }
  · split
    · exact State.censusShape_setNext (latched _ _) _ _
    · exact State.censusShape_setNext (latched _ _) _ _

theorem State.censusShape_light {s : State} (h : s.CensusShape) (now : Tick) : (s.light now).CensusShape := by
  have lit (x : Tick) (c : Option Cycle) (n : Nat) (head : Head) :
      ((((((((s.setEnable true).setTick x).setCycle c).setWarmup n).setDrain 0 false).enterLine .warming).sendHead
        head)).CensusShape := { h with }
  exact State.censusShape_move Move.countdowns (State.censusShape_issuePlan (lit _ _ _ _) _ _)

theorem State.censusShape_darken {s : State} (h : s.CensusShape) : s.darken.CensusShape := by
  unfold State.darken
  split
  · exact h
  · exact h
  · exact { h with }
  · have drained : ((s.setDrain 4 false).enterLine .draining).lineDown.CensusShape := by
      obtain ⟨records, flags, run, -⟩ := ((s.setDrain 4 false).enterLine .draining).lineDown_evolves
      exact State.censusShape_evolves run { h with }
    unfold State.enterDraining
    dsimp only
    (repeat' split) <;> exact State.censusShape_setNext drained _ _

/-- A search begins with the root alone on the stack (R102). -/
theorem State.censusShape_begun {s : State} (h : s.CensusShape) (stopped : s.census.state = .stopped) (mode : CensusMode)
    (interval : Nat) (split pattern mask : Serial) :
    State.CensusShape { s with census := s.census.begun mode interval split pattern mask } := by
  obtain ⟨empty, settled⟩ := h.stopped stopped
  have stack : (s.census.begun mode interval split pattern mask).stack =
      [(s.census.begun mode interval split pattern mask).root] := by
    simp only [Census.begun, empty]
    rfl
  have twice : pattern &&& mask &&& mask = pattern &&& mask := by rw [BitVec.and_assoc, BitVec.and_self]
  exact {
    stopped := nofun
    stopping := nofun
    searching := fun _ => .inl (by simp [stack])
    ordered := stack ▸ ⟨List.Pairwise.nil, by simp, .inr ⟨_, rfl, rfl⟩⟩
    outstanding := fun o asked => nomatch settled.symm.trans asked
    depth := by simp [stack]
    root := twice
    split := rfl
    masked := fun n hn => by cases List.mem_singleton.mp (stack ▸ hn); exact twice
    outMasked := fun o asked => nomatch settled.symm.trans asked }

theorem State.censusShape_request {s t : State} (move : HostMove s t) (h : s.CensusShape) : t.CensusShape := by
  cases move with
  | mask | handler | settings | pendingLen | profile | admission | converter | curve | calibrate | lift
  | clearStrangers => exact { h with }
  | light now dark => exact State.censusShape_light h now
  | darken => exact State.censusShape_darken h
  | load serial tag profile =>
    rcases s.loadEntry_cases serial tag profile with same | ⟨u, p, may, e⟩
    · rw [same]; exact h
    · rw [e]
      unfold State.withEntry
      dsimp only
      split <;> exact { h with }
  | drop serial => unfold State.unlist; split <;> exact { h with }
  | bar serial =>
    exact State.censusShape_evolves (State.evolves_expel { s with roster.barred := s.roster.barred ++ [serial] } serial)
      { h with }
  | beginCensus mode interval split pattern mask _ stopped =>
    exact State.censusShape_begun h stopped mode interval split pattern mask
  | stopSearch =>
    obtain ⟨n, run⟩ := s.stopSearch_evolves
    exact State.censusShape_evolves run { h with }
  | awaitLastWindow searching asked => exact State.censusShape_evolves (State.evolves_awaitLastWindow asked) h
  | clearSticky t => exact State.censusShape_evolves (s.evolves_clearSticky t) h
  | park t x holds => exact State.censusShape_evolves (State.evolves_hostPark holds) h
  | resume t x reason hold holds was => exact State.censusShape_evolves (State.evolves_resume holds was) h
  | release t x holds told => exact State.censusShape_evolves (State.evolves_release holds told) h

theorem State.censusShape_reset : State.reset.CensusShape := by
  refine State.censusShape_stopped rfl rfl rfl ?_ ?_ <;> decide

theorem State.censusShape_moveClosed : MoveClosed State.CensusShape where
  link _ h := { h with }
  pending _ h := { h with }
  chooses {s} h := by
    obtain ⟨_, _, _, _, _, _, _, _, _, e, -⟩ := s.chooseFrame_keeps
    rw [e]
    exact { h with }
  reset straps cause _ := { State.censusShape_reset with }
  lineRestart _ := { State.censusShape_reset with }
  request := State.censusShape_request
  move := State.censusShape_move
  startCycle := State.censusShape_startCycle
  endDraining {s} h := by
    unfold State.endDraining
    split
    · split
      · exact { h with }
      · exact h
    · exact h
  closePlan := State.censusShape_closePlan

/-- Settles O58: the stack changes at a split, a pop and a pass end, each from an ordered stack to an ordered one. -/
theorem censusShapeKept : Obligations.CensusShapeKept :=
  fun _ _ h run => State.censusShape_moveClosed.step run h

/-! ## The state after a reset -/

theorem State.term_reset (t : Tag) : State.reset.term t = none := by
  rw [State.term, show State.reset.roster.records.get t = Record.free from Bank.get_fill ..]; rfl

theorem State.work_reset (i : LaneNo) : State.reset.work i = none := by
  rw [State.work, show State.reset.lanes.get i = Lane.free from Bank.get_fill ..]; rfl

theorem State.measuresInRange_reset : State.reset.MeasuresInRange := by
  constructor <;> simp [State.term_reset, State.work_reset]

/-- Settles O53: part by part, each from the invariant's own statement about a reset. -/
theorem resetIsSound : Obligations.ResetIsSound := by
  have roster : State.reset.RosterHolds :=
    State.rosterHolds_empty List.nodup_nil List.nodup_nil List.nodup_nil rfl (fun mixed => nomatch mixed) rfl rfl rfl
  exact {
    capacities := State.reset.capacities_iff.mpr ⟨State.blocksFit_reset, ⟨Nat.zero_le _, Nat.zero_le _⟩⟩
    line := State.lineShape_reset
    settings := State.settingsInRange_reset
    counts := State.countsCapped_reset
    quiet := fun _ => State.quiet_reset
    census := State.censusShape_reset
    roster := roster.shape
    lanes := roster.lanes
    measures := State.measuresInRange_reset }

end Sys2Proof.Machine

/-! PROOFS. The machine, the resets, and the request handler (10, 95). -/

namespace Sys2Proof.Machine

/-! ## One step (95) -/

/-- Settles O1: both halves are the two branches of the step; the tick counter is a word of 32 bits. -/
theorem stepTakesFrontCommand : Obligations.StepTakesFrontCommand := by
  refine ⟨fun s c rest pending => ?_, fun s empty => ⟨s.setTick (s.line.tick + 1), ?_, ?_, rfl⟩⟩
  · unfold step; rw [pending]
  · unfold step; rw [empty]; rfl
  · simp [BitVec.toNat_add]

/-! ## Resets (R22, R49, R83, R99, R117, R138, R152, R167, R179, R188) -/

theorem defaultCurve_get (k : Fin 33) : defaultCurve.get k = -400 + 15 * (k.val : Int) := by
  revert k; decide

/-- Settles O3: the two resets are one, but for the cause that each is given. -/
theorem resetsLeaveSpecValues : Obligations.ResetsLeaveSpecValues := by
  intro straps s
  refine ⟨s.resetTo straps .powerOn, rfl, rfl, ?_, ?_, ?_, ?_, ?_, ?_, ?_⟩
  · exact ⟨rfl, rfl, rfl, rfl, rfl, rfl, rfl, rfl, rfl, rfl, rfl, rfl⟩
  · exact ⟨fun g => Bank.get_fill .., rfl, rfl, rfl, rfl, rfl, rfl, rfl, rfl, rfl, rfl, fun n => Bank.get_fill ..⟩
  · exact ⟨rfl, rfl, rfl, rfl, rfl, rfl, rfl, rfl, rfl, rfl, rfl, rfl, rfl, rfl⟩
  · exact ⟨rfl, rfl, rfl, rfl, rfl, rfl, rfl, rfl⟩
  · exact ⟨fun i => Bank.get_fill .., fun g => Bank.get_fill ..⟩
  · exact ⟨rfl, rfl, rfl, rfl, defaultCurve_get, rfl, rfl, rfl⟩
  · exact ⟨rfl, rfl, rfl, rfl, rfl, rfl, rfl, rfl, fun g => Bank.get_fill .., rfl, rfl⟩

/-- Settles O4: the restart is due, and LINE_RESTART is written field by field. -/
theorem lineRestartKeepsSettings : Obligations.LineRestartKeepsSettings := by
  intro s replied waiting sent
  have due : s.restartDue = some .line := State.restartDue_of_waiting waiting sent
  have taken : s.takeRestart = s.lineRestart := by simp only [State.takeRestart, due]
  refine ⟨s.lineRestart, congrArg Host.Outcome.next taken, ?_, ?_, ?_, ?_, ?_, ?_, rfl, ?_, ?_, ?_, ?_, ?_, ?_⟩
  · exact ⟨rfl, rfl, rfl⟩
  · exact ⟨rfl, rfl, rfl, rfl, rfl, rfl, rfl⟩
  · exact ⟨rfl, rfl, rfl, rfl⟩
  · exact ⟨rfl, rfl, rfl⟩
  · exact ⟨rfl, rfl, rfl, rfl, rfl, rfl, rfl⟩
  · exact ⟨fun g => Bank.get_fill .., rfl, rfl, rfl⟩
  · exact ⟨rfl, rfl, rfl, rfl, rfl, rfl⟩
  · exact ⟨rfl, rfl⟩
  · exact fun i => Bank.get_fill ..
  · exact fun g => Bank.get_fill ..
  · exact ⟨rfl, rfl, rfl, rfl⟩
  · exact ⟨rfl, rfl, rfl, rfl, rfl, rfl, fun g => Bank.get_fill .., rfl⟩

/-! ## What the handler makes of an entry (R172, R173) -/

/-- An entry leaves the queues alone, so that its state is answered as it stands. -/
theorem State.handle_of_entry {s : State} {kind : Nat} {q : Request} {rest : List Request} (h : s.Offers kind q rest)
    {lengthOk : Nat → Bool} (ok : lengthOk q.body.length = true) {act : Request → State → Answer} (entry : Entry act) :
    (s.handle kind lengthOk act).chooseAgain =
      (act q s.popRequest).state.answered q rest (act q s.popRequest).result (act q s.popRequest).body := by
  obtain ⟨inbound, -, -⟩ := (entry q s.popRequest).queues
  have tail : (act q s.popRequest).state.link.inbound = rest :=
    inbound.trans (by rw [State.popRequest, h.head]; rfl)
  rw [State.handle_of_offers h ok, State.offerReply_eq, State.answered, ← tail]

/-- An answer that is a refusal has no effect and no body. -/
def Answer.Sober (a : Answer) (s : State) : Prop := a.result ∈ refusals → a = .plain s a.result

theorem Answer.Sober.plain (s : State) (r : Result) : (Answer.plain s r).Sober s := fun _ => rfl

theorem Answer.Sober.of_taken {a : Answer} (taken : a.result ∉ refusals) (s : State) : a.Sober s :=
  fun refused => absurd refused taken

theorem ok_taken : Result.ok ∉ refusals := by decide

theorem accepted_taken : Result.accepted ∉ refusals := by decide

theorem clampResult_taken (changed : Bool) : clampResult changed ∉ refusals := by
  cases changed <;> decide

/-- Every refusal of an entry is an answer without effect. -/
def SoberEntry (act : Request → State → Answer) : Prop := ∀ q s, (act q s).Sober s

theorem sober_restart : SoberEntry actRestart := by
  intro q s
  unfold actRestart
  split
  · exact .plain s _
  · exact .of_taken ok_taken s

theorem sober_setLine : SoberEntry actSetLine := by
  intro q s
  unfold actSetLine
  split
  · exact .of_taken (clampResult_taken _) s
  · exact .plain s _

theorem sober_lightLine (now : Tick) : SoberEntry (actLightLine now) := by
  intro q s
  unfold actLightLine
  split
  · exact .of_taken ok_taken s
  · exact .plain s _

theorem sober_setProfile : SoberEntry actSetProfile := by
  intro q s
  unfold actSetProfile
  split
  · exact .plain s _
  · exact .of_taken (clampResult_taken _) s

theorem sober_readProfile : SoberEntry actReadProfile := by
  intro q s
  unfold actReadProfile
  split
  · exact .plain s _
  · exact .of_taken ok_taken s

theorem sober_setAdmission : SoberEntry actSetAdmission := by
  intro q s
  unfold actSetAdmission
  dsimp only
  split
  · split
    · exact .plain s _
    split
    · exact .plain s _
    · exact .of_taken ok_taken s
  · exact .plain s _

theorem sober_dropExpected : SoberEntry actDropExpected := by
  intro q s
  unfold actDropExpected
  dsimp only
  split
  · exact .plain s _
  · exact .of_taken ok_taken s

theorem sober_readExpected : SoberEntry actReadExpected := by
  intro q s
  unfold actReadExpected
  dsimp only
  split
  · exact .plain s _
  · exact .of_taken ok_taken s

theorem sober_barSerial : SoberEntry actBarSerial := by
  intro q s
  unfold actBarSerial
  dsimp only
  split
  · exact .of_taken ok_taken s
  split
  · exact .plain s _
  · exact .of_taken ok_taken s

theorem sober_liftBar : SoberEntry actLiftBar := by
  intro q s
  unfold actLiftBar
  dsimp only
  split
  · exact .of_taken ok_taken s
  · exact .plain s _

theorem sober_readStrangers : SoberEntry actReadStrangers := by
  intro q s
  unfold actReadStrangers
  dsimp only
  split
  · exact .plain s _
  · exact .of_taken ok_taken s

theorem sober_startCensus : SoberEntry actStartCensus := by
  intro q s
  unfold actStartCensus
  dsimp only
  split
  · exact .plain s _
  split
  · exact .plain s _
  split
  · exact .plain s _
  · exact .of_taken (clampResult_taken _) s

theorem sober_stopCensus : SoberEntry actStopCensus := by
  intro q s
  unfold actStopCensus
  split <;> exact .of_taken ok_taken s

theorem sober_readTerminal : SoberEntry actReadTerminal := by
  intro q s
  unfold actReadTerminal
  split
  · exact .plain s _
  · exact .of_taken ok_taken s

theorem sober_parkTerminal : SoberEntry actParkTerminal := by
  intro q s
  unfold actParkTerminal
  split
  · exact .plain s _
  split
  · exact .plain s _
  · exact .of_taken ok_taken s

theorem sober_resumeTerminal : SoberEntry actResumeTerminal := by
  intro q s
  unfold actResumeTerminal
  split
  · exact .plain s _
  split
  · split
    · exact .of_taken ok_taken s
    · exact .plain s _
  · exact .plain s _

theorem sober_releaseTerminal : SoberEntry actReleaseTerminal := by
  intro q s
  unfold actReleaseTerminal
  split
  · exact .plain s _
  split <;> exact .of_taken ok_taken s

theorem sober_setCurve : SoberEntry actSetCurve := by
  intro q s
  unfold actSetCurve
  dsimp only
  split
  · exact .plain s _
  · exact .of_taken (clampResult_taken _) s

theorem sober_readCurve : SoberEntry actReadCurve := by
  intro q s
  unfold actReadCurve
  dsimp only
  split
  · exact .plain s _
  · exact .of_taken ok_taken s

theorem sober_calibrate : SoberEntry actCalibrate := by
  intro q s
  unfold actCalibrate
  split
  · exact .of_taken accepted_taken s
  · exact .plain s _

/-! ## The table of 12.3 -/

/-- A row of the table: its command is the handler with the row's kind and lengths and an entry whose refusals have no
effect. -/
structure RequestRow.Served (row : RequestRow) (act : Request → State → Answer) (lengthOk : Nat → Bool) : Prop where
  served : ∀ s, exec row.command s = .next (s.handle row.kind lengthOk act).chooseAgain
  lengths : ∀ n, lengthOk n = true ↔ n ∈ row.lengths
  entry : Entry act
  sober : SoberEntry act

theorem exactly_iff (n m : Nat) : exactly n m = true ↔ m ∈ [n] := by simp [exactly]

theorem loadLengthOk_iff (n : Nat) : loadLengthOk n = true ↔ n ∈ (List.range 20).map fun k => 6 * (k + 1) := by
  simp only [loadLengthOk, Bool.and_eq_true, beq_iff_eq, decide_eq_true_eq, List.mem_map, List.mem_range]
  constructor
  · intro h; exact ⟨n / 6 - 1, by omega, by omega⟩
  · rintro ⟨k, hk, rfl⟩; omega

theorem curveLengthOk_iff (n : Nat) : curveLengthOk n = true ↔ n ∈ (List.range 33).map fun k => 1 + 2 * (k + 1) := by
  simp only [curveLengthOk, Bool.and_eq_true, beq_iff_eq, decide_eq_true_eq, List.mem_map, List.mem_range]
  constructor
  · intro h; exact ⟨n / 2 - 1, by omega, by omega⟩
  · rintro ⟨k, hk, rfl⟩; omega

/-- The entry of every request of the table. -/
theorem requestTable_served {now : Tick} {row : RequestRow} (h : row ∈ requestTable now) :
    ∃ act lengthOk, row.Served act lengthOk := by
  simp only [requestTable, List.mem_cons, List.not_mem_nil, or_false] at h
  have taken (act : Request → State → Answer) (result : ∀ q s, (act q s).result ∉ refusals) : SoberEntry act :=
    fun q s => .of_taken (result q s) s
  rcases h with rfl | rfl | rfl | rfl | rfl | rfl | rfl | rfl | rfl | rfl | rfl | rfl | rfl | rfl | rfl | rfl | rfl | rfl |
    rfl | rfl | rfl | rfl | rfl | rfl | rfl | rfl | rfl | rfl
  · exact ⟨_, _, fun _ => rfl, exactly_iff 0, entry_identify, taken _ fun _ _ => ok_taken⟩
  · exact ⟨_, _, fun _ => rfl, exactly_iff 0, entry_readStatus, taken _ fun _ _ => ok_taken⟩
  · exact ⟨_, _, fun _ => rfl, exactly_iff 18, entry_setLine, sober_setLine⟩
  · exact ⟨_, _, fun _ => rfl, exactly_iff 4, entry_setCycleLength, taken _ fun _ _ => clampResult_taken _⟩
  · exact ⟨_, _, fun _ => rfl, exactly_iff 0, entry_lightLine now, sober_lightLine now⟩
  · exact ⟨_, _, fun _ => rfl, exactly_iff 0, entry_darkenLine, taken _ fun _ _ => ok_taken⟩
  · exact ⟨_, _, fun _ => rfl, exactly_iff 17, entry_setProfile, sober_setProfile⟩
  · exact ⟨_, _, fun _ => rfl, exactly_iff 1, entry_readProfile, sober_readProfile⟩
  · exact ⟨_, _, fun _ => rfl, exactly_iff 4, entry_setAdmission, sober_setAdmission⟩
  · exact ⟨_, _, fun _ => rfl, loadLengthOk_iff, entry_loadExpected, taken _ fun _ _ => ok_taken⟩
  · exact ⟨_, _, fun _ => rfl, exactly_iff 4, entry_dropExpected, sober_dropExpected⟩
  · exact ⟨_, _, fun _ => rfl, exactly_iff 2, entry_readExpected, sober_readExpected⟩
  · exact ⟨_, _, fun _ => rfl, exactly_iff 4, entry_barSerial, sober_barSerial⟩
  · exact ⟨_, _, fun _ => rfl, exactly_iff 4, entry_liftBar, sober_liftBar⟩
  · exact ⟨_, _, fun _ => rfl, exactly_iff 1, entry_readStrangers, sober_readStrangers⟩
  · exact ⟨_, _, fun _ => rfl, exactly_iff 14, entry_startCensus, sober_startCensus⟩
  · exact ⟨_, _, fun _ => rfl, exactly_iff 0, entry_stopCensus, sober_stopCensus⟩
  · exact ⟨_, _, fun _ => rfl, exactly_iff 1, entry_readTerminal, sober_readTerminal⟩
  · exact ⟨_, _, fun _ => rfl, exactly_iff 0, entry_readRoster, taken _ fun _ _ => ok_taken⟩
  · exact ⟨_, _, fun _ => rfl, exactly_iff 1, entry_parkTerminal, sober_parkTerminal⟩
  · exact ⟨_, _, fun _ => rfl, exactly_iff 1, entry_resumeTerminal, sober_resumeTerminal⟩
  · exact ⟨_, _, fun _ => rfl, exactly_iff 1, entry_releaseTerminal, sober_releaseTerminal⟩
  · exact ⟨_, _, fun _ => rfl, exactly_iff 3, entry_setConverter, taken _ fun _ _ => clampResult_taken _⟩
  · exact ⟨_, _, fun _ => rfl, curveLengthOk_iff, entry_setCurve, sober_setCurve⟩
  · exact ⟨_, _, fun _ => rfl, exactly_iff 2, entry_readCurve, sober_readCurve⟩
  · exact ⟨_, _, fun _ => rfl, exactly_iff 2, entry_calibrate, sober_calibrate⟩
  · exact ⟨_, _, fun _ => rfl, exactly_iff 1, entry_setNoticeMask, taken _ fun _ _ => ok_taken⟩
  · exact ⟨_, _, fun _ => rfl, exactly_iff 1, entry_restart, sober_restart⟩

theorem RequestRow.Served.length {row : RequestRow} {act : Request → State → Answer} {lengthOk : Nat → Bool}
    (h : row.Served act lengthOk) {s : State} {q : Request} {rest : List Request} (offer : s.Offers row.kind q rest)
    (bad : q.body.length ∉ row.lengths) : exec row.command s = .next (s.answered q rest .length []) := by
  have refused : lengthOk q.body.length = false := Bool.eq_false_iff.mpr fun ok => bad ((h.lengths _).mp ok)
  rw [h.served, State.handle_of_length offer refused]

/-- Settles O10: no request in its turn changes nothing but the choice, and the two refusals of the handler come before the
entry. -/
theorem requestsAreTakenInTurn : Obligations.RequestsAreTakenInTurn := by
  refine ⟨fun s q rest kind offer unnamed => ?_, fun s now row q rest listed offer bad => ?_,
    fun s now c listed busy => ?_⟩
  · have unknown : namesRequest q.kind = false := by
      simp only [namesRequest, offer.kind, Bool.and_eq_false_iff, decide_eq_false_iff_not]
      omega
    have taken : s.handleUnknown = s.popRequest.offerReply q .unknown [] := by
      simp [State.handleUnknown, State.nextRequest_of_offers offer, unknown]
    exact congrArg Host.Outcome.next ((congrArg State.chooseAgain taken).trans
      (State.popRequest_offerReply s q rest offer.head .unknown []))
  · obtain ⟨act, lengthOk, served⟩ := requestTable_served listed
    exact served.length offer bad
  · have none := State.nextRequest_none busy
    rcases List.mem_cons.mp listed with rfl | listed
    · have still : s.handleUnknown = s := by simp [State.handleUnknown, none]
      exact congrArg (fun t => Host.Outcome.next (State.chooseAgain t)) still
    · obtain ⟨row, inTable, rfl⟩ := List.mem_map.mp listed
      obtain ⟨act, lengthOk, served⟩ := requestTable_served inTable
      rw [served.served, State.handle_of_none none]

/-- Settles O11: an entry is answered with the state that it leaves, and a refusal leaves the state that it found. -/
theorem refusalsChangeNothing : Obligations.RefusalsChangeNothing := by
  intro s now row q rest listed offer
  obtain ⟨act, lengthOk, served⟩ := requestTable_served listed
  by_cases allowed : q.body.length ∈ row.lengths
  · have ok := (served.lengths _).mpr allowed
    have answered : exec row.command s = _ := (served.served s).trans
      (congrArg Host.Outcome.next (State.handle_of_entry offer ok served.entry))
    by_cases refused : (act q s.popRequest).result ∈ refusals
    · have plain := served.sober q s.popRequest refused
      rw [plain] at answered
      exact ⟨s, _, [], answered, rfl, fun _ => ⟨rfl, rfl⟩⟩
    · exact ⟨_, _, _, answered, (served.entry q s.popRequest).queues.2.1, fun r => absurd r refused⟩
  · exact ⟨s, .length, [], served.length offer allowed, rfl, fun _ => ⟨rfl, rfl⟩⟩

end Sys2Proof.Machine

/-! PROOFS. The receiver, the transmitter's choice and the wait of a restart (10). -/

namespace Sys2Proof.Machine

/-! ## The choice of the transmitter (R174) -/

/-- Some pending notice is unmasked (R176). -/
def State.NoticePending (s : State) : Prop :=
  s.link.kinds.hello = true ∨ (s.link.kinds.line && s.link.mask.line) = true ∨
    (s.link.kinds.calibration && s.link.mask.calibration) = true ∨ (s.link.kinds.census && s.link.mask.census) = true ∨
    (s.link.mask.terminal = true ∧ s.noticeTag ≠ none) ∨ (s.link.kinds.plan && s.link.mask.plan) = true

/-- A transmitter between frames has something to send. -/
def State.Sendable (s : State) : Prop :=
  (s.link.handler = .idle ∧ (s.link.outbound ≠ [] ∨ s.NoticePending)) ∨
    ∃ form n replied, s.link.handler = .restartWaiting form (n + 1) replied ∧ s.link.outbound ≠ []

theorem State.sendNotice_cases (s : State) :
    (s.NoticePending ∧ ∃ frame, s.sendNotice.link.tx = .sending frame) ∨ (¬s.NoticePending ∧ s.sendNotice = s) := by
  unfold State.sendNotice State.NoticePending
  dsimp only
  split
  · next hello => exact .inl ⟨.inl hello, _, rfl⟩
  next hello =>
  split
  · next line => exact .inl ⟨.inr (.inl line), _, rfl⟩
  next line =>
  split
  · next calibration => exact .inl ⟨.inr (.inr (.inl calibration)), _, rfl⟩
  next calibration =>
  split
  · next census => exact .inl ⟨.inr (.inr (.inr (.inl census))), _, rfl⟩
  next census =>
  split
  · next t found =>
    split at found
    · next terminal => exact .inl ⟨.inr (.inr (.inr (.inr (.inl ⟨terminal, by simp [found]⟩)))), _, rfl⟩
    · cases found
  next unfound =>
  split
  · next plan => exact .inl ⟨.inr (.inr (.inr (.inr (.inr plan)))), _, rfl⟩
  next plan =>
  refine .inr ⟨?_, rfl⟩
  rintro (h | h | h | h | ⟨terminal, h⟩ | h)
  · exact hello h
  · exact line h
  · exact calibration h
  · exact census h
  · rw [if_pos terminal] at unfound; exact h unfound
  · exact plan h

theorem State.chooseFrame_of_reply {s : State} {r : Reply} {rest : List Reply} (idle : s.link.handler = .idle)
    (queued : s.link.outbound = r :: rest) :
    s.chooseFrame = { s with link.tx := .sending r.frame, link.outbound := rest } := by
  simp only [State.chooseFrame, State.transmit, idle, queued]

theorem State.chooseFrame_of_empty {s : State} (idle : s.link.handler = .idle) (empty : s.link.outbound = []) :
    s.chooseFrame = s.sendNotice := by
  simp only [State.chooseFrame, idle, empty]

theorem State.chooseFrame_of_ahead {s : State} {form : RestartForm} {n : Nat} {replied : Bool} {r : Reply}
    {rest : List Reply} (waiting : s.link.handler = .restartWaiting form (n + 1) replied)
    (queued : s.link.outbound = r :: rest) :
    s.chooseFrame =
      { s with link.tx := .sending r.frame, link.outbound := rest, link.handler := .restartWaiting form n replied } := by
  simp only [State.chooseFrame, State.transmit, waiting, queued]

theorem State.chooseFrame_of_none_ahead {s : State} {form : RestartForm} {replied : Bool}
    (waiting : s.link.handler = .restartWaiting form 0 replied) : s.chooseFrame = s := by
  simp only [State.chooseFrame, waiting]

theorem State.chooseFrame_of_waiting_empty {s : State} {form : RestartForm} {n : Nat} {replied : Bool}
    (waiting : s.link.handler = .restartWaiting form n replied) (empty : s.link.outbound = []) : s.chooseFrame = s := by
  simp only [State.chooseFrame, waiting, empty]

/-- A choice begins a frame where there is something to send, and changes nothing else. -/
theorem State.chooseFrame_cases (s : State) :
    (s.Sendable ∧ ∃ frame, s.chooseFrame.link.tx = .sending frame) ∨ (¬s.Sendable ∧ s.chooseFrame = s) := by
  unfold State.Sendable
  cases handler : s.link.handler with
  | idle =>
    cases outbound : s.link.outbound with
    | cons r rest => rw [State.chooseFrame_of_reply handler outbound]; simp
    | nil => rw [State.chooseFrame_of_empty handler outbound]; simpa using s.sendNotice_cases
  | restartWaiting form n replied =>
    cases outbound : s.link.outbound with
    | nil => rw [State.chooseFrame_of_waiting_empty handler outbound]; simp
    | cons r rest =>
      cases n with
      | zero => rw [State.chooseFrame_of_none_ahead handler]; simp
      | succ n => rw [State.chooseFrame_of_ahead handler outbound]; simp

/-- A transmitter that is sending, or that has nothing to send, makes no choice. -/
def State.Settled (s : State) : Prop := (∃ frame, s.link.tx = .sending frame) ∨ ¬s.Sendable

theorem State.Settled.chooseAgain {s : State} (h : s.Settled) : s.chooseAgain = s := by
  rcases h with ⟨frame, sending⟩ | nothing
  · exact State.chooseAgain_of_sending sending
  · unfold State.chooseAgain
    split
    · exact (s.chooseFrame_cases.resolve_left fun sends => nothing sends.1).2
    · rfl

/-- What the choice at the end of an event leaves has nothing more to choose. -/
theorem State.settled_chooseAgain (s : State) : s.chooseAgain.Settled := by
  unfold State.chooseAgain
  split
  · rcases s.chooseFrame_cases with ⟨_, sending⟩ | ⟨nothing, same⟩
    · exact .inl sending
    · rw [same]; exact .inr nothing
  · next frame sending => exact .inl ⟨frame, sending⟩

/-- The choice does not look at the receiver. -/
theorem State.sendNotice_rx (s : State) (x : Receiver) :
    State.sendNotice { s with link.rx := x } = { s.sendNotice with link.rx := x } := by
  have tag : State.noticeTag { s with link.rx := x } = s.noticeTag := rfl
  unfold State.sendNotice
  dsimp only
  rw [tag]
  cases if s.link.mask.terminal then s.noticeTag else none <;> split_ifs <;> rfl

theorem State.chooseFrame_rx (s : State) (x : Receiver) :
    State.chooseFrame { s with link.rx := x } = { s.chooseFrame with link.rx := x } := by
  cases handler : s.link.handler with
  | idle =>
    cases outbound : s.link.outbound with
    | cons r rest =>
      rw [State.chooseFrame_of_reply handler outbound]
      exact State.chooseFrame_of_reply (s := { s with link.rx := x }) handler outbound
    | nil =>
      rw [State.chooseFrame_of_empty handler outbound]
      exact (State.chooseFrame_of_empty (s := { s with link.rx := x }) handler outbound).trans (s.sendNotice_rx x)
  | restartWaiting form n replied =>
    cases outbound : s.link.outbound with
    | nil =>
      rw [State.chooseFrame_of_waiting_empty handler outbound]
      exact State.chooseFrame_of_waiting_empty (s := { s with link.rx := x }) handler outbound
    | cons r rest =>
      cases n with
      | zero =>
        rw [State.chooseFrame_of_none_ahead handler]
        exact State.chooseFrame_of_none_ahead (s := { s with link.rx := x }) handler
      | succ n =>
        rw [State.chooseFrame_of_ahead handler outbound]
        exact State.chooseFrame_of_ahead (s := { s with link.rx := x }) handler outbound

theorem State.chooseAgain_rx (s : State) (x : Receiver) :
    State.chooseAgain { s with link.rx := x } = { s.chooseAgain with link.rx := x } := by
  cases tx : s.link.tx with
  | betweenFrames =>
    have both (u : State) (h : u.link.tx = .betweenFrames) : u.chooseAgain = u.chooseFrame := by
      simp only [State.chooseAgain, h]
    rw [both s tx, both { s with link.rx := x } tx, s.chooseFrame_rx x]
  | sending frame =>
    rw [State.chooseAgain_of_sending tx]
    exact State.chooseAgain_of_sending (s := { s with link.rx := x }) tx

/-! ## RESTART (R178, R187) -/

theorem actRestart_of_form {q : Request} {code : Byte} (body : q.body = [code]) {form : RestartForm}
    (named : restartFormOf code.toNat = some form) (s : State) :
    actRestart q s =
      .plain { s with link.handler := .restartWaiting form (s.link.outbound.length + if q.quiet then 0 else 1) (!q.quiet) }
        .ok := by
  simp [actRestart, body, beAt_cons, named]

theorem actRestart_of_none {q : Request} {code : Byte} (body : q.body = [code])
    (unnamed : restartFormOf code.toNat = none) (s : State) : actRestart q s = .plain s .range := by
  simp [actRestart, body, beAt_cons, unnamed]

/-- Settles O6: the entry writes the wait, and the choice counts it down; a restart with replies ahead is not due. -/
theorem restartWaitsForReplies : Obligations.RestartWaitsForReplies := by
  refine ⟨fun s q rest code offer body => ?_, fun s form n replied r rest waiting queued => ⟨?_, ?_⟩,
    fun s form replied waiting => ?_⟩
  · have allowed : exactly 1 q.body.length = true := by simp [exactly, body]
    have served : exec .restart s = _ :=
      congrArg Host.Outcome.next (State.handle_of_entry offer allowed entry_restart)
    refine ⟨fun form named => ?_, fun outside => ?_⟩
    · have found : restartFormOf code.toNat = some form := by
        rcases named with ⟨rfl, rfl⟩ | ⟨rfl, rfl⟩ <;> rfl
      rw [served, actRestart_of_form body found]
      rfl
    · have unnamed : restartFormOf code.toNat = none := by
        unfold restartFormOf
        split <;> first | omega | rfl
      rw [served, actRestart_of_none body unnamed]
      rfl
  · have early : s.takeRestart = s.chooseAgain := by simp only [State.takeRestart, State.restartDue, waiting]
    exact congrArg Host.Outcome.next early
  · exact congrArg Host.Outcome.next
      (State.chooseFrame_of_ahead (s := { s with link.tx := .betweenFrames }) waiting queued)
  · exact congrArg Host.Outcome.next
      (State.chooseFrame_of_none_ahead (s := { s with link.tx := .betweenFrames }) waiting)

/-! ## The receiver (R169, R170, R171) -/

theorem State.receiveByte_hunt {s : State} (rx : s.link.rx = .hunt) (b : Byte) (stop : Bool) :
    s.receiveByte b stop = if stop = true ∧ b = 0xA5 then { s with link.rx := .count crcStart } else s := by
  simp only [State.receiveByte, rx]

theorem State.receiveByte_count {s : State} {crc : BitVec 16} (rx : s.link.rx = .count crc) (b : Byte) (stop : Bool) :
    s.receiveByte b stop =
      if stop = true ∧ 2 ≤ b.toNat ∧ b.toNat ≤ 252 then { s with link.rx := .content (crcByte crc b) b.toNat [] }
      else s.frameLost := by
  simp only [State.receiveByte, rx]
  rfl

theorem State.receiveByte_content {s : State} {crc : BitVec 16} {len : Nat} {bytes : List Byte}
    (rx : s.link.rx = .content crc len bytes) (b : Byte) :
    s.receiveByte b true =
      if bytes.length + 1 < len then { s with link.rx := .content (crcByte crc b) len (bytes ++ [b]) }
      else { s with link.rx := .check (crcByte crc b) (bytes ++ [b]) none } := by
  simp only [State.receiveByte, rx, if_true, List.length_append, List.length_singleton]
  by_cases more : bytes.length + 1 < len
  · rw [if_pos more, if_neg (Nat.not_le.mpr more)]
  · rw [if_neg more, if_pos (Nat.not_lt.mp more)]

theorem State.receiveByte_check_first {s : State} {crc : BitVec 16} {bytes : List Byte}
    (rx : s.link.rx = .check crc bytes none) (b : Byte) :
    s.receiveByte b true = { s with link.rx := .check crc bytes (some b) } := by
  simp only [State.receiveByte, rx, if_true]

theorem State.receiveByte_check_second {s : State} {crc : BitVec 16} {bytes : List Byte} {high : Byte}
    (rx : s.link.rx = .check crc bytes (some high)) (b : Byte) :
    s.receiveByte b true =
      if high ++ b = crc then { s with link.rx := .hunt }.offerRequest (requestOf bytes) else s.frameLost := by
  simp only [State.receiveByte, rx, if_true]
  rfl

theorem State.receiveByte_noStop {s : State} (rx : s.link.rx ≠ .hunt) (b : Byte) :
    s.receiveByte b false = s.frameLost := by
  unfold State.receiveByte
  split
  · next hunt => exact absurd hunt rx
  all_goals simp; rfl

theorem State.expireGap_of_reception {s : State} (rx : s.link.rx ≠ .hunt) : s.expireGap = s.frameLost := by
  unfold State.expireGap
  split
  · next hunt => exact absurd hunt rx
  · rfl

/-- Settles O8: one equation per state of the receiver. -/
theorem receiverTakesEachByte : Obligations.ReceiverTakesEachByte := by
  intro s b stop
  have taken {t : State} (e : s.receiveByte b stop = t) : exec (.byteReceived b stop) s = .next t.chooseAgain :=
    congrArg (fun u => Host.Outcome.next (State.chooseAgain u)) e
  have expired {t : State} (e : s.expireGap = t) : exec .gapExpiry s = .next t.chooseAgain :=
    congrArg (fun u => Host.Outcome.next (State.chooseAgain u)) e
  refine ⟨fun rx => ⟨?_, ?_⟩, fun crc rx => ?_, fun crc len bytes rx stopped => ?_, fun crc bytes rx stopped => ?_,
    fun crc bytes high rx stopped wrong => ?_, fun rx => ⟨fun unstopped => ?_, ?_⟩⟩
  · rw [taken (State.receiveByte_hunt rx b stop)]
    split <;> rfl
  · exact expired (by simp only [State.expireGap, rx])
  · rw [taken (State.receiveByte_count rx b stop)]
    split <;> rfl
  · subst stopped
    rw [taken (State.receiveByte_content rx b)]
    split <;> rfl
  · subst stopped
    exact taken (State.receiveByte_check_first rx b)
  · subst stopped
    exact taken ((State.receiveByte_check_second rx b).trans (if_neg wrong))
  · subst unstopped
    exact taken (State.receiveByte_noStop rx b)
  · exact expired (State.expireGap_of_reception rx)

/-! ## A frame (R169, R171, 12.2) -/

/-- The bytes of a frame, each with its stop bit. -/
def wellTimed (bs : List Byte) : List RxByte := bs.map fun b => { data := b, stop := true }

theorem State.receiveBytes_wellTimed_cons (s : State) (b : Byte) (bs : List Byte) :
    s.receiveBytes (wellTimed (b :: bs)) = (s.receiveByte b true).chooseAgain.receiveBytes (wellTimed bs) := rfl

/-- The counted bytes of a frame are gathered, and the check goes over them. -/
theorem State.receiveBytes_content {u : State} (settled : u.Settled) (crc : BitVec 16) (len : Nat) (got : List Byte)
    (b : Byte) (bs : List Byte) (count : got.length + (b :: bs).length = len) (after : List Byte) :
    State.receiveBytes { u with link.rx := .content crc len got } (wellTimed (b :: bs ++ after)) =
      State.receiveBytes { u with link.rx := .check ((b :: bs).foldl crcByte crc) (got ++ b :: bs) none }
        (wellTimed after) := by
  have still (x : Receiver) : State.chooseAgain { u with link.rx := x } = { u with link.rx := x } :=
    State.Settled.chooseAgain settled
  have taken := State.receiveByte_content (s := { u with link.rx := .content crc len got }) rfl b
  rw [List.cons_append, State.receiveBytes_wellTimed_cons, taken]
  induction bs generalizing crc got b with
  | nil =>
    rw [if_neg (by simp at count; omega)]
    exact congrArg (State.receiveBytes · _) (still _)
  | cons c bs ih =>
    rw [if_pos (by simp at count; omega)]
    refine (congrArg (State.receiveBytes · _) (still _)).trans ?_
    have next := ih (crcByte crc b) (got ++ [b]) c (by simp at count ⊢; omega)
      (State.receiveByte_content (s := { u with link.rx := .content (crcByte crc b) len (got ++ [b]) }) rfl c)
    rw [List.cons_append, State.receiveBytes_wellTimed_cons,
      State.receiveByte_content (s := { u with link.rx := .content (crcByte crc b) len (got ++ [b]) }) rfl c]
    simpa using next

theorem beBytes_two (x : BitVec 16) : ∃ high low : Byte, beBytes 2 x.toNat = [high, low] ∧ high ++ low = x := by
  refine ⟨byteOf (x.toNat / 256), byteOf x.toNat, rfl, BitVec.eq_of_toNat_eq ?_⟩
  have split := Nat.div_add_mod x.toNat 256
  have bound := x.isLt
  rw [BitVec.toNat_append, byteOf, byteOf, BitVec.toNat_ofNat, BitVec.toNat_ofNat, ← Nat.shiftLeft_add_eq_or_of_lt (by omega),
    Nat.shiftLeft_eq]
  omega

/-- A transmitter that has settled receives a whole frame: the request that it carries is offered. -/
theorem State.receiveBytes_frame {s u : State} (chosen : u = s.chooseAgain) (rx : s.link.rx = .hunt) (kind tagByte : Byte)
    {body : List Byte} (short : body.length ≤ 250) :
    s.receiveBytes (wellTimed (linkFrame kind tagByte body)) =
      (u.offerRequest
        { kind := kind, tag := tagByte.setWidth 7, quiet := tagByte.getLsbD 7, body := body }).chooseAgain := by
  have settled : u.Settled := chosen ▸ s.settled_chooseAgain
  have still (x : Receiver) : State.chooseAgain { u with link.rx := x } = { u with link.rx := x } :=
    State.Settled.chooseAgain settled
  have hunting : { u with link.rx := .hunt } = u := by
    have keeps : u.link.rx = .hunt := by
      obtain ⟨_, _, _, _, _, _, _, _, _, e, -⟩ := s.chooseAgain_keeps
      rw [chosen, e]; exact rx
    rw [← keeps]
  have count : (byteOf (2 + body.length)).toNat = 2 + body.length := by
    simp only [byteOf, BitVec.toNat_ofNat]; omega
  obtain ⟨high, low, bytes, word⟩ := beBytes_two (crcOf (byteOf (2 + body.length) :: kind :: tagByte :: body))
  have started : (s.receiveByte 0xA5 true).chooseAgain = { u with link.rx := .count crcStart } := by
    rw [State.receiveByte_hunt rx, if_pos ⟨rfl, rfl⟩, State.chooseAgain_rx, ← chosen]
  have counted : State.receiveByte { u with link.rx := .count crcStart } (byteOf (2 + body.length)) true =
      { u with link.rx := .content (crcByte crcStart (byteOf (2 + body.length))) (2 + body.length) [] } := by
    rw [State.receiveByte_count rfl, if_pos ⟨rfl, by omega, by omega⟩, count]
  have gathered := State.receiveBytes_content settled (crcByte crcStart (byteOf (2 + body.length))) (2 + body.length) []
    kind (tagByte :: body) (by simp; omega) [high, low]
  have crc : (kind :: tagByte :: body).foldl crcByte (crcByte crcStart (byteOf (2 + body.length))) =
      crcOf (byteOf (2 + body.length) :: kind :: tagByte :: body) := by
    unfold crcOf
    exact (List.foldl_cons ..).symm
  rw [crc, List.nil_append] at gathered
  have accepted : State.receiveByte
      { u with link.rx :=
          .check (crcOf (byteOf (2 + body.length) :: kind :: tagByte :: body)) (kind :: tagByte :: body) (some high) }
      low true = u.offerRequest
        { kind := kind, tag := tagByte.setWidth 7, quiet := tagByte.getLsbD 7, body := body } := by
    rw [State.receiveByte_check_second rfl, if_pos word]
    exact congrArg (State.offerRequest · _) hunting
  unfold linkFrame
  dsimp only
  rw [bytes, List.cons_append, List.cons_append, State.receiveBytes_wellTimed_cons, started,
    State.receiveBytes_wellTimed_cons, counted, still, gathered, State.receiveBytes_wellTimed_cons,
    State.receiveByte_check_first rfl]
  refine (congrArg (State.receiveBytes · _) (still _)).trans ?_
  exact congrArg State.chooseAgain accepted

/-- Settles O7: the frame brings its request to the inbound queue, which takes it, answers BUSY, or drops it. -/
theorem framesAreQueuedOrAnswered : Obligations.FramesAreQueuedOrAnswered := by
  intro s u kind tagByte body rx short chosen
  have received : exec (.frameReceived (wellTimed (linkFrame kind tagByte body))) s = _ :=
    congrArg Host.Outcome.next (State.receiveBytes_frame chosen rx kind tagByte short)
  have settled : u.Settled := chosen ▸ s.settled_chooseAgain
  obtain ⟨inbound, faults⟩ : u.link.inbound = s.link.inbound ∧ u.link.faults = s.link.faults := by
    obtain ⟨_, _, _, _, _, _, _, _, _, e, -⟩ := s.chooseAgain_keeps
    rw [chosen, e]; exact ⟨rfl, rfl⟩
  refine ⟨fun room => received.trans ?_, fun full => ⟨fun room => received.trans ?_, fun busy => received.trans ?_⟩⟩
  · have queued (q : Request) : u.offerRequest q = { u with link.inbound := s.link.inbound ++ [q] } := by
      rw [State.offerRequest, inbound, if_pos room]
    rw [queued]
    exact congrArg Host.Outcome.next (State.Settled.chooseAgain settled)
  · rw [State.offerRequest, inbound, if_neg (by omega), if_pos room]
  · rw [State.offerRequest, inbound, if_neg (by omega), if_neg (by omega), faults]
    exact congrArg Host.Outcome.next (State.Settled.chooseAgain settled)

end Sys2Proof.Machine

/-! PROOFS. The requests on profiles and admission, the census, the converter and the roster (11). -/

namespace Sys2Proof.Machine

/-! ## Reading the fields of a body (R190) -/

theorem beAt_beBytes {n v : Nat} (h : v < 256 ^ n) (rest : List Byte) : beAt (beBytes n v ++ rest) 0 n = v := by
  rw [beAt_append (beBytes_length n v), beValue_beBytes h]

theorem beAt_beBytes_all {n v : Nat} (h : v < 256 ^ n) : beAt (beBytes n v) 0 n = v := by
  simpa using beAt_beBytes h []

theorem beSignedAt_append_right {bs rest : List Byte} {off n : Nat} (h : bs.length ≤ off) :
    beSignedAt (bs ++ rest) off n = beSignedAt rest (off - bs.length) n := by
  rw [beSignedAt, beSignedAt, beAt_append_right h]

theorem beSignedAt_cons {b : Byte} {rest : List Byte} {off n : Nat} :
    beSignedAt (b :: rest) (off + 1) n = beSignedAt rest off n := by
  rw [beSignedAt, beSignedAt, beAt_cons]

theorem beSignedAt_one (b : Byte) (rest : List Byte) : beSignedAt (b :: rest) 0 1 = b.toInt := by
  simp [beSignedAt]

theorem serialAt_append_right {bs rest : List Byte} {off : Nat} (h : bs.length ≤ off) :
    serialAt (bs ++ rest) off = serialAt rest (off - bs.length) := by
  rw [serialAt, serialAt, beAt_append_right h]

theorem serialAt_cons {b : Byte} {rest : List Byte} {off : Nat} : serialAt (b :: rest) (off + 1) = serialAt rest off := by
  rw [serialAt, serialAt, beAt_cons]

theorem serialAt_beBytes_all (x : BitVec 32) : serialAt (beBytes 4 x.toNat) 0 = x := by
  simpa using serialAt_beBytes x []

theorem byteOf_toNat_fin {n : Nat} (h : n ≤ 256) (k : Fin n) : (byteOf k.val).toNat = k.val :=
  byteOf_toNat (k.isLt.trans_le h)

theorem clampResult_eq {changed : Bool} {unchanged : Prop} [Decidable unchanged] (h : changed = true ↔ ¬unchanged) :
    clampResult changed = if unchanged then .ok else .okClamped := by
  unfold clampResult
  by_cases u : unchanged
  · rw [if_neg (fun c => h.mp c u), if_pos u]
  · rw [if_pos (h.mpr u), if_neg u]

/-! ## READ ROSTER (R186) -/

theorem recordStateCode_mem (h : Option Terminal) : recordStateCode h ∈ ([0, 1, 2, 3, 4, 5] : List Byte) := by
  unfold recordStateCode
  (repeat' split) <;> decide

/-- Settles O14: a byte for each tag in order; the state code takes three bits and the flag the top one. -/
theorem readRosterReports : Obligations.ReadRosterReports := by
  intro s q rest offer body
  have allowed : exactly 0 q.body.length = true := by simp [exactly, body]
  have layout : ∀ code ∈ ([0, 1, 2, 3, 4, 5] : List Byte), ∀ flag : Bool,
      (code + if flag then 0x80 else 0) &&& 0x07 = code ∧ (code + if flag then 0x80 else 0).getLsbD 7 = flag ∧
        (code + if flag then 0x80 else 0) &&& 0x78 = 0 := by decide
  refine ⟨allTags.map s.rosterByte, congrArg Host.Outcome.next (State.handle_of_unchanged offer allowed rfl), by simp [allTags],
    fun g => ⟨s.rosterByte g, by simp [allTags], layout _ (recordStateCode_mem _) _⟩⟩

/-! ## START CENSUS and STOP CENSUS (R102, R103, R104) -/

theorem censusModeOf_code (mode : CensusMode) : censusModeOf mode.code.toNat = some mode := by
  cases mode <;> rfl

theorem censusModeOf_none {n : Nat} (h : 1 < n) : censusModeOf n = none := by
  unfold censusModeOf
  split <;> first | omega | rfl

/-- The fields of a START CENSUS body (12.3). -/
theorem startCensusBody_fields {body : List Byte} {m iv : Byte} {split pattern mask : Serial}
    (h : body = [m, iv] ++ beBytes 4 split.toNat ++ beBytes 4 pattern.toNat ++ beBytes 4 mask.toNat) :
    beAt body 0 1 = m.toNat ∧ beAt body 1 1 = iv.toNat ∧ serialAt body 2 = split ∧ serialAt body 6 = pattern ∧
      serialAt body 10 = mask := by
  subst h
  simp [List.append_assoc, beAt_cons, serialAt_cons, serialAt_append_right, serialAt_beBytes, serialAt_beBytes_all]

/-- The interval of a body is a byte, so that only 0 is clamped (R102). -/
theorem clampNat_interval (iv : Byte) : clampNat 1 255 iv.toNat = max 1 iv.toNat := by
  rw [clampNat_eq (by decide)]
  have := iv.isLt
  omega

theorem clampResult_interval (iv : Byte) :
    clampResult (clampNat 1 255 iv.toNat != iv.toNat) = if iv = 0 then .okClamped else .ok := by
  rw [clampNat_interval, clampResult_eq (unchanged := ¬iv = 0), ite_not]
  have zero : iv = 0 ↔ iv.toNat = 0 := BitVec.toNat_inj (y := 0#8).symm
  rw [bne_iff_ne, zero]
  omega

theorem actStartCensus_of_fields {q : Request} {m iv : Byte} {split pattern mask : Serial}
    (body : q.body = [m, iv] ++ beBytes 4 split.toNat ++ beBytes 4 pattern.toNat ++ beBytes 4 mask.toNat) (s : State) :
    actStartCensus q s =
      match censusModeOf m.toNat with
      | none => .plain s .range
      | some mode =>
        if s.line.state.takesCensus = true ∧ s.census.state = .stopped then
          .plain { s with census := s.census.begun mode iv.toNat split pattern mask }
            (if iv = 0 then .okClamped else .ok)
        else .plain s .state := by
  obtain ⟨mode, interval, splits, patterns, masks⟩ := startCensusBody_fields body
  unfold actStartCensus
  rw [mode, interval, splits, patterns, masks]
  dsimp only
  rw [clampResult_interval]
  cases censusModeOf m.toNat with
  | none => rfl
  | some mode =>
    dsimp only
    by_cases takes : s.line.state.takesCensus = true <;> by_cases stopped : s.census.state = .stopped <;>
      simp [takes, stopped]

theorem State.lit_of_ne_dark {s : State} (h : s.line.state ≠ .dark) : s.lit = true := (State.lit_iff s).mpr h

/-- Settles O21: the fields of the body are read back, and the census requests write the census alone. -/
theorem censusStartsAndStops : Obligations.CensusStartsAndStops := by
  refine ⟨fun s q rest m iv split pattern mask offer body => ?_, fun s q rest offer body => ?_⟩
  · have allowed : exactly 14 q.body.length = true := by simp [exactly, body]
    have served : exec .startCensus s = _ :=
      congrArg Host.Outcome.next (State.handle_of_entry offer allowed entry_startCensus)
    rw [actStartCensus_of_fields body] at served
    refine ⟨fun unnamed => ?_, fun named refused => ?_, fun mode code lit stopped => ?_⟩
    · rw [served, censusModeOf_none unnamed]; rfl
    · obtain ⟨mode, found⟩ : ∃ mode, censusModeOf m.toNat = some mode := by
        interval_cases m.toNat <;> exact ⟨_, rfl⟩
      have not : ¬(s.popRequest.line.state.takesCensus = true ∧ s.popRequest.census.state = .stopped) := by
        rintro ⟨takes, stopped⟩
        rcases refused with dark | draining | going
        · rw [State.popRequest_line, dark] at takes; cases takes
        · rw [State.popRequest_line, draining] at takes; cases takes
        · exact going stopped
      rw [served, found]
      simp only [if_neg not]
      rfl
    · have taken : s.popRequest.line.state.takesCensus = true ∧ s.popRequest.census.state = .stopped := by
        refine ⟨?_, stopped⟩
        rcases lit with warming | running
        · rw [State.popRequest_line, warming]; rfl
        · rw [State.popRequest_line, running]; rfl
      rw [served, code, censusModeOf_code]
      simp only [if_pos taken, Census.begun, clampNat_interval]
      rfl
  · have allowed : exactly 0 q.body.length = true := by simp [exactly, body]
    have served : exec .stopCensus s = _ :=
      congrArg Host.Outcome.next (State.handle_of_entry offer allowed entry_stopCensus)
    refine ⟨fun still => ?_, fun searching asked => ?_, fun searching settled => ?_⟩
    · have unchanged : actStopCensus q s.popRequest = .plain s.popRequest .ok := by
        unfold actStopCensus
        split
        · next state _ => exact absurd state still
        · next state _ => exact absurd state still
        · rfl
      rw [served, unchanged]; rfl
    · obtain ⟨o, outstanding⟩ := Option.isSome_iff_exists.mp asked
      have awaits : actStopCensus q s.popRequest = .plain s.popRequest.awaitLastWindow .ok := by
        simp only [actStopCensus, State.popRequest_census, searching, outstanding]
      rw [served, awaits]; rfl
    · have stops : actStopCensus q s.popRequest = .plain s.popRequest.stopSearch .ok := by
        simp only [actStopCensus, State.popRequest_census, searching, settled]
      rw [served, stops]
      have census (u : State) (cycle : CycleNo) (same : u.census = s.census) : (u.haltCensus .stopped cycle).census =
          { s.census with
            stack := [], wait := 0, state := .stopped
            lastPass := some { kind := .stopped, cycle := cycle, counters := s.census.counters, tie := s.census.tie } } := by
        rw [State.haltCensus_eq, same, ← settled]; rfl
      by_cases lit : s.lit = true
      · have stop : s.popRequest.stopSearch = s.popRequest.haltCensus .stopped s.cycleNo := if_pos lit
        rw [stop]
        exact ⟨_, s.cycleNo, rfl, census _ _ rfl, fun _ => rfl, rfl, rfl, rfl, rfl, rfl, rfl, rfl, rfl⟩
      · have stop : s.popRequest.stopSearch =
            State.haltCensus { s.popRequest with free := s.free + 1 } .stopped (Config.freeCycle s.free) := if_neg lit
        rw [stop]
        exact ⟨_, Config.freeCycle s.free, rfl, census _ _ rfl, fun dark => absurd (State.lit_of_ne_dark dark) lit, rfl, rfl, rfl,
          rfl, rfl, rfl, rfl, rfl⟩

/-! ## SET CONVERTER, CALIBRATE and SET NOTICE MASK (R157, R158, R162, R175) -/

theorem evenTowardZero_eq (v : Int) : evenTowardZero v = 2 * v.tdiv 2 := by
  unfold evenTowardZero
  rcases le_or_gt 0 v with pos | neg
  · rw [Int.tdiv_eq_ediv_of_nonneg pos]
    (repeat' split) <;> omega
  · have flip : v.tdiv 2 = -((-v) / 2) := by
      rw [← Int.tdiv_eq_ediv_of_nonneg (by omega), Int.neg_tdiv, neg_neg]
    rw [flip]
    (repeat' split) <;> omega

theorem offsetOf_eq (v : Int) : offsetOf v = storedOffset v := by
  rw [offsetOf, storedOffset, clampInt_eq (by decide), evenTowardZero_eq]

/-- Settles O25: each body is read back, and each value clamped by its own rule. -/
theorem converterAndMaskRequests : Obligations.ConverterAndMaskRequests := by
  refine ⟨fun s q rest w st ob offer body => ?_, fun s q rest n offer small body => ?_, fun s q rest b offer body => ?_⟩
  · have allowed : exactly 3 q.body.length = true := by simp [exactly, body]
    have served : exec .setConverter s = _ :=
      congrArg Host.Outcome.next (State.handle_of_entry offer allowed entry_setConverter)
    have window : (windowCodeOf w.toNat).val = min 3 w.toNat := by
      change clampNat 0 3 w.toNat = _
      rw [clampNat_eq (by decide)]; omega
    have step : (stepCodeOf st.toNat).val = min 2 st.toNat := by
      change clampNat 0 2 st.toNat = _
      rw [clampNat_eq (by decide)]; omega
    refine ⟨_, _, window, step, ?_⟩
    have result : clampResult ((windowCodeOf w.toNat).val != w.toNat || (stepCodeOf st.toNat).val != st.toNat ||
          storedOffset ob.toInt != ob.toInt) =
        if w.toNat ≤ 3 ∧ st.toNat ≤ 2 ∧ storedOffset ob.toInt = ob.toInt then .ok else .okClamped := by
      refine clampResult_eq ?_
      simp only [window, step, Bool.or_eq_true, bne_iff_ne]
      omega
    have read : actSetConverter q s.popRequest = .plain
        { s.popRequest with
          conv.windowCode := windowCodeOf w.toNat, conv.stepCode := stepCodeOf st.toNat
          conv.offset := storedOffset ob.toInt }
        (if w.toNat ≤ 3 ∧ st.toNat ≤ 2 ∧ storedOffset ob.toInt = ob.toInt then .ok else .okClamped) := by
      rw [← result, ← offsetOf_eq]
      simp [actSetConverter, body, beAt_cons, beSignedAt_cons, beSignedAt_one]
    rw [served, read]; rfl
  · have allowed : exactly 2 q.body.length = true := by simp [exactly, body]
    have served : exec .calibrate s = _ :=
      congrArg Host.Outcome.next (State.handle_of_entry offer allowed entry_calibrate)
    refine ⟨fun running idle => ?_, fun refused => ?_⟩
    · have target : clampNat 0 4095 (beAt q.body 0 2) = min 4095 n := by
        rw [body, beAt_beBytes_all small, clampNat_eq (by decide)]; omega
      have taken : actCalibrate q s.popRequest = .plain
          { s.popRequest with
            conv.calib := some (.begun (clampNat 0 4095 (beAt q.body 0 2))), planner.slotWanted := true } .accepted := by
        simp only [actCalibrate, State.popRequest_line, State.popRequest_conv, running, idle]
      rw [served, taken, target]; rfl
    · have plain : actCalibrate q s.popRequest = .plain s.popRequest .state := by
        unfold actCalibrate
        split
        · next running idle =>
          rcases refused with off | busy
          · exact absurd running off
          · rw [State.popRequest_conv] at idle; rw [idle] at busy; cases busy
        · rfl
      rw [served, plain]; rfl
  · have allowed : exactly 1 q.body.length = true := by simp [exactly, body]
    have served : exec .setNoticeMask s = _ :=
      congrArg Host.Outcome.next (State.handle_of_entry offer allowed entry_setNoticeMask)
    rw [served, actSetNoticeMask, body]; rfl

/-! ## SET CURVE (R160) -/

/-- The points from the start index hold the values, clamped, and the others what they held. -/
theorem get_writeCurve (curve : Bank Int 33) (start : Nat) (vs : List Int) (k : Fin 33) :
    (writeCurve curve start vs).get k =
      if start ≤ k.val then
        match vs[k.val - start]? with
        | some v => clampPoint v
        | none => curve.get k
      else curve.get k := by
  induction vs generalizing curve start with
  | nil => simp [writeCurve]
  | cons v vs ih =>
    unfold writeCurve
    split
    · next inside =>
      rw [ih, Bank.get_set]
      have written : k = ⟨start, inside⟩ ↔ k.val = start := Fin.ext_iff
      rcases lt_trichotomy k.val start with before | at_k | behind
      · rw [if_neg (by omega), if_neg (mt written.mp before.ne), if_neg (by omega)]
      · rw [if_neg (by omega), if_pos (written.mpr at_k), if_pos at_k.ge]
        simp [at_k]
      · rw [if_pos (by omega), if_pos behind.le, if_neg (mt written.mp behind.ne')]
        obtain ⟨j, at_j⟩ : ∃ j, k.val - start = j + 1 := ⟨k.val - start - 1, by omega⟩
        rw [at_j, List.getElem?_cons_succ, show k.val - (start + 1) = j by omega]
    · next outside => rw [if_neg (by omega)]

theorem curveValues_flatMap (vs : List Int) (fits : ∀ v ∈ vs, fitsTwoBytes v) :
    curveValues vs.length (vs.flatMap (beSigned 2)) = vs := by
  induction vs with
  | nil => rfl
  | cons v vs ih =>
    obtain ⟨low, high⟩ := fits v List.mem_cons_self
    rw [List.length_cons, curveValues, List.flatMap_cons, beSignedAt_two _ low high,
      List.drop_left' (beSigned_length 2 v), ih fun w hw => fits w (List.mem_cons_of_mem v hw)]

theorem length_flatMap_beSigned (vs : List Int) : (vs.flatMap (beSigned 2)).length = 2 * vs.length := by
  induction vs with
  | nil => rfl
  | cons v vs ih => simp [List.flatMap_cons, ih]; omega

theorem clampPoint_eq (v : Int) : clampPoint v = max (-600) (min 100 v) := clampInt_eq (by decide) v

/-- Settles O26: the values of the body are read back and written as far as the curve goes. -/
theorem setCurveWrites : Obligations.SetCurveWrites := by
  refine ⟨fun s q rest start vs offer inside some few fits body => ?_, fun s q rest b bs offer outside body even atLeast atMost => ?_⟩
  · have length : q.body.length = 1 + 2 * vs.length := by rw [body, List.length_cons, length_flatMap_beSigned]; omega
    have allowed : curveLengthOk q.body.length = true := by
      simp only [curveLengthOk, Bool.and_eq_true, beq_iff_eq, decide_eq_true_eq]; omega
    have served : exec .setCurve s = _ :=
      congrArg Host.Outcome.next (State.handle_of_entry offer allowed entry_setCurve)
    have read : beAt q.body 0 1 = start := by rw [body, beAt_one, byteOf_toNat (by omega)]
    have values : curveValues ((q.body.length - 1) / 2) (q.body.drop 1) = vs := by
      rw [length, show (1 + 2 * vs.length - 1) / 2 = vs.length by omega, body, List.drop_one, List.tail_cons,
        curveValues_flatMap vs fits]
    refine ⟨writeCurve s.conv.curve start (vs.take (33 - start)), fun k => ?_, ?_⟩
    · rw [get_writeCurve]
      split
      · rw [List.getElem?_take_of_lt (by omega)]
        cases vs[k.val - start]? with
        | none => rfl
        | some v => exact clampPoint_eq v
      · rfl
    · have result : clampResult ((vs.take (33 - start)).any fun v => clampPoint v != v) =
          if (vs.take (33 - start)).all (fun v => -600 ≤ v && v ≤ 100) then .ok else .okClamped := by
        refine clampResult_eq ?_
        rw [Bool.not_eq_true, List.any_eq_true, List.all_eq_false]
        refine exists_congr fun v => and_congr_right fun _ => ?_
        rw [clampPoint_eq, bne_iff_ne]
        simp only [Bool.and_eq_true, decide_eq_true_eq]
        omega
      have answer : actSetCurve q s.popRequest =
          { state := { s.popRequest with conv.curve := writeCurve s.conv.curve start (vs.take (33 - start)) }
            result := if (vs.take (33 - start)).all (fun v => -600 ≤ v && v ≤ 100) then .ok else .okClamped
            body := [byteOf (min vs.length (33 - start))] } := by
        unfold actSetCurve
        rw [read, values]
        dsimp only
        rw [if_neg (by omega), result, List.length_take, min_comm]
        rfl
      rw [served, answer]; rfl
  · have allowed : curveLengthOk q.body.length = true := by
      simp only [curveLengthOk, Bool.and_eq_true, beq_iff_eq, decide_eq_true_eq, body, List.length_cons]; omega
    have plain : actSetCurve q s.popRequest = .plain s.popRequest .range := by
      simp [actSetCurve, body, outside]
    exact congrArg Host.Outcome.next (State.handle_of_unchanged offer allowed plain)


/-! ## SET PROFILE, READ PROFILE and SET ADMISSION (R47, R48) -/

/-- A sendable profile is read back from the body that carries it (12.3). -/
theorem profileAsked_bytes (a : Profile) (sendable : a.Sendable) (b : Byte) : profileAsked (b :: a.bytes) = a := by
  obtain ⟨length, period, ⟨lowMin, lowMax⟩, ⟨highMin, highMax⟩, probes, spread, missLimit, grace, interval, threshold, parkHold⟩ :=
    sendable
  norm_num only at length grace parkHold
  simp [profileAsked, Profile.bytes, List.append_assoc, beAt_cons, beAt_append_right, beSignedAt_cons,
    beSignedAt_append_right, beAt_beBytes, beAt_beBytes_all, beSignedAt_two, byteOf_toNat, *]

theorem clampInt_level (v : Int) : clampInt (-600) 100 v = max (-600) (min 100 v) := clampInt_eq (by decide) v

/-- Every one-byte field lies below its range's end (R48). -/
theorem Profile.clamped_eq {a : Profile} (sendable : a.Sendable) : a.clamped =
    { length := max 192 (min 32768 a.length), period := max 1 (min 16 a.period),
      low := max (-600) (min 100 a.low), high := max (-600) (min 100 a.high), probes := max 1 (min 8 a.probes),
      spread := a.spread, missLimit := max 1 (min 15 a.missLimit), grace := max 1 (min 4095 a.grace),
      interval := max 1 a.interval, threshold := max 1 a.threshold, parkHold := a.parkHold } := by
  obtain ⟨_, _, _, _, _, spread, _, _, interval, threshold, parkHold⟩ := sendable
  rw [Profile.clamped]
  simp only [clampInt_level, Profile.mk.injEq, true_and]
  refine ⟨clampNat_eq (by decide) _, clampNat_eq (by decide) _, clampNat_eq (by decide) _, ?_, clampNat_eq (by decide) _,
    clampNat_eq (by decide) _, ?_, ?_, ?_⟩ <;> rw [clampNat_eq (by decide)] <;> omega

theorem profileOfNum_val (n : ProfileNo) : profileOfNum n.val = some n := dif_pos n.isLt

theorem profileOfNum_none {n : Nat} (h : 7 < n) : profileOfNum n = none := dif_neg (by omega)

theorem profileOfNum_byte (n : ProfileNo) : profileOfNum (byteOf n.val).toNat = some n := by
  rw [byteOf_toNat_fin (by decide), profileOfNum_val]

theorem admissionModeOf_code (mode : AdmissionMode) : admissionModeOf mode.code.toNat = some mode := by
  cases mode <;> rfl

theorem admissionModeOf_none {n : Nat} (h : 2 < n) : admissionModeOf n = none := by
  unfold admissionModeOf
  split <;> first | omega | rfl

theorem Roster.poolConflict_iff {r : Roster} {low high : Nat} :
    r.poolConflict low high = true ↔ ∃ e ∈ r.expected, low ≤ tagNum e.tag ∧ tagNum e.tag ≤ high := by
  simp [Roster.poolConflict]

theorem poolBoundsOk_iff {low high : Nat} : poolBoundsOk low high = true ↔ 1 ≤ low ∧ low ≤ high ∧ high ≤ 128 := by
  simp [poolBoundsOk, and_assoc]

/-- SET ADMISSION with a body of four bytes whose bounds are wrong, or whose mode or profile names nothing, is out of range. -/
theorem actSetAdmission_range {q : Request} {m lo hi p : Byte} (body : q.body = [m, lo, hi, p]) (s : State)
    (wrong : 2 < m.toNat ∨ poolBoundsOk lo.toNat hi.toNat = false ∨ 7 < p.toNat) :
    actSetAdmission q s = .plain s .range := by
  have read : beAt q.body 0 1 = m.toNat ∧ beAt q.body 1 1 = lo.toNat ∧ beAt q.body 2 1 = hi.toNat ∧ beAt q.body 3 1 = p.toNat := by
    simp [body, beAt_cons]
  obtain ⟨mode, low, high, profile⟩ := read
  rw [actSetAdmission, mode, low, high, profile]
  rcases wrong with unnamed | bounds | unnamed
  · rw [admissionModeOf_none unnamed]
  · cases admissionModeOf m.toNat with
    | none => rfl
    | some mode =>
      cases profileOfNum p.toNat with
      | none => rfl
      | some profile => simp only [bounds, Bool.not_false, if_true]
  · rw [profileOfNum_none unnamed]
    cases admissionModeOf m.toNat <;> rfl

/-- SET ADMISSION with a mode, ordered bounds and a profile checks the pool and writes the four values. -/
theorem actSetAdmission_of_fields {q : Request} {lo hi : Byte} {mode : AdmissionMode} {profile : ProfileNo}
    (body : q.body = [mode.code, lo, hi, byteOf profile.val]) (bounds : poolBoundsOk lo.toNat hi.toNat = true) (s : State) :
    actSetAdmission q s =
      if mode = .mixed ∧ s.roster.poolConflict lo.toNat hi.toNat then .plain s .conflict
      else
        .plain { s with
          roster.mode := mode, roster.poolLow := lo.toNat, roster.poolHigh := hi.toNat, roster.openProfile := profile } .ok := by
  have read : beAt q.body 0 1 = mode.code.toNat ∧ beAt q.body 1 1 = lo.toNat ∧ beAt q.body 2 1 = hi.toNat ∧
      beAt q.body 3 1 = (byteOf profile.val).toNat := by
    simp [body, beAt_cons]
  obtain ⟨readMode, low, high, readProfile⟩ := read
  rw [actSetAdmission, readMode, low, high, readProfile, admissionModeOf_code, profileOfNum_byte]
  simp only [bounds, Bool.not_true, Bool.false_eq_true, if_false]

/-- Settles O17: the bodies are read back field by field, and each request writes what it names. -/
theorem profilesAndAdmission : Obligations.ProfilesAndAdmission := by
  refine ⟨fun s q rest n a k offer sendable body clamped => ?_, fun s q rest n offer body => ?_,
    fun s q rest b bs unnamed body => ⟨fun offer length => ?_, fun offer empty => ?_⟩, fun s q rest m lo hi p offer body => ?_⟩
  · have allowed : exactly 17 q.body.length = true := by simp [exactly, body, Profile.bytes]
    have served : exec .setProfile s = _ :=
      congrArg Host.Outcome.next (State.handle_of_entry offer allowed entry_setProfile)
    have number : beAt q.body 0 1 = (byteOf n.val).toNat := by rw [body, beAt_one]
    have result : clampResult (k != a) = if k = a then .ok else .okClamped := clampResult_eq bne_iff_ne
    have stores : actSetProfile q s.popRequest = .plain
        { s.popRequest with roster.profiles := s.roster.profiles.set n k } (if k = a then .ok else .okClamped) := by
      rw [actSetProfile, number, profileOfNum_byte, body, profileAsked_bytes a sendable]
      dsimp only
      rw [Profile.clamped_eq sendable, ← clamped, ← result]
      rfl
    rw [served, stores]; rfl
  · have allowed : exactly 1 q.body.length = true := by simp [exactly, body]
    have served : exec .readProfile s = _ :=
      congrArg Host.Outcome.next (State.handle_of_entry offer allowed entry_readProfile)
    rw [served, actReadProfile, body, beAt_one, profileOfNum_byte]; rfl
  · have allowed : exactly 17 q.body.length = true := by simp [exactly, body, length]
    have plain : actSetProfile q s.popRequest = .plain s.popRequest .range := by
      rw [actSetProfile, body, beAt_one, profileOfNum_none unnamed]
    exact congrArg Host.Outcome.next (State.handle_of_unchanged offer allowed plain)
  · have allowed : exactly 1 q.body.length = true := by simp [exactly, body, empty]
    have plain : actReadProfile q s.popRequest = .plain s.popRequest .range := by
      rw [actReadProfile, body, beAt_one, profileOfNum_none unnamed]
    exact congrArg Host.Outcome.next (State.handle_of_unchanged offer allowed plain)
  · have allowed : exactly 4 q.body.length = true := by simp [exactly, body]
    have served : exec .setAdmission s = _ :=
      congrArg Host.Outcome.next (State.handle_of_entry offer allowed entry_setAdmission)
    refine ⟨fun wrong => ?_, fun mode profile isMode isProfile low order high => ?_⟩
    · refine congrArg Host.Outcome.next (State.handle_of_unchanged offer allowed (actSetAdmission_range body _ ?_))
      rw [← Bool.not_eq_true, poolBoundsOk_iff]
      omega
    · rw [isMode, isProfile] at body
      rw [served, actSetAdmission_of_fields body (poolBoundsOk_iff.mpr ⟨low, order, high⟩)]
      refine ⟨fun conflict => ?_, fun clear => ?_⟩
      · have held : mode = .mixed ∧ s.popRequest.roster.poolConflict lo.toNat hi.toNat = true :=
          And.imp_right Roster.poolConflict_iff.mpr conflict
        rw [if_pos held]; rfl
      · have free : ¬(mode = .mixed ∧ s.popRequest.roster.poolConflict lo.toNat hi.toNat = true) :=
          mt (And.imp_right Roster.poolConflict_iff.mp) clear
        rw [if_neg free]; rfl

end Sys2Proof.Machine

/-! PROOFS. The requests that change records: the expected list, bars, parking, resuming, releasing (2.3 to 2.6). -/

namespace Sys2Proof.Machine

/-! ## The reply to a request, before the transmitter chooses -/

/-- `s` with the request taken from the inbound queue, where `rest` is left, and its reply offered. -/
def State.replied (s : State) (q : Request) (rest : List Request) (r : Result) (body : List Byte) : State :=
  { s with link.inbound := rest, link.outbound := s.link.outbound ++ repliesTo q r body }

@[simp] theorem State.replied_inbound (s : State) (q : Request) (rest : List Request) (r : Result) (body : List Byte) :
    (s.replied q rest r body).link.inbound = rest := rfl

/-! ## What a change of records leaves as it was -/

/-- `s` without the records and their flags, the lists of serials, what their owners queue and hold for them, and the link's
two queues. -/
def State.elsewhere (s : State) : State :=
  { s with
    line.notices := []
    roster.records := State.reset.roster.records, roster.admission := [], roster.waiting := []
    roster.expected := [], roster.barred := []
    planner.shots := [], lanes := State.reset.lanes, sup := State.reset.sup
    link.recFlags := State.reset.link.recFlags, link.inbound := [], link.outbound := [] }

theorem sameElsewhere_of_elsewhere {s u : State} (h : u.elsewhere = s.elsewhere) : sameElsewhere s u :=
  ⟨congrArg (·.line.state) h, congrArg (·.line.tick) h, congrArg (·.line.cycle) h, congrArg (·.line.head) h,
    congrArg (·.line.settings) h, congrArg (·.planner.built) h, (congrArg State.intake h :), (congrArg State.census h :),
    (congrArg State.conv h :), congrArg (·.link.kinds) h, congrArg (·.link.mask) h, congrArg (·.link.tx) h,
    congrArg (·.link.rx) h, congrArg (·.link.handler) h, congrArg (·.roster.profiles) h, congrArg (·.roster.strangers) h,
    (congrArg State.pending h :)⟩

@[simp] theorem State.elsewhere_replied (s : State) (q : Request) (rest : List Request) (r : Result) (body : List Byte) :
    (s.replied q rest r body).elsewhere = s.elsewhere := rfl

@[simp] theorem State.elsewhere_popRequest (s : State) : s.popRequest.elsewhere = s.elsewhere := rfl

@[simp] theorem State.elsewhere_putTerm (s : State) (t : Tag) (h : Option Terminal) :
    (s.putTerm t h).elsewhere = s.elsewhere := rfl

@[simp] theorem State.elsewhere_changeTerm (s : State) (t : Tag) (h : Option Terminal) :
    (s.changeTerm t h).elsewhere = s.elsewhere := by
  unfold State.changeTerm; split <;> rfl

@[simp] theorem State.elsewhere_rosterPost (s : State) (body : NoticeBody) :
    (s.rosterPost body).elsewhere = s.elsewhere := by
  rw [State.rosterPost_eq]; split <;> [rfl; (split <;> rfl)]

@[simp] theorem State.elsewhere_standDown (s : State) (t : Tag) (reason : Reason) :
    (s.standDown t reason).elsewhere = s.elsewhere := State.elsewhere_rosterPost s _

@[simp] theorem State.elsewhere_detach (s : State) (t : Tag) (h : Terminal) : (s.detach t h).elsewhere = s.elsewhere := by
  unfold State.detach; cases h.phase <;> rfl

@[simp] theorem State.elsewhere_parkRecord (s : State) (t : Tag) (h : Terminal) (reason : Reason) (hold : Nat) :
    (s.parkRecord t h reason hold).elsewhere = s.elsewhere := State.elsewhere_changeTerm _ _ _

@[simp] theorem State.elsewhere_freeRecord (s : State) (t : Tag) (h : Terminal) :
    (s.freeRecord t h).elsewhere = s.elsewhere := (State.elsewhere_changeTerm _ _ _).trans (State.elsewhere_detach _ _ _)

/-! ## The records and their flags -/

/-- The records with their change counts, and their flags. -/
def State.book (s : State) : Bank Record 128 × Bank Bool 128 := (s.roster.records, s.link.recFlags)

theorem State.term_of_book {s u : State} (h : u.book = s.book) (t : Tag) : u.term t = s.term t :=
  congrArg (fun b => (b.1.get t).term) h

theorem notedOnce_of_book {s v u w : State} (hv : v.book = s.book) (hw : w.book = u.book) {t : Tag} (h : notedOnce v u t) :
    notedOnce s w t := by
  obtain ⟨flag, count⟩ := h
  obtain ⟨recordsV, -⟩ := Prod.mk.inj hv
  obtain ⟨recordsW, flagsW⟩ := Prod.mk.inj hw
  exact ⟨flagsW ▸ flag, by rw [recordsW, ← recordsV]; exact count⟩

theorem notNoted_of_book {s v u w : State} (hv : v.book = s.book) (hw : w.book = u.book) {t : Tag} (h : notNoted v u t) :
    notNoted s w t := by
  obtain ⟨flag, count⟩ := h
  obtain ⟨recordsV, flagsV⟩ := Prod.mk.inj hv
  obtain ⟨recordsW, flagsW⟩ := Prod.mk.inj hw
  exact ⟨by rw [flagsW, ← flagsV]; exact flag, by rw [recordsW, ← recordsV]; exact count⟩

@[simp] theorem State.book_replied (s : State) (q : Request) (rest : List Request) (r : Result) (body : List Byte) :
    (s.replied q rest r body).book = s.book := rfl

@[simp] theorem State.book_popRequest (s : State) : s.popRequest.book = s.book := rfl

@[simp] theorem State.book_rosterPost (s : State) (body : NoticeBody) : (s.rosterPost body).book = s.book := by
  rw [State.rosterPost_eq]; split <;> [rfl; (split <;> rfl)]

@[simp] theorem State.book_standDown (s : State) (t : Tag) (reason : Reason) : (s.standDown t reason).book = s.book :=
  State.book_rosterPost s _

@[simp] theorem State.book_detach (s : State) (t : Tag) (h : Terminal) : (s.detach t h).book = s.book := by
  unfold State.detach; cases h.phase <;> rfl

/-- Between states whose records are those before and after one change, the other records are as they were. -/
theorem sameOtherRecords_of_change {s v w : State} {t : Tag} {h : Option Terminal} (hv : v.book = s.book)
    (hw : w.book = (v.changeTerm t h).book) (f : Tag) (ne : f ≠ t) : w.term f = s.term f ∧ notNoted s w f :=
  ⟨by rw [State.term_of_book hw, State.term_changeTerm_of_ne _ _ ne, State.term_of_book hv],
    notNoted_of_book hv hw (notNoted_changeTerm_of_ne v h ne)⟩

/-! ## LOAD EXPECTED (R41) -/

theorem tagOfNum_tagNum (t : Tag) : tagOfNum (tagNum t) = some t := by
  rw [tagOfNum, dif_pos (by have := t.isLt; unfold tagNum; omega)]
  simp [tagNum]

theorem tagNum_lt (t : Tag) : tagNum t < 256 := by
  have := t.isLt
  simp [tagNum]; omega

theorem tagOfNum_byte (t : Tag) : tagOfNum (byteOf (tagNum t)).toNat = some t := by
  rw [byteOf_toNat (tagNum_lt t), tagOfNum_tagNum]

theorem tagOfNum_none {n : Nat} (h : n = 0 ∨ 128 < n) : tagOfNum n = none := dif_neg (by omega)

/-- A byte that names a tag is its number. -/
theorem eq_byteOf_tagNum {b : Byte} (h : 1 ≤ b.toNat ∧ b.toNat ≤ 128) : ∃ t, b = byteOf (tagNum t) :=
  ⟨⟨b.toNat - 1, by omega⟩, by rw [show tagNum ⟨b.toNat - 1, _⟩ = b.toNat by simp [tagNum]; omega, byteOf_toNat_self]⟩

theorem eq_byteOf_profile {b : Byte} (h : b.toNat ≤ 7) : ∃ p : ProfileNo, b = byteOf p.val :=
  ⟨⟨b.toNat, by omega⟩, (byteOf_toNat_self b).symm⟩

theorem State.loadEntry_of_range (s : State) (serial : Serial) {tag profile : Nat}
    (h : tag = 0 ∨ 128 < tag ∨ 7 < profile) : s.loadEntry serial tag profile = (s, .range) := by
  unfold State.loadEntry
  rcases h with zero | big | big
  · rw [tagOfNum_none (.inl zero)]
  · rw [tagOfNum_none (.inr big)]
  · rw [profileOfNum_none big]
    cases tagOfNum tag <;> rfl

theorem State.loadEntry_of_full {s : State} (serial : Serial) (t : Tag) (p : ProfileNo) (h : 128 ≤ s.roster.expected.length) :
    s.loadEntry serial (tagNum t) p.val = (s, .full) := by
  unfold State.loadEntry
  rw [tagOfNum_tagNum, profileOfNum_val]
  dsimp only
  rw [if_pos h]

/-- What passes the checks of R41 is what neither finds the list full nor is in conflict. -/
theorem State.mayList_iff {s : State} {serial : Serial} {t : Tag} :
    s.MayList serial t ↔ s.roster.expected.length < 128 ∧ ¬s.EntryConflicts serial t := by
  constructor
  · intro may
    refine ⟨may.room, ?_⟩
    rintro (⟨e, listed, same | same⟩ | ⟨mixed, low, high⟩ | ⟨h, holds, other⟩ | ⟨u, h, ne, holds, same⟩)
    · exact may.newSerial e listed same
    · exact may.newTag e listed same
    · exact may.pool mixed ⟨low, high⟩
    · exact other (may.own h holds)
    · exact may.others u ne h holds same
  · rintro ⟨room, free⟩
    exact {
      room
      newSerial := fun e listed same => free (.inl ⟨e, listed, .inl same⟩)
      newTag := fun e listed same => free (.inl ⟨e, listed, .inr same⟩)
      pool := fun mixed inPool => free (.inr (.inl ⟨mixed, inPool⟩))
      own := fun h holds => by_contra fun other => free (.inr (.inr (.inl ⟨h, holds, other⟩)))
      others := fun u ne h holds same => free (.inr (.inr (.inr ⟨u, h, ne, holds, same⟩))) }

theorem State.loadEntry_of_mayList {s : State} {serial : Serial} {t : Tag} (p : ProfileNo) (may : s.MayList serial t) :
    s.loadEntry serial (tagNum t) p.val = (s.withEntry serial t p, .ok) := by
  have serialNew : (s.roster.expected.any fun e => e.serial == serial) = false := by
    simpa using may.newSerial
  have tagNew : s.roster.reserved t = false := by simpa [Roster.reserved] using may.newTag
  have own : ((s.term t).any fun h => h.serial != serial) = false := by
    cases holds : s.term t with
    | none => rfl
    | some h => simpa using may.own h holds
  have elsewhere : (allTags.any fun u => u != t && (s.term u).any fun h => h.serial == serial) = false := by
    refine List.any_eq_false.mpr fun u _ found => ?_
    rw [Bool.and_eq_true, bne_iff_ne, Option.any_eq_true] at found
    obtain ⟨ne, h, holds, same⟩ := found
    exact may.others u ne h holds (beq_iff_eq.mp same)
  have unpooled : ¬(s.roster.mode = .mixed ∧ s.roster.poolLow ≤ tagNum t ∧ tagNum t ≤ s.roster.poolHigh) :=
    fun ⟨mixed, inPool⟩ => may.pool mixed inPool
  unfold State.loadEntry State.withEntry
  rw [tagOfNum_tagNum, profileOfNum_val]
  dsimp only
  rw [if_neg (Nat.not_le.mpr may.room), if_neg (Bool.eq_false_iff.mp serialNew), if_neg (Bool.eq_false_iff.mp tagNew),
    if_neg unpooled,
    if_neg (Bool.eq_false_iff.mp own), if_neg (Bool.eq_false_iff.mp elsewhere)]
  cases s.term t <;> rfl

theorem State.loadEntry_of_conflict {s : State} {serial : Serial} {t : Tag} (p : ProfileNo)
    (room : s.roster.expected.length < 128) (conflicts : s.EntryConflicts serial t) :
    s.loadEntry serial (tagNum t) p.val = (s, .conflict) := by
  have holders (u : Tag) : u ∈ allTags := List.mem_finRange u
  unfold State.loadEntry
  rw [tagOfNum_tagNum, profileOfNum_val]
  dsimp only
  rw [if_neg (Nat.not_le.mpr room)]
  split_ifs with serialOld tagOld pooled own elsewhere <;> try rfl
  refine absurd conflicts (State.mayList_iff.mp ⟨room, by simpa using serialOld, by simpa [Roster.reserved] using tagOld,
    fun mixed inPool => pooled ⟨mixed, inPool⟩, fun h holds => ?_, fun u ne h holds same => ?_⟩).2
  · rw [Option.mem_def.mp holds] at own
    simpa using own
  · exact elsewhere (List.any_eq_true.mpr ⟨u, holders u, by simp [ne, Option.mem_def.mp holds, same]⟩)

theorem State.withEntry_expected (s : State) (serial : Serial) (t : Tag) (p : ProfileNo) :
    (s.withEntry serial t p).roster.expected = s.roster.expected ++ [⟨serial, t, p⟩] := by
  unfold State.withEntry
  cases s.term t <;> rfl

theorem State.withEntry_notNoted (s : State) (serial : Serial) (t : Tag) (p : ProfileNo) (g : Tag) :
    notNoted s (s.withEntry serial t p) g := by
  unfold State.withEntry
  cases s.term t with
  | none => exact ⟨rfl, rfl⟩
  | some h => exact notNoted_putTerm _ t g _

/-- An accepted entry changes the list and the records alone. -/
theorem State.withEntry_rest (s : State) (serial : Serial) (t : Tag) (p : ProfileNo) :
    { s.withEntry serial t p with roster.expected := s.roster.expected, roster.records := s.roster.records } = s := by
  unfold State.withEntry
  cases s.term t <;> rfl

theorem State.loadEntry_judged (s : State) (serial : Serial) (tb pb : Byte) :
    s.EntryJudged serial tb pb (s.loadEntry serial tb.toNat pb.toNat).2.code (s.loadEntry serial tb.toNat pb.toNat).1 := by
  by_cases outside : tb.toNat = 0 ∨ 128 < tb.toNat ∨ 7 < pb.toNat
  · rw [State.loadEntry_of_range s serial outside]
    exact .range outside
  obtain ⟨t, rfl⟩ := eq_byteOf_tagNum (b := tb) (by omega)
  obtain ⟨p, rfl⟩ := eq_byteOf_profile (b := pb) (by omega)
  rw [byteOf_toNat (tagNum_lt t), byteOf_toNat_fin (by decide)]
  by_cases full : 128 ≤ s.roster.expected.length
  · rw [State.loadEntry_of_full serial t p full]
    exact .full t p rfl rfl full
  by_cases conflicts : s.EntryConflicts serial t
  · rw [State.loadEntry_of_conflict p (Nat.not_le.mp full) conflicts]
    exact .conflict t p rfl rfl (Nat.not_le.mp full) conflicts
  have may : s.MayList serial t := State.mayList_iff.mpr ⟨Nat.not_le.mp full, conflicts⟩
  rw [State.loadEntry_of_mayList p may]
  refine .accepted t p _ rfl rfl may.room conflicts (s.withEntry_expected serial t p) ?_ (fun g ne => ?_)
    (fun g => (s.withEntry_notNoted serial t p g).2) (s.withEntry_rest serial t p)
  · rw [State.term_withEntry]; simp
  · rw [State.term_withEntry]
    simp only [if_neg ne]
    exact Option.map_id'

/-- The body of a LOAD EXPECTED with these entries (12.3). -/
def entriesBody (entries : List (Serial × Byte × Byte)) : List Byte :=
  entries.flatMap fun e => beBytes 4 e.1.toNat ++ [e.2.1, e.2.2]

theorem entriesBody_length (entries : List (Serial × Byte × Byte)) : (entriesBody entries).length = 6 * entries.length := by
  induction entries with
  | nil => rfl
  | cons e entries ih =>
    rw [entriesBody, List.flatMap_cons, List.length_append, ← entriesBody, ih]
    simp; omega

/-- The fields of the first entry of a body, and what is behind it. -/
theorem entriesBody_first (e : Serial × Byte × Byte) (entries : List (Serial × Byte × Byte)) :
    serialAt (entriesBody (e :: entries)) 0 = e.1 ∧ beAt (entriesBody (e :: entries)) 4 1 = e.2.1.toNat ∧
      beAt (entriesBody (e :: entries)) 5 1 = e.2.2.toNat ∧ (entriesBody (e :: entries)).drop 6 = entriesBody entries := by
  have first : entriesBody (e :: entries) = beBytes 4 e.1.toNat ++ (e.2.1 :: e.2.2 :: entriesBody entries) := by
    simp [entriesBody]
  rw [first]
  refine ⟨serialAt_beBytes _ _, ?_, ?_, ?_⟩
  · rw [beAt_append_right (by simp)]; simp
  · rw [beAt_append_right (by simp)]; simp [beAt_cons]
  · rw [List.drop_append]; simp

theorem State.loadEntries_judged (entries : List (Serial × Byte × Byte)) (s : State) :
    EntriesJudged s entries (State.loadEntries entries.length (entriesBody entries) s).2
        (State.loadEntries entries.length (entriesBody entries) s).1 ∧
      (State.loadEntries entries.length (entriesBody entries) s).2.length = entries.length := by
  induction entries generalizing s with
  | nil => exact ⟨.none s, rfl⟩
  | cons e entries ih =>
    obtain ⟨serial, tag, profile, behind⟩ := entriesBody_first e entries
    rw [List.length_cons, State.loadEntries, serial, tag, profile, behind]
    obtain ⟨judged, length⟩ := ih (s.loadEntry e.1 e.2.1.toNat e.2.2.toNat).1
    exact ⟨.more (s.loadEntry_judged e.1 e.2.1 e.2.2) judged, congrArg (· + 1) length⟩

/-- The link takes no part in the judgement. -/
theorem State.EntryJudged.withLink {s u : State} {serial : Serial} {tb pb r : Byte} (h : s.EntryJudged serial tb pb r u)
    (l : Link) : State.EntryJudged { s with link := l } serial tb pb r { u with link := l } := by
  cases h with
  | range outside => exact .range outside
  | full t p tag profile full => exact .full t p tag profile full
  | conflict t p tag profile room conflicts => exact .conflict t p tag profile room conflicts
  | accepted t p _ tag profile room free expected own others counts rest =>
    exact .accepted t p _ tag profile room free expected own others counts
      (congrArg (fun x : State => { x with link := l }) rest)

theorem State.EntryJudged.link_eq {s u : State} {serial : Serial} {tb pb r : Byte} (h : s.EntryJudged serial tb pb r u) :
    u.link = s.link := by
  cases h with
  | range | full | conflict => rfl
  | accepted _ _ _ _ _ _ _ _ _ _ _ rest => exact (congrArg State.link rest :)

theorem EntriesJudged.withLink {s v : State} {entries : List (Serial × Byte × Byte)} {results : List Byte}
    (h : EntriesJudged s entries results v) (l : Link) :
    EntriesJudged { s with link := l } entries results { v with link := l } := by
  induction h with
  | none s => exact .none _
  | more first _ ih => exact .more (first.withLink l) ih

theorem EntriesJudged.link_eq {s v : State} {entries : List (Serial × Byte × Byte)} {results : List Byte}
    (h : EntriesJudged s entries results v) : v.link = s.link := by
  induction h with
  | none s => rfl
  | more first _ ih => exact ih.trans first.link_eq

/-- LOAD EXPECTED takes the entries of its body one after the other. -/
theorem exec_loadExpected_of_offers {s : State} {q : Request} {rest : List Request} (offer : s.Offers 0x0A q rest)
    (entries : List (Serial × Byte × Byte)) (some : 1 ≤ entries.length) (few : entries.length ≤ 20)
    (body : q.body = entriesBody entries) :
    exec .loadExpected s = .next ((State.loadEntries entries.length (entriesBody entries) s.popRequest).1.answered q rest .ok
      (State.loadEntries entries.length (entriesBody entries) s.popRequest).2) := by
  have length : q.body.length = 6 * entries.length := by rw [body, entriesBody_length]
  have allowed : loadLengthOk q.body.length = true := by
    simp only [loadLengthOk, Bool.and_eq_true, beq_iff_eq, decide_eq_true_eq]; omega
  have served : exec .loadExpected s = _ :=
    congrArg Host.Outcome.next (State.handle_of_entry offer allowed entry_loadExpected)
  rw [served, actLoadExpected, length, show 6 * entries.length / 6 = entries.length by omega, body]

/-- LOAD EXPECTED with one entry answers that entry's result. -/
theorem exec_loadExpected_one {s : State} {q : Request} {rest : List Request} (offer : s.Offers 0x0A q rest)
    {serial : Serial} {tb pb : Byte} (body : q.body = beBytes 4 serial.toNat ++ [tb, pb]) {v : State} {r : Result}
    (judged : s.popRequest.loadEntry serial tb.toNat pb.toNat = (v, r)) :
    exec .loadExpected s = .next (v.answered q rest .ok [r.code]) := by
  have one : q.body = entriesBody [(serial, tb, pb)] := by rw [body]; simp [entriesBody]
  obtain ⟨first, tag, profile, -⟩ := entriesBody_first (serial, tb, pb) []
  rw [exec_loadExpected_of_offers offer [(serial, tb, pb)] (by simp) (by simp) one]
  simp only [List.length_singleton, State.loadEntries, first, tag, profile, judged]

/-! ## DROP EXPECTED (R42) -/

theorem State.unlist_notNoted (s : State) (serial : Serial) (g : Tag) : notNoted s (s.unlist serial) g := by
  unfold State.unlist
  split
  · exact ⟨rfl, rfl⟩
  · exact notNoted_putTerm s _ g _

/-- Unlisting writes a record alone. -/
theorem State.unlist_rest (s : State) (serial : Serial) :
    { s.unlist serial with roster.records := s.roster.records } = s := by
  unfold State.unlist
  split <;> rfl

theorem Roster.entryOf_none_iff {r : Roster} {serial : Serial} :
    r.entryOf serial = none ↔ ∀ e ∈ r.expected, e.serial ≠ serial := by
  simp [Roster.entryOf]

theorem Roster.entryOf_isSome_iff {r : Roster} {serial : Serial} :
    (r.entryOf serial).isSome ↔ ∃ e ∈ r.expected, e.serial = serial := by
  simp [Roster.entryOf]

/-- Settles O18: entries are judged one by one; the record of a dropped entry's serial is unlisted. -/
theorem expectedListLoadsAndDrops : Obligations.ExpectedListLoadsAndDrops := by
  refine ⟨fun s q rest serial tb pb offer body outside => ?_, fun s q rest serial t p offer body => ?_,
    fun s q rest entries offer some few body => ?_, fun s q rest serial offer shape body => ?_⟩
  · exact exec_loadExpected_one offer body (s.popRequest.loadEntry_of_range serial outside)
  · have run {v : State} {r : Result} (judged : s.popRequest.loadEntry serial (tagNum t) p.val = (v, r)) :=
      exec_loadExpected_one offer body (v := v) (r := r)
        (by rw [byteOf_toNat (tagNum_lt t), byteOf_toNat_fin (by decide), judged])
    refine ⟨fun full => run (State.loadEntry_of_full serial t p full),
      fun room conflicts => run (State.loadEntry_of_conflict (s := s.popRequest) p room conflicts),
      fun room new pool own others => ?_⟩
    have may : s.popRequest.MayList serial t := {
      room
      newSerial := fun e listed => (new e listed).1
      newTag := fun e listed => (new e listed).2
      pool := fun mixed ⟨low, high⟩ => (pool mixed).elim (Nat.not_lt.mpr low) (Nat.not_lt.mpr high)
      own
      others := fun u ne h holds => others u h ne holds }
    refine ⟨(s.popRequest.withEntry serial t p).replied q rest .ok [0x00], run (State.loadEntry_of_mayList p may),
      s.popRequest.withEntry_expected serial t p, ?_, fun g ne => ?_, fun g => s.popRequest.withEntry_notNoted serial t p g,
      ?_, ?_, ?_, rfl, ?_⟩
    · exact (State.term_withEntry s.popRequest serial t p t).trans (by simp; rfl)
    · refine (State.term_withEntry s.popRequest serial t p g).trans ?_
      simp only [if_neg ne]
      exact Option.map_id'
    · exact sameElsewhere_of_elsewhere (congrArg State.elsewhere (s.popRequest.withEntry_rest serial t p) :)
    · exact (congrArg State.lanes (s.popRequest.withEntry_rest serial t p) :)
    · exact (congrArg State.sup (s.popRequest.withEntry_rest serial t p) :)
    · exact congrArg (· ++ repliesTo q .ok [0x00])
        (congrArg (·.link.outbound) (s.popRequest.withEntry_rest serial t p) : _ = s.link.outbound)
  · obtain ⟨judged, length⟩ := State.loadEntries_judged entries s.popRequest
    have linked := judged.link_eq
    refine ⟨_, _, judged.withLink s.link, length, ?_⟩
    rw [exec_loadExpected_of_offers offer entries some few body]
    unfold State.answered
    rw [linked]
    rfl
  · have allowed : exactly 4 q.body.length = true := by simp [exactly, body]
    have served : exec .dropExpected s = _ :=
      congrArg Host.Outcome.next (State.handle_of_entry offer allowed entry_dropExpected)
    have read : serialAt q.body 0 = serial := by rw [body, serialAt_beBytes_all]
    refine ⟨fun unlisted => ?_, fun listed => ?_⟩
    · have absent : s.popRequest.roster.entryOf serial = none := Roster.entryOf_none_iff.mpr unlisted
      rw [served, actDropExpected, read, absent]
      rfl
    · obtain ⟨e, entry⟩ := Option.isSome_iff_exists.mp (Roster.entryOf_isSome_iff.mpr listed)
      have found : s.popRequest.roster.entryOf serial = .some e := entry
      let dropped : State :=
        { s.popRequest with roster.expected := s.popRequest.roster.expected.filter fun e => e.serial != serial }
      have drops : actDropExpected q s.popRequest = .plain (dropped.unlist serial) .ok := by
        rw [actDropExpected, read, found]
      have kept := dropped.unlist_rest serial
      refine ⟨(dropped.unlist serial).replied q rest .ok [], ?_, (congrArg (·.roster.expected) kept :),
        fun g => State.term_unlist (s := dropped) shape.serials g, fun g => dropped.unlist_notNoted serial g,
        sameElsewhere_of_elsewhere (congrArg State.elsewhere kept :), (congrArg State.lanes kept :), (congrArg State.sup kept :),
        rfl, ?_⟩
      · rw [served, drops]; rfl
      · exact congrArg (· ++ repliesTo q .ok []) (congrArg (·.link.outbound) kept : _ = s.link.outbound)

/-! ## A record that the host takes out of its state (R30, R37, R39, R136, R149) -/

/-- What the other blocks hold for the record of `t` is dropped, and what it holds becomes `new`. -/
def State.takenOver (s : State) (t : Tag) (h : Terminal) (new : Option Terminal) : State := (s.detach t h).changeTerm t new

theorem State.freeRecord_eq (s : State) (t : Tag) (h : Terminal) : s.freeRecord t h = s.takenOver t h none := rfl

/-- A change of a record writes the records and their flags alone. -/
theorem State.changeTerm_rest (s : State) (t : Tag) (h : Option Terminal) :
    { s.changeTerm t h with roster.records := s.roster.records, link.recFlags := s.link.recFlags } = s := by
  unfold State.changeTerm
  split <;> rfl

/-- A posting of the Roster's writes the queue and what waits for it alone. -/
theorem State.rosterPost_rest (s : State) (body : NoticeBody) :
    { s with line.notices := (s.rosterPost body).line.notices, roster.waiting := (s.rosterPost body).roster.waiting } =
      s.rosterPost body := by
  rw [State.rosterPost_eq]
  split
  · rfl
  · split <;> rfl

theorem State.detach_line (s : State) (t : Tag) (h : Terminal) : (s.detach t h).line = s.line := by
  unfold State.detach
  cases h.phase <;> rfl

theorem State.detach_waiting (s : State) (t : Tag) (h : Terminal) : (s.detach t h).roster.waiting = s.roster.waiting := by
  unfold State.detach
  cases h.phase <;> rfl

theorem State.detach_service (s : State) (t : Tag) {h : Terminal} (serves : h.service.isSome = true) :
    (s.detach t h).sup.get t = .empty := by
  unfold State.detach
  unfold Terminal.service at serves
  split at serves <;> [rename_i phase; rename_i phase; cases serves] <;> rw [phase] <;> exact Bank.get_update_self _ _ _

theorem State.detach_planner (s : State) (t : Tag) {h : Terminal} (lane : h.lane = none) (service : h.service = none) :
    (s.detach t h).planner = s.planner := by
  unfold State.detach
  cases phase : h.phase with
  | heard | parked => rfl
  | engaged => simp [Terminal.lane, phase] at lane
  | active | silent => simp [Terminal.service, phase] at service

theorem State.takenOver_line (s : State) (t : Tag) (h : Terminal) (new : Option Terminal) :
    (s.takenOver t h new).line = s.line :=
  (congrArg State.line (State.changeTerm_rest _ t new) :).trans (s.detach_line t h)

theorem State.takenOver_waiting (s : State) (t : Tag) (h : Terminal) (new : Option Terminal) :
    (s.takenOver t h new).roster.waiting = s.roster.waiting :=
  (congrArg (·.roster.waiting) (State.changeTerm_rest _ t new) :).trans (s.detach_waiting t h)

theorem State.takenOver_admission (s : State) (t : Tag) (h : Terminal) (new : Option Terminal) :
    (s.takenOver t h new).roster.admission =
      if h.phase = .heard then s.roster.admission.filter fun x => x != t else s.roster.admission :=
  (congrArg (·.roster.admission) (State.changeTerm_rest _ t new) :).trans (s.detach_admission t h)

/-- What a state `u` keeps of `s` and changes of it where the record of `t`, which held `h`, is given `new` by the host, in a
state which the reply and a posting may have touched since. -/
structure State.TakesOver (s u : State) (t : Tag) (h : Terminal) (new : Option Terminal) : Prop where
  term : u.term t = new
  others : ∀ f, f ≠ t → u.term f = s.term f ∧ notNoted s u f
  noted : visibleOf (s.term t) ≠ visibleOf new → notedOnce s u t
  unnoted : visibleOf (s.term t) = visibleOf new → notNoted s u t
  left : h.phase = .heard → t ∉ u.roster.admission
  fewer : ∀ f ∈ u.roster.admission, f ∈ s.roster.admission
  lane : ∀ i, h.lane = some i → (u.lanes.get i).work = none
  sup : h.service.isSome = true → u.sup.get t = .empty
  elsewhere : sameElsewhere s u
  expected : u.roster.expected = s.roster.expected
  barred : u.roster.barred = s.roster.barred

theorem State.takesOver_takenOver (s : State) (t : Tag) (h : Terminal) (new : Option Terminal) :
    s.TakesOver (s.takenOver t h new) t h new where
  term := State.term_changeTerm_self _ t new
  others f ne := sameOtherRecords_of_change (s.book_detach t h) rfl f ne
  noted ne := notedOnce_of_book (s.book_detach t h) rfl (notedOnce_changeTerm _ t new (by rwa [State.term_detach]))
  unnoted same := notNoted_of_book (s.book_detach t h) rfl (notNoted_changeTerm_of_eq _ t t new (by rwa [State.term_detach]))
  left heard := by simp [State.takenOver_admission, heard]
  fewer f hf := by
    rw [State.takenOver_admission] at hf
    split at hf
    · exact List.mem_of_mem_filter hf
    · exact hf
  lane i lane := by
    have ended : (s.detach t h).work i = none := by rw [State.lanes_detach, if_pos lane]
    rw [State.takenOver, State.changeTerm_lanes]
    exact ended
  sup serves := by rw [State.takenOver, State.changeTerm_sup]; exact s.detach_service t serves
  elsewhere := sameElsewhere_of_elsewhere (by simp [State.takenOver])
  expected := congrArg HostSide.expected (by simp [State.takenOver] : (s.takenOver t h new).hostSide = s.hostSide)
  barred := congrArg HostSide.barred (by simp [State.takenOver] : (s.takenOver t h new).hostSide = s.hostSide)

/-- A posting of the Roster's keeps all of it. -/
theorem State.TakesOver.rosterPost {s u : State} {t : Tag} {h : Terminal} {new : Option Terminal} (hu : s.TakesOver u t h new)
    (body : NoticeBody) : s.TakesOver (u.rosterPost body) t h new := by
  rw [← u.rosterPost_rest body]
  exact { hu with }

/-- The request that leaves its queue and the reply that joins its own keep all of it. -/
theorem State.TakesOver.replied {s u : State} {t : Tag} {h : Terminal} {new : Option Terminal}
    (hu : s.popRequest.TakesOver u t h new) (q : Request) (rest : List Request) (r : Result) (body : List Byte) :
    s.TakesOver (u.replied q rest r body) t h new := { hu with }

/-! ## BAR SERIAL, LIFT BAR and READ STRANGERS (R43, R44, R46) -/

theorem Roster.holderOf_eq {s : State} (shape : s.RosterShape) {g : Tag} {h : Terminal} (holds : s.term g = some h) :
    s.roster.holderOf h.serial = some g := by
  cases found : s.roster.holderOf h.serial with
  | none => exact absurd rfl (Roster.holderOf_none found g h holds)
  | some t =>
    obtain ⟨k, held, same⟩ := Roster.holderOf_some found
    rw [shape.serials t g k held h holds same]

/-- The offered outbound queue of a state whose outbound queue is that of `s`. -/
theorem State.outbound_replied {s v : State} (same : v.hostSide = s.popRequest.hostSide) (q : Request) (rest : List Request)
    (r : Result) (body : List Byte) :
    (v.replied q rest r body).link.outbound = s.link.outbound ++ repliesTo q r body :=
  congrArg (· ++ repliesTo q r body) (congrArg HostSide.outbound same : _ = s.link.outbound)

/-- A posting of the Roster's upon a state with the queue of `s`, seen from `s`. -/
theorem State.rosterPosts_of_line {s v : State} (line : v.line = s.line) (waiting : v.roster.waiting = s.roster.waiting)
    (body : NoticeBody) (running : s.line.state = .running) (q : Request) (rest : List Request) (r : Result) (bytes : List Byte) :
    s.RosterPosts ((v.rosterPost body).replied q rest r bytes) body := by
  have posts := v.rosterPosts_rosterPost body (by rw [line, running])
  unfold State.RosterPosts at posts
  rw [line, waiting] at posts
  exact posts

theorem State.postsNothing_of_line {s v : State} (line : v.line = s.line) (waiting : v.roster.waiting = s.roster.waiting)
    (body : NoticeBody) (off : s.line.state ≠ .running) (q : Request) (rest : List Request) (r : Result) (bytes : List Byte) :
    s.PostsNothing ((v.rosterPost body).replied q rest r bytes) := by
  have posts := v.postsNothing_rosterPost body (by rw [line]; exact off)
  unfold State.PostsNothing at posts
  rw [line, waiting] at posts
  exact posts

theorem visibleOf_ne_none (h : Terminal) : visibleOf (some h) ≠ visibleOf none := by
  intro same
  have code : recordStateCode (some h) = 0 := congrArg Visible.state same
  unfold recordStateCode at code
  cases phase : h.phase <;> simp [phase] at code

theorem contains_of_mem {α : Type} [BEq α] [LawfulBEq α] {l : List α} {x : α} (h : x ∈ l) : l.contains x = true :=
  List.contains_iff_mem.mpr h

theorem not_contains_of_not_mem {α : Type} [BEq α] [LawfulBEq α] {l : List α} {x : α} (h : x ∉ l) : ¬l.contains x = true :=
  mt List.contains_iff_mem.mp h

theorem exec_barSerial_of_serial {s : State} {q : Request} {rest : List Request} (offer : s.Offers 0x0D q rest) {serial : Serial}
    (body : q.body = beBytes 4 serial.toNat) {v : State} {r : Result}
    (acts : (if s.roster.barred.contains serial then Answer.plain s.popRequest .ok
      else if 16 ≤ s.roster.barred.length then .plain s.popRequest .full
      else .plain (State.expel { s.popRequest with roster.barred := s.roster.barred ++ [serial] } serial) .ok) = .plain v r) :
    exec .barSerial s = .next (v.answered q rest r []) := by
  have allowed : exactly 4 q.body.length = true := by simp [exactly, body]
  have served : exec .barSerial s = _ :=
    congrArg Host.Outcome.next (State.handle_of_entry offer allowed entry_barSerial)
  have read : serialAt q.body 0 = serial := by rw [body, serialAt_beBytes_all]
  have answer : actBarSerial q s.popRequest = .plain v r := by rw [actBarSerial, read]; exact acts
  rw [served, answer]; rfl

/-- The bytes of READ STRANGERS: the flag, the fill, the entries in order (R46). -/
def Roster.strangersBody (r : Roster) : List Byte :=
  [boolByte r.overflowed, byteOf r.strangers.length] ++
    r.strangers.flatMap fun x => beBytes 4 x.serial.toNat ++ [x.reason.code] ++ beBytes 2 x.cycle.toNat

theorem actReadStrangers_of_option {q : Request} {option : Byte} (body : q.body = [option]) (inside : option.toNat ≤ 1) (s : State) :
    actReadStrangers q s =
      { state := if option = 1 then s.clearStrangers else s, result := .ok, body := s.roster.strangersBody } := by
  have read : beAt q.body 0 1 = option.toNat := by rw [body, beAt_one]
  have one : option.toNat = 1 ↔ option = 1 := BitVec.toNat_inj (y := 1#8)
  rw [actReadStrangers, read, if_neg (Nat.not_lt.mpr inside)]
  simp only [one]
  rfl

/-- Settles O20: a newly barred serial's record is taken over as FREE; the other requests write a list each. -/
theorem barsAndStrangers : Obligations.BarsAndStrangers := by
  refine ⟨fun s q rest serial offer shape body => ⟨fun barred => ?_, fun unbarred full => ?_, fun unbarred room => ⟨fun unheld => ?_,
    fun g h holds same => ?_⟩⟩, fun s q rest serial offer body => ?_, fun s q rest option offer body => ⟨fun outside => ?_, fun inside => ?_⟩⟩
  · exact exec_barSerial_of_serial offer body (v := s.popRequest) (r := .ok)
      (by rw [if_pos (contains_of_mem barred)])
  · exact exec_barSerial_of_serial offer body (v := s.popRequest) (r := .full)
      (by rw [if_neg (not_contains_of_not_mem unbarred), if_pos full])
  · refine exec_barSerial_of_serial offer body (v := { s.popRequest with roster.barred := s.roster.barred ++ [serial] })
      (r := .ok) ?_
    rw [if_neg (not_contains_of_not_mem unbarred), if_neg (Nat.not_le.mpr room), State.expel]
    split
    · rfl
    · next t found =>
      obtain ⟨k, held, same⟩ := Roster.holderOf_some found
      exact absurd same (unheld t k held)
  · subst same
    let barred : State := { s.popRequest with roster.barred := s.roster.barred ++ [h.serial] }
    have holder : barred.roster.holderOf h.serial = some g := Roster.holderOf_eq shape holds
    have holds' : barred.term g = some h := holds
    have expels : barred.expel h.serial = (barred.takenOver g h none).rosterPost (.standDown (some g) .released) := by
      simp only [State.expel, holder, holds']
      rfl
    have line : (barred.takenOver g h none).line = s.line := barred.takenOver_line g h none
    have waiting : (barred.takenOver g h none).roster.waiting = s.roster.waiting := barred.takenOver_waiting g h none
    have handed := (barred.takesOver_takenOver g h none).rosterPost (.standDown (some g) .released)
    have host : (barred.expel h.serial).hostSide = barred.hostSide := by simp [expels, State.takenOver]
    have taken : barred.TakesOver (barred.expel h.serial) g h none := by rw [expels]; exact handed
    refine ⟨(barred.expel h.serial).replied q rest .ok [], ?_, taken.barred, taken.term, ?_, taken.others, ?_, ?_, ?_, taken.lane,
      taken.expected, taken.elsewhere, rfl, ?_⟩
    · exact exec_barSerial_of_serial offer body
        (by rw [if_neg (not_contains_of_not_mem unbarred), if_neg (Nat.not_le.mpr room)])
    · exact taken.noted (by rw [holds']; exact visibleOf_ne_none h)
    · intro listed
      by_cases heard : h.phase = .heard
      · exact taken.left heard listed
      · obtain ⟨k, held, isHeard⟩ := (shape.admissionHeard g).mp (taken.fewer g listed)
        rw [holds] at held
        cases held
        exact heard isHeard
    · intro running
      rw [expels]
      exact State.rosterPosts_of_line line waiting _ running q rest .ok []
    · intro off
      rw [expels]
      exact State.postsNothing_of_line line waiting _ off q rest .ok []
    · exact congrArg (· ++ repliesTo q .ok []) (congrArg HostSide.outbound host : _ = s.link.outbound)
  · have allowed : exactly 4 q.body.length = true := by simp [exactly, body]
    have served : exec .liftBar s = _ :=
      congrArg Host.Outcome.next (State.handle_of_entry offer allowed entry_liftBar)
    have read : serialAt q.body 0 = serial := by rw [body, serialAt_beBytes_all]
    rw [served, actLiftBar, read]
    refine ⟨fun barred => ?_, fun unbarred => ?_⟩
    · have found : s.popRequest.roster.barred.contains serial = true := contains_of_mem barred
      rw [if_pos found]; rfl
    · have missing : ¬s.popRequest.roster.barred.contains serial = true := not_contains_of_not_mem unbarred
      rw [if_neg missing]; rfl
  · have allowed : exactly 1 q.body.length = true := by simp [exactly, body]
    have plain : actReadStrangers q s.popRequest = .plain s.popRequest .range := by
      simp [actReadStrangers, body, outside]
    exact congrArg Host.Outcome.next (State.handle_of_unchanged offer allowed plain)
  · have allowed : exactly 1 q.body.length = true := by simp [exactly, body]
    have served : exec .readStrangers s = _ :=
      congrArg Host.Outcome.next (State.handle_of_entry offer allowed entry_readStrangers)
    rw [actReadStrangers_of_option body inside] at served
    refine ⟨s.roster.strangersBody, rfl, fun keeps => ?_, fun clears => ?_⟩
    · rw [served, if_neg (by rw [keeps]; decide)]; rfl
    · rw [served, if_pos clears]; rfl

/-! ## PARK TERMINAL, RESUME TERMINAL and RELEASE TERMINAL (R37, R38, R39) -/

theorem tagAsked_none {q : Request} {b : Byte} (body : q.body = [b]) (outside : b.toNat = 0 ∨ 128 < b.toNat) :
    tagAsked q = none := by
  rw [tagAsked, body, beAt_one, tagOfNum_none outside]

theorem tagAsked_byte {q : Request} {g : Tag} (body : q.body = [byteOf (tagNum g)]) : tagAsked q = some g := by
  rw [tagAsked, body, beAt_one, tagOfNum_byte]

/-- Parking shows unless the record was PARKED with the reason already. -/
theorem visibleOf_parked {h : Terminal} {reason : Reason} {hold : Nat} :
    visibleOf (some h) = visibleOf (some { h with phase := .parked reason hold }) ↔ ∃ k, h.phase = .parked reason k := by
  constructor
  · intro same
    have reasons : (h.park).map Prod.fst = some reason := congrArg Visible.reason same
    unfold Terminal.park at reasons
    cases phase : h.phase <;> simp [phase] at reasons
    exact ⟨_, by rw [reasons]⟩
  · rintro ⟨k, phase⟩
    simp [visibleOf, recordStateCode, Terminal.park, phase]

/-- Settles O23: the record is taken over as PARKED, and the STAND DOWN posted. -/
theorem parkTerminalHolds : Obligations.ParkTerminalHolds := by
  refine ⟨fun s q rest b offer body outside => ?_, fun s q rest g offer body => ?_⟩
  · have allowed : exactly 1 q.body.length = true := by simp [exactly, body]
    have plain : actParkTerminal q s.popRequest = .plain s.popRequest .range := by
      rw [actParkTerminal, tagAsked_none body outside]
    exact congrArg Host.Outcome.next (State.handle_of_unchanged offer allowed plain)
  · have allowed : exactly 1 q.body.length = true := by simp [exactly, body]
    have served : exec .parkTerminal s = _ :=
      congrArg Host.Outcome.next (State.handle_of_entry offer allowed entry_parkTerminal)
    rw [actParkTerminal, tagAsked_byte body] at served
    refine ⟨fun vacant => ?_, fun h holds => ?_⟩
    · have vacated : s.popRequest.term g = none := vacant
      dsimp only at served
      rw [served, vacated]; rfl
    · have found : s.popRequest.term g = some h := holds
      let parked : Option Terminal := some { h with phase := .parked .host 0 }
      have line : (s.popRequest.takenOver g h parked).line = s.line := s.popRequest.takenOver_line g h parked
      have waiting : (s.popRequest.takenOver g h parked).roster.waiting = s.roster.waiting :=
        s.popRequest.takenOver_waiting g h parked
      have handed := ((s.popRequest.takesOver_takenOver g h parked).rosterPost (.standDown (some g) .host)).replied q rest .ok []
      have host : (s.popRequest.hostPark g h).hostSide = s.popRequest.hostSide := by simp [State.hostPark]
      have shows : visibleOf (s.term g) = visibleOf parked ↔ ∃ k, h.phase = .parked .host k := by
        rw [holds]; exact visibleOf_parked
      refine ⟨(s.popRequest.hostPark g h).replied q rest .ok [], ?_, handed.term, fun same => handed.unnoted (shows.mpr same),
        fun other => handed.noted (mt shows.mp (not_exists.mpr other)), handed.others,
        fun running => State.rosterPosts_of_line line waiting _ running q rest .ok [],
        fun off => State.postsNothing_of_line line waiting _ off q rest .ok [], handed.left, handed.lane, handed.sup, handed.elsewhere,
        handed.expected, handed.barred, rfl, State.outbound_replied host q rest .ok []⟩
      dsimp only at served
      rw [served, found]; rfl

/-- The replied state after a record alone was changed. -/
theorem State.takesOver_of_parked {s : State} {g : Tag} {h : Terminal} {new : Option Terminal} {park : Reason × Nat}
    (parked : h.park = some park) : s.takenOver g h new = s.changeTerm g new := by
  unfold State.takenOver State.detach
  unfold Terminal.park at parked
  cases phase : h.phase <;> simp [phase] at parked ⊢

theorem Phase.toldOnRelease_iff {h : Terminal} : h.phase.toldOnRelease = true ↔ h.lane.isSome = true ∨ h.service.isSome = true := by
  unfold Phase.toldOnRelease Terminal.lane Terminal.service
  cases h.phase <;> simp

/-- Settles O24: a resumed record changes its hold and reason; a released one is taken over as FREE. -/
theorem resumeAndRelease : Obligations.ResumeAndRelease := by
  refine ⟨fun s q rest b offer body outside => ?_, fun s q rest g offer body => ?_,
    fun s q rest b offer body outside => ?_, fun s q rest g offer body => ?_⟩
  · have allowed : exactly 1 q.body.length = true := by simp [exactly, body]
    have plain : actResumeTerminal q s.popRequest = .plain s.popRequest .range := by
      rw [actResumeTerminal, tagAsked_none body outside]
    exact congrArg Host.Outcome.next (State.handle_of_unchanged offer allowed plain)
  · have allowed : exactly 1 q.body.length = true := by simp [exactly, body]
    have served : exec .resumeTerminal s = _ :=
      congrArg Host.Outcome.next (State.handle_of_entry offer allowed entry_resumeTerminal)
    refine ⟨fun unparked => ?_, fun h reason hold holds phase => ?_⟩
    · have plain : actResumeTerminal q s.popRequest = .plain s.popRequest .state := by
        rw [actResumeTerminal, tagAsked_byte body]
        dsimp only
        split
        · next h holds =>
          have noPark := unparked h holds
          unfold Terminal.park at noPark
          cases phase : h.phase <;> simp [phase] at noPark ⊢
        · rfl
      exact congrArg Host.Outcome.next (State.handle_of_unchanged offer allowed plain)
    · have found : s.popRequest.term g = some h := holds
      let resumed : Option Terminal := some { h with phase := .parked reason.resumed 0 }
      have resumes : actResumeTerminal q s.popRequest = .plain (s.popRequest.changeTerm g resumed) .ok := by
        rw [actResumeTerminal, tagAsked_byte body]
        dsimp only
        rw [found]
        dsimp only
        rw [phase]
        rfl
      have reasonIs : reason.resumed = if reason = .host then .noReason else reason := by cases reason <;> rfl
      have alone : s.popRequest.takenOver g h resumed = s.popRequest.changeTerm g resumed :=
        State.takesOver_of_parked (park := (reason, hold)) (by simp [Terminal.park, phase])
      have handed := (s.popRequest.takesOver_takenOver g h resumed).replied q rest .ok []
      rw [alone] at handed
      have rest_eq := s.popRequest.changeTerm_rest g resumed
      have shows : visibleOf (s.term g) = visibleOf resumed ↔ reason ≠ .host := by
        rw [holds]
        refine visibleOf_parked.trans ?_
        rw [phase]
        cases reason <;> simp [Reason.resumed]
      refine ⟨(s.popRequest.changeTerm g resumed).replied q rest .ok [], ?_, ?_, fun host => handed.noted (mt shows.mp (not_not.mpr host)),
        fun other => handed.unnoted (shows.mpr other), handed.others, (congrArg State.line rest_eq :),
        (congrArg (·.roster.waiting) rest_eq :), (congrArg (·.roster.admission) rest_eq :), (congrArg State.lanes rest_eq :),
        (congrArg State.sup rest_eq :), handed.elsewhere, rfl,
        State.outbound_replied (s.popRequest.changeTerm_hostSide g resumed) q rest .ok []⟩
      · rw [served, resumes]; rfl
      · rw [← reasonIs]; exact handed.term
  · have allowed : exactly 1 q.body.length = true := by simp [exactly, body]
    have plain : actReleaseTerminal q s.popRequest = .plain s.popRequest .range := by
      rw [actReleaseTerminal, tagAsked_none body outside]
    exact congrArg Host.Outcome.next (State.handle_of_unchanged offer allowed plain)
  · have allowed : exactly 1 q.body.length = true := by simp [exactly, body]
    have served : exec .releaseTerminal s = _ :=
      congrArg Host.Outcome.next (State.handle_of_entry offer allowed entry_releaseTerminal)
    rw [actReleaseTerminal, tagAsked_byte body] at served
    refine ⟨fun vacant => ?_, fun h holds => ?_⟩
    · have vacated : s.popRequest.term g = none := vacant
      dsimp only at served
      rw [served, vacated]; rfl
    · have found : s.popRequest.term g = some h := holds
      dsimp only at served
      rw [found] at served
      dsimp only at served
      rw [State.freeRecord_eq] at served
      have line : (s.popRequest.takenOver g h none).line = s.line := s.popRequest.takenOver_line g h none
      have waiting : (s.popRequest.takenOver g h none).roster.waiting = s.roster.waiting :=
        s.popRequest.takenOver_waiting g h none
      have handed := s.popRequest.takesOver_takenOver g h none
      have shows : visibleOf (s.term g) ≠ visibleOf none := by rw [holds]; exact visibleOf_ne_none h
      have host : (s.popRequest.takenOver g h none).hostSide = s.popRequest.hostSide := by simp [State.takenOver]
      by_cases told : h.phase.toldOnRelease = true
      · rw [if_pos told] at served
        have handed := (handed.rosterPost (.standDown (some g) .released)).replied q rest .ok []
        have host : ((s.popRequest.takenOver g h none).standDown g .released).hostSide = s.popRequest.hostSide := by
          rw [State.standDown_hostSide, host]
        have some := Phase.toldOnRelease_iff.mp told
        refine ⟨_, served, handed.term, handed.noted shows, handed.others, handed.left, handed.lane, handed.sup,
          fun running _ => State.rosterPosts_of_line line waiting _ running q rest .ok [], fun off => ?_, fun idle => ?_, handed.elsewhere,
          handed.expected, handed.barred, rfl, State.outbound_replied host q rest .ok []⟩
        · refine State.postsNothing_of_line line waiting _ (off.resolve_right fun idle => ?_) q rest .ok []
          simp [idle.1, idle.2] at some
        · simp [idle.1, idle.2] at some
      · rw [if_neg told] at served
        have handed := handed.replied q rest .ok []
        have idle : h.lane = none ∧ h.service = none := by
          have := mt Phase.toldOnRelease_iff.mpr told
          rw [not_or] at this
          exact ⟨Option.not_isSome_iff_eq_none.mp this.1, Option.not_isSome_iff_eq_none.mp this.2⟩
        refine ⟨_, served, handed.term, handed.noted shows, handed.others, handed.left, handed.lane, handed.sup, fun _ some => ?_,
          fun _ => ⟨congrArg LineTimer.notices line, waiting⟩, fun idle => ?_, handed.elsewhere,
          handed.expected, handed.barred, rfl, State.outbound_replied host q rest .ok []⟩
        · simp [idle.1, idle.2] at some
        · exact (congrArg State.planner (State.changeTerm_rest _ g none) :).trans (s.popRequest.detach_planner g idle.1 idle.2)

end Sys2Proof.Machine

/-! PROOFS. The layouts of 12.4 and 12.5: READ TERMINAL, READ STATUS and the transmitter's notices. -/

namespace Sys2Proof.Machine

/-! ## Bits packed into a number (R190) -/

theorem testBit_packBits (bits : List Bool) (k : Nat) : (packBits bits).testBit k = bits.getD k false := by
  induction bits generalizing k with
  | nil => simp [packBits]
  | cons b bits ih =>
    cases k with
    | zero => cases b <;> simp [packBits, Nat.testBit_zero, Nat.add_mod]
    | succ k =>
      have half : packBits (b :: bits) / 2 = packBits bits := by
        cases b <;> simp [packBits] <;> omega
      rw [Nat.testBit_succ, half, ih, List.getD_cons_succ]

theorem packBits_lt (bits : List Bool) : packBits bits < 2 ^ bits.length := by
  induction bits with
  | nil => simp [packBits]
  | cons b bits ih =>
    rw [List.length_cons, pow_succ, packBits]
    split <;> omega

/-! ## A body as the sequence of its fields -/

/-- The bytes behind the first `k` fields are those of the others. -/
theorem drop_flatten {fields : List (List Byte)} (k off : Nat) (at_off : ((fields.take k).map List.length).sum = off) :
    fields.flatten.drop off = (fields.drop k).flatten := by
  have split : fields.flatten = (fields.take k).flatten ++ (fields.drop k).flatten := by
    rw [← List.flatten_append, List.take_append_drop]
  rw [split, ← at_off, ← List.length_flatten, List.drop_left]

/-- The field number `k` stands at the sum of the lengths before it. -/
theorem field_at {fields : List (List Byte)} (k off n : Nat) {field : List Byte} (found : fields[k]? = some field)
    (at_off : ((fields.take k).map List.length).sum = off) (length : field.length = n) :
    (fields.flatten.drop off).take n = field := by
  obtain ⟨inside, rfl⟩ := List.getElem?_eq_some_iff.mp found
  rw [drop_flatten k off at_off, List.drop_eq_getElem_cons inside, List.flatten_cons, List.take_left' length]

/-- A field of one byte. -/
theorem byte_at {fields : List (List Byte)} (k off : Nat) {b : Byte} (found : fields[k]? = some [b])
    (at_off : ((fields.take k).map List.length).sum = off) : fields.flatten[off]? = some b := by
  have one : (fields.flatten.drop off).take 1 = [b] := field_at k off 1 found at_off rfl
  have first : ((fields.flatten.drop off).take 1)[0]? = some b := by rw [one]; rfl
  simpa using first

/-! ## The fields of a terminal record (12.4) -/

/-- The work of the lane is shown where the record names one. -/
def Record.shownWork (r : Record) (work : Option LaneWork) : Option LaneWork :=
  if (r.term.bind Terminal.lane).isSome then work else none

/-- Which fields are present, in the order of the presence word's bits (12.4). -/
def Record.presence (r : Record) (work : Option LaneWork) : List Bool :=
  let here := r.term.isSome
  let park := (r.term.bind Terminal.park).isSome
  let echo := (r.term.bind Terminal.echoHold).isSome
  let served := (r.term.bind Terminal.service).isSome
  let silence := (r.term.bind Terminal.silence).isSome
  let probing := ((r.shownWork work).bind LaneWork.probing).isSome
  [here, here, here, here, park, park, (r.term.bind Terminal.level).isSome, echo, echo, served, served, served, served, served,
    served, served, ((r.term.bind Terminal.service).bind Service.nudgeCycle).isSome, here, served,
    (r.term.bind Terminal.lane).isSome, silence, silence, (r.shownWork work).isSome,
    ((r.shownWork work).bind LaneWork.attempts).isSome, probing, probing, probing, probing]

/-- The fields of the record, as `recordBytes` puts them one behind the other. -/
def recordFields (t : Tag) (r : Record) (flag : Bool) (work : Option LaneWork) : List (List Byte) :=
  let v := r.term.bind Terminal.service
  let eh := r.term.bind Terminal.echoHold
  let park := r.term.bind Terminal.park
  let silence := r.term.bind Terminal.silence
  let w := r.shownWork work
  let probing := w.bind LaneWork.probing
  [[byteOf (tagNum t), recordStateCode r.term, byteOf r.changes, (r.term.map fun x => x.flags.byte).getD 0],
    beBytes 4 (packBits (r.presence work)),
    optBE 4 (r.term.map fun x => x.serial.toNat) ++
      [boolByte ((r.term.map Terminal.listed).getD false), byteOf ((r.term.map fun x => x.profile.val).getD 0)] ++
      optBE 4 (r.term.map fun x => x.coarse.toNat),
    (park.map fun x => x.1.code).getD 0 :: optBE 2 (park.map Prod.snd),
    optSigned 2 (r.term.bind Terminal.level),
    optBE 4 (eh.map fun x => x.holdoff.toNat),
    [boolByte flag],
    optBE 4 (eh.map fun x => x.echo.toNat),
    [byteOf ((v.map Service.miss).getD 0)] ++ optSigned 2 (v.map Service.drift) ++
      [byteOf ((v.map Service.bursts).getD 0), byteOf ((v.map Service.levelOut).getD 0),
        byteOf ((v.map Service.levelIn).getD 0), byteOf ((v.map Service.corrupt).getD 0),
        byteOf (packBits [(v.map Service.nudgeOut).getD false, (v.map Service.returnOut).getD false])],
    optBE 2 ((v.bind Service.nudgeCycle).map BitVec.toNat),
    optBE 2 (r.term.map fun x => x.heardCycle.toNat),
    optBE 2 (v.map fun x => x.activeSince.toNat),
    [byteOf (((r.term.bind Terminal.lane).map Fin.val).getD 0)],
    optBE 2 (silence.map fun x => x.1.toNat) ++ optBE 2 (silence.map Prod.snd),
    [laneStageCode w, byteOf ((w.bind LaneWork.attempts).getD 0), byteOf ((probing.map ProbeWork.remaining).getD 0),
      byteOf ((probing.map ProbeWork.extensions).getD 0), byteOf ((probing.map fun p => p.echoes.length).getD 0),
      byteOf ((probing.map fun p => p.levels.length).getD 0)]]

theorem recordBytes_eq (t : Tag) (r : Record) (flag : Bool) (work : Option LaneWork) :
    recordBytes t r flag work = (recordFields t r flag work).flatten := by
  unfold recordBytes recordFields
  dsimp only
  unfold Record.presence Record.shownWork
  dsimp only
  generalize packBits _ = presence
  generalize packBits _ = marks
  generalize (if (r.term.bind Terminal.lane).isSome = true then work else none) = shown
  simp only [List.flatten_cons, List.flatten_nil, List.append_assoc, List.cons_append, List.nil_append, List.append_nil]

@[simp] theorem optBE_length (n : Nat) (v : Option Nat) : (optBE n v).length = n := beBytes_length n _

@[simp] theorem optSigned_length (n : Nat) (v : Option Int) : (optSigned n v).length = n := beSigned_length n _

/-- The lengths of the fields. -/
theorem recordFields_lengths (t : Tag) (r : Record) (flag : Bool) (work : Option LaneWork) :
    (recordFields t r flag work).map List.length = [4, 4, 10, 3, 2, 4, 1, 4, 8, 2, 2, 2, 1, 4, 6] := by
  simp [recordFields]

theorem recordBytes_length (t : Tag) (r : Record) (flag : Bool) (work : Option LaneWork) :
    (recordBytes t r flag work).length = 57 := by
  rw [recordBytes_eq, List.length_flatten, recordFields_lengths]
  rfl

/-- The field number `k` of a record stands in its bytes at the sum of the lengths before it. -/
theorem record_field_at {t : Tag} {r : Record} {flag : Bool} {work : Option LaneWork} (k off n : Nat) {field : List Byte}
    (found : (recordFields t r flag work)[k]? = some field)
    (at_off : ([4, 4, 10, 3, 2, 4, 1, 4, 8, 2, 2, 2, 1, 4, 6].take k).sum = off)
    (length : [4, 4, 10, 3, 2, 4, 1, 4, 8, 2, 2, 2, 1, 4, 6][k]? = some n) :
    ((recordBytes t r flag work).drop off).take n = field := by
  have lengths := recordFields_lengths t r flag work
  rw [recordBytes_eq]
  refine field_at k off n found (by rw [List.map_take, lengths, at_off]) ?_
  have same : ((recordFields t r flag work).map List.length)[k]? = some field.length := by rw [List.getElem?_map, found]; rfl
  rw [lengths, length] at same
  exact (Option.some.inj same).symm

/-- The lane's work, shown by a record that names the lane. -/
theorem State.shownWork_of_lane {s : State} {g : Tag} {h : Terminal} (holds : s.term g = some h) {i : LaneNo}
    (lane : h.lane = some i) : (s.roster.records.get g).shownWork (s.laneWorkOf g) = s.work i := by
  have record : (s.roster.records.get g).term = some h := holds
  simp [Record.shownWork, State.laneWorkOf, record, lane, State.work]

theorem State.shownWork_of_no_lane {s : State} {g : Tag} (none : (s.term g).bind Terminal.lane = none) :
    (s.roster.records.get g).shownWork (s.laneWorkOf g) = .none := by
  have record : ((s.roster.records.get g).term.bind Terminal.lane) = .none := none
  simp [Record.shownWork, record]

theorem bind_isSome_iff {α β : Type} {x : Option α} {f : α → Option β} :
    (x.bind f).isSome = true ↔ ∃ a, x = some a ∧ (f a).isSome = true := by
  cases x <;> simp

/-! ## The presence word (12.4) -/

/-- Which field each bit of the presence word speaks of. -/
theorem presence_bits (here park level echo served nudge lane silence work attempts probing : Bool) (k : Fin 32) :
    ([here, here, here, here, park, park, level, echo, echo, served, served, served, served, served, served, served, nudge, here,
      served, lane, silence, silence, work, attempts, probing, probing, probing, probing].getD k.val false = true) ↔
      (k.val ∈ [0, 1, 2, 3, 17] ∧ here = true) ∨ (k.val ∈ [4, 5] ∧ park = true) ∨ (k.val = 6 ∧ level = true) ∨
      (k.val ∈ [7, 8] ∧ echo = true) ∨ (k.val ∈ [9, 10, 11, 12, 13, 14, 15, 18] ∧ served = true) ∨
      (k.val = 16 ∧ nudge = true) ∨ (k.val = 19 ∧ lane = true) ∨ (k.val ∈ [20, 21] ∧ silence = true) ∨
      (k.val = 22 ∧ work = true) ∨ (k.val = 23 ∧ attempts = true) ∨ (k.val ∈ [24, 25, 26, 27] ∧ probing = true) := by
  fin_cases k <;> simp

theorem State.shownWork_eq_some_iff {s : State} {g : Tag} {w : LaneWork} :
    (s.roster.records.get g).shownWork (s.laneWorkOf g) = some w ↔
      ∃ h i, s.term g = some h ∧ h.lane = some i ∧ s.work i = some w := by
  cases holds : s.term g with
  | none => rw [State.shownWork_of_no_lane (by rw [holds]; rfl)]; simp
  | some h =>
    cases lane : h.lane with
    | none => rw [State.shownWork_of_no_lane (by rw [holds]; exact lane)]; simp [lane]
    | some i => rw [State.shownWork_of_lane holds lane]; simp [lane]

theorem LaneWork.attempts_isSome_iff {w : LaneWork} : w.attempts.isSome = true ↔ ∀ p, w.stage ≠ .probe p := by
  unfold LaneWork.attempts
  cases w.stage <;> simp

theorem LaneWork.probing_isSome_iff {w : LaneWork} : w.probing.isSome = true ↔ ∃ p, w.stage = .probe p := by
  unfold LaneWork.probing
  cases w.stage <;> simp

theorem State.presence_iff (s : State) (g : Tag) (k : Fin 32) :
    (((s.roster.records.get g).presence (s.laneWorkOf g)).getD k.val false = true ↔
      (k.val ∈ [0, 1, 2, 3, 17] ∧ (s.term g).isSome = true) ∨
      (k.val ∈ [4, 5] ∧ ∃ h, s.term g = some h ∧ h.park.isSome = true) ∨
      (k.val = 6 ∧ ∃ h, s.term g = some h ∧ h.level.isSome = true) ∨
      (k.val ∈ [7, 8] ∧ ∃ h, s.term g = some h ∧ h.echoHold.isSome = true) ∨
      (k.val ∈ [9, 10, 11, 12, 13, 14, 15, 18] ∧ ∃ h, s.term g = some h ∧ h.service.isSome = true) ∨
      (k.val = 16 ∧ ∃ h v, s.term g = some h ∧ h.service = some v ∧ v.nudgeCycle.isSome = true) ∨
      (k.val = 19 ∧ ∃ h, s.term g = some h ∧ h.lane.isSome = true) ∨
      (k.val ∈ [20, 21] ∧ ∃ h, s.term g = some h ∧ h.silence.isSome = true) ∨
      (k.val = 22 ∧ ∃ h i w, s.term g = some h ∧ h.lane = some i ∧ s.work i = some w) ∨
      (k.val = 23 ∧ ∃ h i w, s.term g = some h ∧ h.lane = some i ∧ s.work i = some w ∧ ∀ p, w.stage ≠ .probe p) ∨
      (k.val ∈ [24, 25, 26, 27] ∧
        ∃ h i w p, s.term g = some h ∧ h.lane = some i ∧ s.work i = some w ∧ w.stage = .probe p)) := by
  have shown : ((s.roster.records.get g).shownWork (s.laneWorkOf g)).isSome = true ↔
      ∃ h i w, s.term g = some h ∧ h.lane = some i ∧ s.work i = some w := by
    rw [Option.isSome_iff_exists]
    simp only [State.shownWork_eq_some_iff]
    exact ⟨fun ⟨w, h, i, all⟩ => ⟨h, i, w, all⟩, fun ⟨h, i, w, all⟩ => ⟨w, h, i, all⟩⟩
  have attempts : (((s.roster.records.get g).shownWork (s.laneWorkOf g)).bind LaneWork.attempts).isSome = true ↔
      ∃ h i w, s.term g = some h ∧ h.lane = some i ∧ s.work i = some w ∧ ∀ p, w.stage ≠ .probe p := by
    simp only [bind_isSome_iff, State.shownWork_eq_some_iff, LaneWork.attempts_isSome_iff]
    exact ⟨fun ⟨w, ⟨h, i, holds, lane, works⟩, stage⟩ => ⟨h, i, w, holds, lane, works, stage⟩,
      fun ⟨h, i, w, holds, lane, works, stage⟩ => ⟨w, ⟨h, i, holds, lane, works⟩, stage⟩⟩
  have probing : (((s.roster.records.get g).shownWork (s.laneWorkOf g)).bind LaneWork.probing).isSome = true ↔
      ∃ h i w p, s.term g = some h ∧ h.lane = some i ∧ s.work i = some w ∧ w.stage = .probe p := by
    simp only [bind_isSome_iff, State.shownWork_eq_some_iff, LaneWork.probing_isSome_iff]
    exact ⟨fun ⟨w, ⟨h, i, holds, lane, works⟩, p, stage⟩ => ⟨h, i, w, p, holds, lane, works, stage⟩,
      fun ⟨h, i, w, p, holds, lane, works, stage⟩ => ⟨w, ⟨h, i, holds, lane, works⟩, p, stage⟩⟩
  have nudge : (((s.term g).bind Terminal.service).bind Service.nudgeCycle).isSome = true ↔
      ∃ h v, s.term g = some h ∧ h.service = some v ∧ v.nudgeCycle.isSome = true := by
    cases s.term g <;> simp [bind_isSome_iff]
  have bits := presence_bits (s.term g).isSome ((s.term g).bind Terminal.park).isSome ((s.term g).bind Terminal.level).isSome
    ((s.term g).bind Terminal.echoHold).isSome ((s.term g).bind Terminal.service).isSome
    (((s.term g).bind Terminal.service).bind Service.nudgeCycle).isSome ((s.term g).bind Terminal.lane).isSome
    ((s.term g).bind Terminal.silence).isSome ((s.roster.records.get g).shownWork (s.laneWorkOf g)).isSome
    (((s.roster.records.get g).shownWork (s.laneWorkOf g)).bind LaneWork.attempts).isSome
    (((s.roster.records.get g).shownWork (s.laneWorkOf g)).bind LaneWork.probing).isSome k
  rw [nudge, shown, attempts, probing] at bits
  simp only [bind_isSome_iff] at bits
  exact bits

/-- The presence word as a word. -/
theorem State.presence_word (s : State) (g : Tag) :
    ∃ word : BitVec 32, beBytes 4 (packBits ((s.roster.records.get g).presence (s.laneWorkOf g))) = beBytes 4 word.toNat ∧
      ∀ k : Fin 32, word.getLsbD k.val = ((s.roster.records.get g).presence (s.laneWorkOf g)).getD k.val false := by
  have fits : packBits ((s.roster.records.get g).presence (s.laneWorkOf g)) < 2 ^ 32 :=
    (packBits_lt _).trans_le (Nat.pow_le_pow_right (by decide) (by simp [Record.presence]))
  refine ⟨BitVec.ofNat 32 (packBits ((s.roster.records.get g).presence (s.laneWorkOf g))), ?_, fun k => ?_⟩
  · rw [BitVec.toNat_ofNat, Nat.mod_eq_of_lt fits]
  · rw [BitVec.getLsbD_ofNat, testBit_packBits, decide_eq_true k.isLt, Bool.true_and]

/-! ## The layout of a record (R184) -/

/-- The bytes of a record are laid out as the table of 12.4 says. -/
theorem State.recordLayout (s : State) (g : Tag) : s.RecordLayout g (s.recordBytes g) where
  length := recordBytes_length g _ _ _
  front := record_field_at 0 0 4 rfl rfl rfl
  pending := by
    rw [State.recordBytes, recordBytes_eq]
    exact byte_at 6 27 rfl (by rw [List.map_take, recordFields_lengths]; rfl)
  free vacant := by
    have record : (s.roster.records.get g).term = none := vacant
    have fields : recordFields g (s.roster.records.get g) (s.link.recFlags.get g) (s.laneWorkOf g) =
        [[byteOf (tagNum g), 0, byteOf (s.roster.records.get g).changes, 0], List.replicate 4 0, List.replicate 10 0,
          List.replicate 3 0, List.replicate 2 0, List.replicate 4 0, [boolByte (s.link.recFlags.get g)], List.replicate 4 0,
          List.replicate 8 0, List.replicate 2 0, List.replicate 2 0, List.replicate 2 0, [0], List.replicate 4 0,
          List.replicate 6 0] := by
      simp [recordFields, record, Record.presence, Record.shownWork, recordStateCode, optBE, optSigned]
      decide
    rw [State.recordBytes, recordBytes_eq, fields]
    exact ⟨rfl, rfl⟩
  terminal h holds := by
    have record : (s.roster.records.get g).term = some h := holds
    refine ⟨(record_field_at 2 8 10 rfl rfl rfl).trans ?_, (record_field_at 4 21 2 rfl rfl rfl).trans ?_,
      (record_field_at 10 42 2 rfl rfl rfl).trans ?_⟩
    · rw [record]; rfl
    · rw [record]
      cases level : h.level <;> simp [level, optSigned]
      rfl
    · rw [record]; rfl
  parked h holds := by
    have record : (s.roster.records.get g).term = some h := holds
    refine (record_field_at 3 18 3 rfl rfl rfl).trans ?_
    rw [record]
    cases phase : h.phase <;> simp [Terminal.park, phase, optBE] <;> rfl
  echo h holds := by
    have record : (s.roster.records.get g).term = some h := holds
    refine ⟨fun eh present => ⟨(record_field_at 5 23 4 rfl rfl rfl).trans ?_, (record_field_at 7 28 4 rfl rfl rfl).trans ?_⟩,
      fun absent => ⟨(record_field_at 5 23 4 rfl rfl rfl).trans ?_, (record_field_at 7 28 4 rfl rfl rfl).trans ?_⟩⟩
    · simp [record, present, optBE]
    · simp [record, present, optBE]
    · simp [record, absent, optBE]; rfl
    · simp [record, absent, optBE]; rfl
  service h holds := by
    have record : (s.roster.records.get g).term = some h := holds
    refine ⟨fun v present => ⟨(record_field_at 8 32 8 rfl rfl rfl).trans ?_, (record_field_at 9 40 2 rfl rfl rfl).trans ?_,
      (record_field_at 11 44 2 rfl rfl rfl).trans ?_⟩, fun absent => ⟨?_, (record_field_at 11 44 2 rfl rfl rfl).trans ?_⟩⟩
    · have marks : packBits [v.nudgeOut, v.returnOut] = (if v.nudgeOut then 1 else 0) + (if v.returnOut then 2 else 0) := by
        cases v.nudgeOut <;> cases v.returnOut <;> rfl
      simp [record, present, optSigned, marks]
    · cases nudge : v.nudgeCycle <;> simp [record, present, nudge, optBE] <;> rfl
    · simp [record, present, optBE]
    · have counts : ((s.recordBytes g).drop 32).take 8 = List.replicate 8 0 :=
        (record_field_at 8 32 8 rfl rfl rfl).trans (by simp [record, absent, optSigned]; decide)
      have cycle : ((s.recordBytes g).drop 40).take 2 = List.replicate 2 0 :=
        (record_field_at 9 40 2 rfl rfl rfl).trans (by simp [record, absent, optBE]; rfl)
      rw [show 10 = 8 + 2 from rfl, List.take_add, counts, List.drop_drop, cycle]
      rfl
    · simp [record, absent, optBE]; rfl
  silent h holds := by
    have record : (s.roster.records.get g).term = some h := holds
    refine (record_field_at 13 47 4 rfl rfl rfl).trans ?_
    rw [record]
    cases phase : h.phase <;> simp [Terminal.silence, phase, optBE] <;> rfl
  engaged h holds := by
    have record : (s.roster.records.get g).term = some h := holds
    have lane : (s.recordBytes g)[46]? = some (byteOf ((h.lane.map Fin.val).getD 0)) := by
      rw [State.recordBytes, recordBytes_eq]
      refine byte_at 12 46 ?_ (by rw [List.map_take, recordFields_lengths]; rfl)
      simp [recordFields, record]
    have length : ((s.recordBytes g).drop 51).length ≤ 6 := by simp [State.recordBytes, recordBytes_length]
    have work : (s.recordBytes g).drop 51 = _ :=
      (List.take_of_length_le length).symm.trans (record_field_at 14 51 6 rfl rfl rfl)
    refine ⟨fun i trim phase => ⟨?_, fun w works => ?_⟩, fun absent => ⟨?_, ?_⟩⟩
    · rw [lane]; simp [Terminal.lane, phase]
    · have lane : h.lane = some i := by simp [Terminal.lane, phase]
      rw [work, State.shownWork_of_lane holds lane, works]
      cases stage : w.stage <;> simp [laneStageCode, LaneWork.attempts, LaneWork.probing, stage] <;> rfl
    · rw [lane, absent]; rfl
    · rw [work, State.shownWork_of_no_lane (by rw [holds]; exact absent)]; rfl
  presence := by
    obtain ⟨word, bytes, bits⟩ := s.presence_word g
    exact ⟨word, (record_field_at 1 4 4 rfl rfl rfl).trans bytes, fun k => by rw [bits k]; exact s.presence_iff g k⟩

/-! ## READ TERMINAL (R184, R185) -/

theorem visibleOf_clearSticky (h : Terminal) :
    visibleOf (some h) = visibleOf (some { h with flags := h.flags.clearSticky }) ↔
      h.flags.driftSat = false ∧ h.flags.trimLimit = false := by
  constructor
  · intro same
    have flags : h.flags = h.flags.clearSticky := congrArg Visible.flags same
    exact ⟨congrArg RecFlags.driftSat flags, congrArg RecFlags.trimLimit flags⟩
  · rintro ⟨drift, trim⟩
    have flags : h.flags.clearSticky = h.flags := by
      rw [RecFlags.clearSticky]
      congr 1 <;> exact Eq.symm ‹_›
    rw [flags]

/-- Settles O22: the bytes are those of the record's layout, and what a sent reply reports is cleared. -/
theorem readTerminalReports : Obligations.ReadTerminalReports := by
  refine ⟨fun s q rest b offer body outside => ?_, fun s q rest g offer body => ?_⟩
  · have allowed : exactly 1 q.body.length = true := by simp [exactly, body]
    have plain : actReadTerminal q s.popRequest = .plain s.popRequest .range := by
      rw [actReadTerminal, tagAsked_none body outside]
    exact congrArg Host.Outcome.next (State.handle_of_unchanged offer allowed plain)
  · have allowed : exactly 1 q.body.length = true := by simp [exactly, body]
    have served : exec .readTerminal s = _ :=
      congrArg Host.Outcome.next (State.handle_of_entry offer allowed entry_readTerminal)
    rw [actReadTerminal, tagAsked_byte body] at served
    dsimp only at served
    refine ⟨s.recordBytes g, s.recordLayout g, fun quiet => ?_, fun loud => ?_⟩
    · rw [served, if_pos quiet]; rfl
    · rw [if_neg (by rw [loud]; decide)] at served
      let cleared := (s.popRequest.term g).map fun h => { h with flags := h.flags.clearSticky }
      have kept := s.popRequest.changeTerm_rest g cleared
      refine ⟨(s.popRequest.changeTerm g cleared).replied q rest .ok (s.recordBytes g), ?_,
        State.term_changeTerm_self s.popRequest g cleared, ?_, fun unset => ?_,
        sameOtherRecords_of_change s.book_popRequest rfl,
        sameElsewhere_of_elsewhere (State.elsewhere_changeTerm s.popRequest g cleared), (congrArg State.lanes kept :),
        (congrArg State.sup kept :), rfl, State.outbound_replied (s.popRequest.changeTerm_hostSide g cleared) q rest .ok _⟩
      · rw [served]; rfl
      · rintro ⟨h, holds, set⟩
        have found : s.popRequest.term g = some h := holds
        refine notedOnce_changeTerm s.popRequest g cleared ?_
        rw [found, show cleared = _ from congrArg (Option.map _) found]
        exact mt (visibleOf_clearSticky h).mp fun ⟨drift, trim⟩ => by rw [drift, trim] at set; simp at set
      · refine notNoted_changeTerm_of_eq s.popRequest g g cleared ?_
        cases found : s.popRequest.term g with
        | none => rw [show cleared = none from congrArg (Option.map _) found]
        | some h =>
          rw [show cleared = _ from congrArg (Option.map _) found]
          exact (visibleOf_clearSticky h).mpr (unset h found)

/-! ## The bodies of the notices (12.5) -/

theorem beSigned_one (v : Int) : beSigned 1 v = [BitVec.ofInt 8 v] := by
  show [byteOf (BitVec.ofInt 8 v).toNat] = _
  rw [byteOf_toNat_self]

theorem State.calibrationLayout (s : State) : s.CalibrationLayout s.calibrationBody := by
  refine ⟨fun never => ?_, fun x last => ?_⟩
  · rw [State.calibrationBody, never]; rfl
  · have done : boolByte (!x.done) = if x.done then 0 else 1 := by cases x.done <;> rfl
    simp only [State.calibrationBody, last, Option.map_some, Option.getD_some, Option.bind_some, done, optSigned, beSigned_one,
      optBE]
    refine congrArg (· ++ [BitVec.ofInt 8 x.offset]) (congrArg₂ (· ++ ·) (congrArg _ ?_) (congrArg (fun b => [b]) ?_))
    · cases x.code <;> rfl
    · cases x.cause with
      | none => rfl
      | some cause => cases cause <;> rfl

theorem State.censusLayout (s : State) : s.CensusLayout s.censusBody := by
  let x := s.census.lastPass
  let tie := x.bind PassRecord.tie
  refine ⟨[boolByte x.isSome, (x.map fun y => y.kind.code).getD 0] ++ optBE 2 (x.map fun y => y.cycle.toNat) ++
      ((x.map PassRecord.counters).getD .zero).bytes,
    [boolByte tie.isSome] ++ optBE 4 (tie.map fun y => y.pattern.toNat) ++ optBE 4 (tie.map fun y => y.mask.toNat) ++
      optBE 2 (tie.map fun y => y.cycle.toNat), ?_, fun never => ?_, fun y last => ⟨?_, fun untied => ?_, fun z tied => ?_⟩⟩
  · simp only [State.censusBody, x, tie, List.append_assoc, List.cons_append, List.nil_append]
    exact congrArg₂ List.cons (by cases s.census.state <;> rfl) rfl
  · simp only [x, tie, never]
    exact ⟨rfl, rfl⟩
  · simp only [x, last, Option.map_some, Option.getD_some, Option.isSome_some, optBE, PassCounters.bytes,
      List.flatMap_cons, List.flatMap_nil, List.append_assoc, List.append_nil, List.cons_append, List.nil_append]
    exact congrArg (List.cons 1) (congrArg₂ List.cons (by cases y.kind <;> rfl) rfl)
  · simp only [x, tie, last, Option.bind_some, untied]
    rfl
  · simp only [x, tie, last, Option.bind_some, tied, Option.map_some, optBE, Option.getD_some, Option.isSome_some]
    rfl

theorem State.planLayout (s : State) : s.PlanLayout s.planBody := by
  rw [State.PlanLayout, State.planBody]
  cases s.planner.lastOverrun with
  | none => rw [List.append_assoc]; rfl
  | some c => rw [List.append_assoc]; rfl

/-! ## The transmitter's choice (R174, R176) -/

/-- The first tag of which `p` holds. -/
theorem find_allTags {p : Tag → Bool} {g : Tag} (holds : p g = true) (lower : ∀ f, f < g → p f = false) :
    allTags.find? p = some g := by
  refine List.find?_eq_some_iff_getElem.mpr ⟨holds, g.val, by simp [allTags], by simp [allTags], fun j before => ?_⟩
  simp only [allTags, List.getElem_finRange, Bool.not_eq_true']
  exact lower _ before

theorem State.receiveBytes_settled {bytes : List RxByte} (some : bytes ≠ []) (s : State) : (s.receiveBytes bytes).Settled := by
  induction bytes generalizing s with
  | nil => exact absurd rfl some
  | cons b bs ih =>
    rw [State.receiveBytes_cons]
    cases bs with
    | nil => exact State.settled_chooseAgain _
    | cons c cs => exact ih (List.cons_ne_nil c cs) _

/-- Every event but a reset ends with the transmitter's choice. -/
theorem exec_settled {c : Instr} {s t : State} (noReset : ∀ straps, c ≠ .powerOnReset straps ∧ c ≠ .pinReset straps)
    (noRestart : c ≠ .restartTakesEffect) (bytes : c ≠ .frameReceived []) (run : exec c s = .next t) : t.Settled := by
  cases c with
  | powerOnReset straps => exact absurd rfl (noReset straps).1
  | pinReset straps => exact absurd rfl (noReset straps).2
  | restartTakesEffect => exact absurd rfl noRestart
  | frameReceived bs => cases run; exact State.receiveBytes_settled (fun none => bytes (congrArg _ none)) s
  | frameSent => cases run; exact State.settled_chooseAgain { s with link.tx := .betweenFrames }
  | _ => cases run; exact State.settled_chooseAgain _

/-- An idle transmitter that has made its choice has no reply and no notice to send. -/
theorem State.Settled.nothing {s : State} (settled : s.Settled) (between : s.link.tx = .betweenFrames)
    (idle : s.link.handler = .idle) : s.link.outbound = [] ∧ ¬s.NoticePending := by
  rcases settled with ⟨frame, sending⟩ | nothing
  · rw [between] at sending; cases sending
  · exact ⟨by_contra fun some => nothing (.inl ⟨idle, .inl some⟩), fun pending => nothing (.inl ⟨idle, .inr pending⟩)⟩

theorem State.noticeTag_eq_none_iff {s : State} : s.noticeTag = none ↔ ∀ g, s.link.recFlags.get g = false := by
  simp [State.noticeTag, allTags]

/-- With nothing pending before it in the table, the PLAN notice is sent where it is pending. -/
theorem State.sendNotice_of_last {s : State} (hello : s.link.kinds.hello = false)
    (line : ¬(s.link.kinds.line = true ∧ s.link.mask.line = true))
    (calibration : ¬(s.link.kinds.calibration = true ∧ s.link.mask.calibration = true))
    (census : ¬(s.link.kinds.census = true ∧ s.link.mask.census = true))
    (terminal : s.link.mask.terminal = true → ∀ g, s.link.recFlags.get g = false) :
    s.sendNotice = if s.link.kinds.plan && s.link.mask.plan then s.sendPlanNotice else s := by
  have none : (if s.link.mask.terminal then s.noticeTag else none) = none := by
    split
    · next unmasked => exact State.noticeTag_eq_none_iff.mpr (terminal unmasked)
    · rfl
  rw [← Bool.and_eq_true_iff] at line calibration census
  unfold State.sendNotice
  dsimp only
  rw [if_neg (by rw [hello]; decide), if_neg line, if_neg calibration, if_neg census, none]

/-- What the end of a frame sends where no reply waits. -/
theorem exec_frameSent_of_empty {s : State} (idle : s.link.handler = .idle) (empty : s.link.outbound = []) :
    exec .frameSent s = .next (State.sendNotice { s with link.tx := .betweenFrames }) :=
  congrArg Host.Outcome.next (State.chooseFrame_of_empty (s := { s with link.tx := .betweenFrames }) idle empty)

/-- Settles O9: the choice follows the table of R176 from the top, and every event ends with it. -/
theorem transmitterChoosesInOrder : Obligations.TransmitterChoosesInOrder := by
  refine ⟨fun s idle => ⟨fun r rest outbound => ?_, fun empty => ?_⟩, fun s frame sending => State.chooseAgain_of_sending sending,
    fun s between => ?_, fun c s t noReset noRestart bytes run between idle => ?_⟩
  · exact congrArg Host.Outcome.next
      (State.chooseFrame_of_reply (s := { s with link.tx := .betweenFrames }) idle outbound)
  · refine ⟨_, exec_frameSent_of_empty idle empty, fun hello => ?_, fun noHello => ⟨fun line => ?_, fun noLine =>
      ⟨fun calibration => ⟨_, s.calibrationLayout, ?_⟩, fun noCalibration => ⟨fun census => ⟨_, s.censusLayout, ?_⟩, fun noCensus =>
        ⟨fun g unmasked flagged first => ?_, fun unflagged => ⟨fun plan => ⟨_, s.planLayout, ?_⟩, fun noPlan => ?_⟩⟩⟩⟩⟩⟩
    · simp [State.sendNotice, hello]
      rfl
    · simp [State.sendNotice, noHello, line]
      rfl
    · simp [State.sendNotice, noHello, noLine, calibration]
      rfl
    · simp [State.sendNotice, noHello, noLine, noCalibration, census]
      rfl
    · have tag : ({ s with link.tx := .betweenFrames } : State).noticeTag = some g :=
        find_allTags flagged first
      have sends : State.sendNotice { s with link.tx := .betweenFrames } =
          State.sendTerminal { s with link.tx := .betweenFrames } g := by
        simp [State.sendNotice, noHello, noLine, noCalibration, noCensus, unmasked, tag]
      rw [sends]
      refine ⟨⟨s.recordBytes g, s.recordLayout g, rfl⟩, fun f => Bank.get_set _ g f false, fun f => ?_, fun f => ?_, rfl⟩
      · rw [State.sendTerminal]
        simp only [Bank.get_update]
        split <;> rfl
      · rw [State.sendTerminal, State.term]
        simp only [Bank.get_update]
        split
        · next same => rw [same]; rfl
        · rfl
    · rw [State.sendNotice_of_last (s := { s with link.tx := .betweenFrames }) noHello noLine noCalibration noCensus unflagged]
      exact if_pos (Bool.and_eq_true_iff.mpr plan)
    · rw [State.sendNotice_of_last (s := { s with link.tx := .betweenFrames }) noHello noLine noCalibration noCensus unflagged]
      exact if_neg (mt Bool.and_eq_true_iff.mp noPlan)
  · exact congrArg Host.Outcome.next (State.chooseAgain_of_between between).symm
  · obtain ⟨noReply, nothing⟩ := (exec_settled noReset noRestart bytes run).nothing between idle
    unfold State.NoticePending at nothing
    simp only [not_or, Bool.and_eq_true, not_and, Bool.not_eq_true, ne_eq, not_not] at nothing
    obtain ⟨hello, line, calibration, census, terminal, plan⟩ := nothing
    have swap {a b : Bool} (h : a = true → b = false) (hb : b = true) : a = false := by
      cases a <;> [rfl; exact absurd (h rfl) (by rw [hb]; decide)]
    exact ⟨noReply, hello, swap line, swap calibration, swap census,
      fun unmasked => State.noticeTag_eq_none_iff.mp (terminal unmasked), swap plan⟩

end Sys2Proof.Machine

/-! PROOFS. READ STATUS (11.2.2, 12.4) and the requests on the line (11.3). -/

namespace Sys2Proof.Machine

/-! ## Fields inside a field -/

/-- A part of a field stands at the field's place and its own. -/
theorem part_at {bs field : List Byte} {off n : Nat} (h : (bs.drop off).take n = field) {m j : Nat} (fits : m + j ≤ n) :
    (bs.drop (off + m)).take j = (field.drop m).take j := by
  rw [← h, List.drop_take, List.take_take, List.drop_drop, min_eq_left (by omega)]

/-- A byte of a field. -/
theorem getElem?_part {bs field : List Byte} {off n : Nat} (h : (bs.drop off).take n = field) {m : Nat} (fits : m < n) :
    bs[off + m]? = field[m]? := by
  rw [← h, List.getElem?_take_of_lt fits, List.getElem?_drop]

/-- The part number `k` of equal parts. -/
theorem part_of_flatMap {α : Type} {f : α → List Byte} {n : Nat} (length : ∀ x, (f x).length = n) {l : List α} {k : Nat} {x : α}
    (found : l[k]? = some x) : ((l.flatMap f).drop (n * k)).take n = f x := by
  induction l generalizing k with
  | nil => cases found
  | cons y l ih =>
    cases k with
    | zero =>
      cases found
      rw [List.flatMap_cons, Nat.mul_zero, List.drop_zero, List.take_left' (length x)]
    | succ k =>
      rw [List.flatMap_cons, Nat.mul_succ, Nat.add_comm, ← List.drop_drop, List.drop_left' (length y)]
      exact ih found

theorem length_flatMap_of {α : Type} {f : α → List Byte} {n : Nat} (length : ∀ x, (f x).length = n) (l : List α) :
    (l.flatMap f).length = n * l.length := by
  simp [List.length_flatMap, length, Nat.mul_comm]

theorem getElem?_leBytes {n j : Nat} (v : Nat) (h : j < n) : (leBytes n v)[j]? = some (byteOf (v / 256 ^ j)) := by
  induction n generalizing v j with
  | zero => cases h
  | succ n ih =>
    cases j with
    | zero => simp [leBytes, byteOf]
    | succ j =>
      rw [leBytes, List.getElem?_cons_succ, ih _ (by omega), Nat.div_div_eq_div_mul, pow_succ, Nat.mul_comm]

theorem getLsbD_byteOf (n : Nat) {i : Nat} (h : i < 8) : (byteOf n).getLsbD i = n.testBit i := by
  rw [byteOf, BitVec.getLsbD_ofNat, decide_eq_true h, Bool.true_and]

/-- Tag n stands in bit (n − 1) mod 8 of byte (n − 1) div 8 (R190). -/
theorem getLsbD_tagSet {flags : Bank Bool 128} (g : Tag) {x : Byte} (found : (tagSet flags.cells)[g.val / 8]? = some x) :
    x.getLsbD (g.val % 8) = flags.get g := by
  have small := g.isLt
  rw [tagSet, getElem?_leBytes _ (by omega)] at found
  cases found
  rw [getLsbD_byteOf _ (Nat.mod_lt _ (by decide)), show 256 = 2 ^ 8 from rfl, ← pow_mul, Nat.testBit_div_two_pow,
    Nat.mod_add_div, testBit_packBits]
  simp [Bank.get, List.getD_eq_getElem?_getD, flags.size]

/-! ## READ STATUS (R182) -/

/-- The cycle that READ STATUS reports: none in DARK. -/
def State.statusCycle (s : State) : Option Cycle := if s.line.state = .dark then none else s.line.cycle

/-- The 16 places for barred serials, zeros where none stands. -/
def Roster.barredField (r : Roster) : List Byte :=
  ((r.barred.map BitVec.toNat ++ List.replicate 16 0).take 16).flatMap (beBytes 4)

/-- A lane's stage and tag. -/
def Lane.field (x : Lane) : List Byte := [laneStageCode x.work, byteOf ((x.work.map fun w => tagNum w.tag).getD 0)]

theorem Roster.barredField_length (r : Roster) : r.barredField.length = 64 := by
  rw [Roster.barredField, length_flatMap_of (beBytes_length 4)]
  simp

theorem Roster.barredField_part (r : Roster) {k : Nat} (inside : k < 16) :
    (r.barredField.drop (4 * k)).take 4 = beBytes 4 ((r.barred[k]?.map BitVec.toNat).getD 0) := by
  refine part_of_flatMap (beBytes_length 4) ?_
  rw [List.getElem?_take_of_lt inside, List.getElem?_append]
  split
  · next listed =>
    rw [List.length_map] at listed
    simp [List.getElem?_eq_getElem listed]
  · next unlisted =>
    rw [List.length_map] at unlisted
    rw [List.getElem?_eq_none (Nat.not_lt.mp unlisted), List.getElem?_replicate, List.length_map, if_pos (by omega)]
    rfl

/-- The fields of READ STATUS, as `statusBody` puts them one behind the other. -/
def State.statusFields (s : State) : List (List Byte) :=
  [[s.line.state.code, s.line.prev.code, byteOf s.line.transitions],
    optBE 2 (s.statusCycle.map fun x => x.num.toNat) ++ optBE 4 (s.statusCycle.map Cycle.len),
    beBytes 4 s.line.pendingLen,
    s.line.settings.bytes,
    [byteOf s.line.notices.length, byteOf s.planner.shots.length, byteOf s.roster.admission.length,
      byteOf s.link.inbound.length, byteOf s.link.outbound.length],
    [byteOf s.roster.expected.length, byteOf s.roster.barred.length, byteOf s.roster.strangers.length,
      boolByte s.roster.overflowed, s.roster.mode.code, byteOf s.roster.poolLow, byteOf s.roster.poolHigh,
      byteOf s.roster.openProfile.val],
    s.roster.barredField,
    s.lanes.cells.flatMap Lane.field,
    [s.census.state.code, s.census.mode.code, byteOf s.census.interval, byteOf s.census.stack.length,
      boolByte s.census.outstanding.isSome, byteOf s.census.wait],
    s.census.counters.bytes,
    beBytes 2 s.planner.overruns ++ [boolByte s.planner.lastOverrun.isSome] ++ optBE 2 (s.planner.lastOverrun.map BitVec.toNat),
    beBytes 4 s.intake.strays.toNat,
    [s.conv.state.code, byteOf s.conv.windowCode.val, byteOf s.conv.stepCode.val] ++ beSigned 1 s.conv.offset ++
      [boolByte s.conv.calib.isSome, byteOf ((s.conv.calib.map Calibration.attempts).getD 0)],
    beBytes 4 s.conv.refused.toNat,
    beBytes 4 s.link.faults.toNat,
    [s.link.mask.byte, s.link.kinds.byte],
    tagSet s.link.recFlags.cells]

theorem State.statusBody_eq (s : State) : s.statusBody = s.statusFields.flatten := by
  unfold State.statusBody State.statusFields State.statusCycle Roster.barredField
  dsimp only
  rw [show (fun x : Lane => [laneStageCode x.work, byteOf ((x.work.map fun w => tagNum w.tag).getD 0)]) = Lane.field from rfl]
  generalize tagSet _ = flags
  generalize List.flatMap Lane.field _ = lanes
  generalize List.flatMap (beBytes 4) _ = barred
  generalize beSigned 1 _ = offset
  simp only [List.flatten_cons, List.flatten_nil, List.append_assoc, List.cons_append, List.nil_append, List.append_nil]

theorem State.statusFields_lengths (s : State) :
    s.statusFields.map List.length = [3, 6, 4, 18, 5, 8, 64, 16, 6, 18, 5, 4, 6, 4, 4, 2, 16] := by
  have lanes : (s.lanes.cells.flatMap Lane.field).length = 16 := by
    rw [length_flatMap_of (n := 2) fun _ => rfl, s.lanes.size]
  simp [State.statusFields, s.roster.barredField_length, lanes, LineSettings.bytes, PassCounters.bytes, tagSet]

/-- The field number `k` of the status body. -/
theorem State.status_field_at {s : State} (k off n : Nat) {field : List Byte} (found : s.statusFields[k]? = some field)
    (at_off : ([3, 6, 4, 18, 5, 8, 64, 16, 6, 18, 5, 4, 6, 4, 4, 2, 16].take k).sum = off)
    (length : [3, 6, 4, 18, 5, 8, 64, 16, 6, 18, 5, 4, 6, 4, 4, 2, 16][k]? = some n) : (s.statusBody.drop off).take n = field := by
  rw [State.statusBody_eq]
  refine field_at k off n found (by rw [List.map_take, s.statusFields_lengths, at_off]) ?_
  have same : (s.statusFields.map List.length)[k]? = some field.length := by rw [List.getElem?_map, found]; rfl
  rw [s.statusFields_lengths, length] at same
  exact (Option.some.inj same).symm

theorem NoticeMask.byte_bits (m : NoticeMask) :
    m.byte.getLsbD 0 = m.line ∧ m.byte.getLsbD 1 = m.calibration ∧ m.byte.getLsbD 2 = m.census ∧
      m.byte.getLsbD 3 = m.terminal ∧ m.byte.getLsbD 4 = m.plan ∧ m.byte &&& 0xE0 = 0 := by
  obtain ⟨line, calibration, census, terminal, plan⟩ := m
  revert line calibration census terminal plan
  decide

theorem KindFlags.byte_bits (k : KindFlags) :
    k.byte.getLsbD 0 = k.line ∧ k.byte.getLsbD 1 = k.calibration ∧ k.byte.getLsbD 2 = k.census ∧ k.byte.getLsbD 4 = k.plan ∧
      k.byte.getLsbD 5 = k.hello ∧ k.byte &&& 0xC8 = 0 := by
  obtain ⟨hello, line, calibration, census, plan⟩ := k
  revert hello line calibration census plan
  decide

/-- Settles O13: each field of R182 stands at the sum of the sizes before it. -/
theorem readStatusReports : Obligations.ReadStatusReports := by
  intro s q rest offer body fits
  have allowed : exactly 0 q.body.length = true := by simp [exactly, body]
  have taken : s.popRequest.link.inbound = rest := by rw [State.popRequest_link_inbound, offer.head]; rfl
  have lane (i : LaneNo) : (s.popRequest.statusBody.drop (108 + 2 * i.val)).take 2 =
      [laneStageCode (s.work i), byteOf (((s.work i).map fun w => tagNum w.tag).getD 0)] := by
    have small := i.isLt
    refine (part_at (State.status_field_at 7 108 16 rfl rfl rfl) (by omega)).trans ?_
    have found : s.lanes.cells[i.val]? = some (s.lanes.get i) :=
      List.getElem?_eq_getElem (by rw [s.lanes.size]; exact i.isLt)
    exact part_of_flatMap (f := Lane.field) (n := 2) (fun _ => rfl) found
  refine ⟨s.popRequest.statusBody, congrArg Host.Outcome.next (State.handle_of_entry offer allowed entry_readStatus), ?_,
    State.status_field_at 0 0 3 rfl rfl rfl, fun dark => ?_, fun c lit cycle => ?_, State.status_field_at 2 9 4 rfl rfl rfl,
    State.status_field_at 3 13 18 rfl rfl rfl, ?_, State.status_field_at 5 36 8 rfl rfl rfl, fun k inside => ?_,
    fun i => ⟨fun free => ?_, fun w works => ?_⟩, State.status_field_at 8 124 6 rfl rfl rfl, ?_, ?_,
    State.status_field_at 11 153 4 rfl rfl rfl, ?_, State.status_field_at 13 163 4 rfl rfl rfl,
    State.status_field_at 14 167 4 rfl rfl rfl, fun x found => ?_, fun x found => ?_, fun g x found => ?_⟩
  · rw [State.statusBody_eq, List.length_flatten, State.statusFields_lengths]; rfl
  · refine (State.status_field_at 1 3 6 rfl rfl rfl).trans ?_
    simp [State.statusCycle, dark]; rfl
  · refine (State.status_field_at 1 3 6 rfl rfl rfl).trans ?_
    simp [State.statusCycle, lit, cycle, optBE]
  · rw [← taken]; exact State.status_field_at 4 31 5 rfl rfl rfl
  · refine (part_at (State.status_field_at 6 44 64 rfl rfl rfl) (by omega)).trans ?_
    exact s.roster.barredField_part inside
  · rw [lane i, free]; rfl
  · rw [lane i, works]
    refine congrArg₂ List.cons ?_ rfl
    cases stage : w.stage <;> simp [laneStageCode, stage]
  · refine (State.status_field_at 9 130 18 rfl rfl rfl).trans ?_
    simp [PassCounters.bytes]
  · refine (State.status_field_at 10 148 5 rfl rfl rfl).trans ?_
    rw [State.popRequest_planner, List.append_assoc]
    cases s.planner.lastOverrun <;> rfl
  · refine (State.status_field_at 12 157 6 rfl rfl rfl).trans ?_
    rw [State.popRequest_conv, beSigned_one]
    cases s.conv.calib <;> rfl
  · rw [getElem?_part (m := 0) (State.status_field_at 15 171 2 rfl rfl rfl) (by decide)] at found
    cases found
    exact s.link.mask.byte_bits
  · rw [getElem?_part (off := 171) (m := 1) (State.status_field_at 15 171 2 rfl rfl rfl) (by decide)] at found
    cases found
    exact s.link.kinds.byte_bits
  · have small := g.isLt
    rw [getElem?_part (State.status_field_at 16 173 16 rfl rfl rfl) (by omega)] at found
    exact getLsbD_tagSet g found

/-! ## SET LINE, SET CYCLE LENGTH and LIGHT LINE (R2, R10, R21) -/

/-- Sendable settings are read back from the body that carries them (12.3). -/
theorem lineSettingsAsked_bytes {a : LineSettings} (sendable : a.Sendable) : lineSettingsAsked a.bytes = a := by
  obtain ⟨ref, eMin, guard, wt, wu, exponent, closeCode, hush⟩ := sendable
  norm_num only at ref eMin guard wt wu hush
  simp [lineSettingsAsked, LineSettings.bytes, List.append_assoc, beAt_cons, beAt_append_right, beAt_beBytes,
    beAt_beBytes_all, byteOf_toNat, *]

theorem LineSettings.clamped_eq (a : LineSettings) (sendable : a.Sendable) : a.clamped =
    { ref := max 100000 (min 262143 a.ref), eMin := min (max 100000 (min 262143 a.ref) - 1) a.eMin,
      guard := max 32 (min 1024 a.guard), wt := max 1 (min 1023 a.wt), wu := max 16 (min 4095 a.wu),
      exponent := max 4 (min 12 a.exponent), closeCode := min 3 a.closeCode, hush := max 1 (min 65535 a.hush) } := by
  have ref : clampNat 100000 262143 a.ref = max 100000 (min 262143 a.ref) := clampNat_eq (by decide) _
  rw [LineSettings.clamped]
  simp only [LineSettings.mk.injEq, ref, true_and]
  refine ⟨?_, clampNat_eq (by decide) _, clampNat_eq (by decide) _, clampNat_eq (by decide) _, clampNat_eq (by decide) _, ?_,
    clampNat_eq (by decide) _⟩ <;> rw [clampNat_eq (Nat.zero_le _)] <;> exact Nat.zero_max _

theorem tickDiff_self (a : Tick) : tickDiff a a = 0 := by simp [tickDiff]

theorem State.issueSlot_none (s : State) (cycle : CycleNo) (start : Tick) : s.issueSlot cycle start none = s := by
  unfold State.issueSlot
  cases s.conv.calib <;> rfl

/-- The issue of a plan without a dark slot. -/
theorem State.issuePlan_of_no_slot (s : State) {p : Plan} (none : p.slot = none) (start : Tick) :
    s.issuePlan p start = ((s.setBuilt .none).setFramerPlan p).setStore (s.intake.store ++ [p.stored start]) := by
  rw [State.issuePlan, none, State.issueSlot_none]

/-- The lighting, with cycle 0's empty plan in the store. -/
theorem State.light_eq (s : State) (now : Tick) :
    s.light now =
      State.countdowns
        (((({ s with
            line.txEnable := true, line.tick := now, line.warmup := 2 ^ s.line.settings.exponent, line.drainLeft := 0
            line.drainCycle := false, line.head := none, line.headOut := (warmingHead 0).bytes
            line.cycle := some { num := 0, start := now, len := s.line.pendingLen, next := none } }.enterLine .warming).setBuilt
          none).setFramerPlan (emptyPlan 0 s.line.pendingLen)).setStore
            (s.intake.store ++ [(emptyPlan 0 s.line.pendingLen).stored now])) := by
  rw [State.light, State.issuePlan_of_no_slot _ rfl]
  rfl

/-- Settles O15: the bodies are read back and clamped, and LIGHT LINE starts cycle 0. -/
theorem lineIsSetAndLit : Obligations.LineIsSetAndLit := by
  refine ⟨fun s q rest a k offer sendable body clamped => ?_, fun s q rest n k offer small body clamped => ?_,
    fun s now q rest offer body => ?_⟩
  · have allowed : exactly 18 q.body.length = true := by simp [exactly, body, LineSettings.bytes]
    have served : exec .setLine s = _ :=
      congrArg Host.Outcome.next (State.handle_of_entry offer allowed entry_setLine)
    have result : clampResult (k != a) = if k = a then .ok else .okClamped := clampResult_eq bne_iff_ne
    refine ⟨fun dark => ?_, fun lit => ?_⟩
    · have stores : actSetLine q s.popRequest = .plain
          { s.popRequest with line.settings := k } (if k = a then .ok else .okClamped) := by
        rw [actSetLine, State.popRequest_line, dark, body, lineSettingsAsked_bytes sendable]
        dsimp only
        rw [LineSettings.clamped_eq a sendable, ← clamped, ← result]
        rfl
      rw [served, stores]; rfl
    · have plain : actSetLine q s.popRequest = .plain s.popRequest .state := by
        unfold actSetLine
        split
        · next dark => exact absurd dark lit
        · rfl
      exact congrArg Host.Outcome.next (State.handle_of_unchanged offer allowed plain)
  · have allowed : exactly 4 q.body.length = true := by simp [exactly, body]
    have served : exec .setCycleLength s = _ :=
      congrArg Host.Outcome.next (State.handle_of_entry offer allowed entry_setCycleLength)
    have result : clampResult (k != n) = if k = n then .ok else .okClamped := clampResult_eq bne_iff_ne
    have stores : actSetCycleLength q s.popRequest = .plain
        { s.popRequest with line.pendingLen := k } (if k = n then .ok else .okClamped) := by
      rw [actSetCycleLength, body, beAt_beBytes_all small]
      dsimp only
      rw [clampNat_eq (by decide), ← clamped, result]
    rw [served, stores]; rfl
  · have allowed : exactly 0 q.body.length = true := by simp [exactly, body]
    have served : exec (.lightLine now) s = _ :=
      congrArg Host.Outcome.next (State.handle_of_entry offer allowed (entry_lightLine now))
    refine ⟨fun lit => ?_, fun dark => ?_⟩
    · have plain : actLightLine now q s.popRequest = .plain s.popRequest .state := by
        unfold actLightLine
        split
        · next dark => exact absurd dark lit
        · rfl
      exact congrArg Host.Outcome.next (State.handle_of_unchanged offer allowed plain)
    · have lights : actLightLine now q s.popRequest = .plain (s.popRequest.light now) .ok := by
        rw [actLightLine, State.popRequest_line, dark]
      rw [lights, State.light_eq] at served
      refine ⟨State.replied _ q rest .ok [], served, rfl, dark, satInc_eq_min _ _, rfl, rfl,
        rfl, rfl, rfl, rfl, rfl, ?_, rfl, rfl, rfl, rfl, rfl, rfl, rfl, rfl, rfl, rfl, rfl⟩
      show decide (tickDiff now now < 16) = true
      rw [tickDiff_self]
      rfl

/-! ## Steps that each write one record -/

/-- What is held of the record of `t`: its term, its count of changes, its flag. -/
def State.page (s : State) (t : Tag) : Record × Bool := (s.roster.records.get t, s.link.recFlags.get t)

theorem State.term_of_page {s u : State} {t : Tag} (h : u.page t = s.page t) : u.term t = s.term t :=
  congrArg (fun p => p.1.term) h

theorem notNoted_of_page {s v u w : State} {t : Tag} (hv : v.page t = s.page t) (hw : w.page t = u.page t)
    (h : notNoted v u t) : notNoted s w t := by
  obtain ⟨flag, count⟩ := h
  obtain ⟨recordV, flagV⟩ := Prod.mk.inj hv
  obtain ⟨recordW, flagW⟩ := Prod.mk.inj hw
  exact ⟨by rw [flagW, ← flagV]; exact flag, by rw [recordW, ← recordV]; exact count⟩

theorem notedOnce_of_page {s v u w : State} {t : Tag} (hv : v.page t = s.page t) (hw : w.page t = u.page t)
    (h : notedOnce v u t) : notedOnce s w t := by
  obtain ⟨flag, count⟩ := h
  obtain ⟨recordV, -⟩ := Prod.mk.inj hv
  obtain ⟨recordW, flagW⟩ := Prod.mk.inj hw
  exact ⟨flagW ▸ flag, by rw [recordW, ← recordV]; exact count⟩

theorem notNoted_of_page_eq {s w : State} {t : Tag} (h : w.page t = s.page t) : notNoted s w t :=
  notNoted_of_page rfl h ⟨rfl, rfl⟩

theorem State.page_changeTerm_of_ne (s : State) {t u : Tag} (h : Option Terminal) (ne : u ≠ t) :
    (s.changeTerm t h).page u = s.page u := by
  unfold State.changeTerm
  split <;> simp [State.page, State.putTerm, State.noteChange, Bank.get_update_of_ne, Bank.get_set_of_ne, ne]

/-- A walk over some tags, each step of which writes its own page alone, leaves the pages of the other tags. -/
theorem foldl_page_of_not_mem {f : State → Tag → State} (own : ∀ s t u, u ≠ t → (f s t).page u = s.page u) {u : Tag}
    (l : List Tag) (outside : u ∉ l) (s : State) : (l.foldl f s).page u = s.page u := by
  induction l generalizing s with
  | nil => rfl
  | cons t l ih =>
    rw [List.mem_cons, not_or] at outside
    rw [List.foldl_cons, ih outside.2, own s t u outside.1]

/-- In a walk over all tags each page is written once, by its own step, which finds it as it was. -/
theorem foldl_page {f : State → Tag → State} (own : ∀ s t u, u ≠ t → (f s t).page u = s.page u) (s : State) (u : Tag) :
    ∃ before after, allTags = before ++ u :: after ∧ u ∉ before ∧
      (before.foldl f s).page u = s.page u ∧ (allTags.foldl f s).page u = (f (before.foldl f s) u).page u := by
  obtain ⟨before, after, split⟩ := List.append_of_mem (mem_allTags u)
  have once : (before ++ u :: after).Nodup := split ▸ List.nodup_finRange 128
  have notBefore : u ∉ before := fun listed =>
    (List.nodup_append.mp once).2.2 u listed u List.mem_cons_self rfl
  have notAfter : u ∉ after := (List.nodup_cons.mp (List.nodup_append.mp once).2.1).1
  refine ⟨before, after, split, notBefore, foldl_page_of_not_mem own before notBefore s, ?_⟩
  rw [split, List.foldl_append, List.foldl_cons, foldl_page_of_not_mem own after notAfter]

/-! ## The line-down event (R5, R116, R166) -/

theorem State.lineDownRecord_page_of_ne (s : State) (t u : Tag) (ne : u ≠ t) : (s.lineDownRecord t).page u = s.page u := by
  unfold State.lineDownRecord
  split
  · split
    · rfl
    · exact State.page_changeTerm_of_ne _ _ ne
  · rfl

/-- The census after the line-down event (R116). -/
def Census.downed (c : Census) (cycle : CycleNo) : Census :=
  if c.state = .stopped then c
  else
    { c with
      stack := [], outstanding := none, wait := 0, state := .stopped
      lastPass := some { kind := .lineDown, cycle := cycle, counters := c.counters, tie := c.tie } }

/-- The converter's state after the line-down event: a capture in flight is marked to be discarded (R166). -/
def ConvState.downed : ConvState → ConvState
  | .sampling c => .sampling { c with discard := true }
  | .converting c => .converting { c with discard := true }
  | other => other

/-- What the line-down event does to the converter (R166). -/
theorem State.converterLineDown_eq (s : State) :
    s.converterLineDown =
      { s with
        planner.slotWanted := false
        conv :=
          { s.conv with
            state := s.conv.state.downed, calib := none
            lastCalib := (s.conv.calib.map fun c =>
              { done := false, target := c.target, attempts := c.attempts, code := none, cause := some .lineDown,
                offset := s.conv.offset }).or s.conv.lastCalib }
        link.kinds.calibration := s.conv.calib.isSome || s.link.kinds.calibration } := by
  unfold State.converterLineDown ConvState.downed
  cases calib : s.conv.calib with
  | none => cases state : s.conv.state <;> simp [State.setConvState, State.setSlotWanted, calib]
  | some c =>
    cases state : s.conv.state <;>
      simp [State.setConvState, State.setSlotWanted, calib, State.failCalibration, State.endCalibration, State.raiseCalibration]

/-- What the line-down event does to the census (R116). -/
theorem State.censusLineDown_eq (s : State) :
    s.censusLineDown =
      { s with
        census := s.census.downed s.cycleNo
        link.kinds.census := (s.census.state != .stopped) || s.link.kinds.census } := by
  unfold State.censusLineDown Census.downed
  cases state : s.census.state with
  | stopped => simp
  | searching => simp [State.haltCensus_eq]
  | stopping => simp [State.haltCensus_eq]

/-- What the line-down event leaves in every block (R5). -/
theorem State.lineDown_eq (s : State) :
    ∃ records flags,
      s.lineDown =
        { s with
          roster.records := records, roster.admission := [], roster.waiting := [], line.notices := [], intake.store := []
          lanes := s.lanes.map Lane.ended, sup := .fill 128 .empty, planner.shots := [], planner.slotWanted := false
          census := s.census.downed s.cycleNo
          conv :=
            { s.conv with
              state := s.conv.state.downed, calib := none
              lastCalib := (s.conv.calib.map fun c =>
                { done := false, target := c.target, attempts := c.attempts, code := none, cause := some .lineDown,
                  offset := s.conv.offset }).or s.conv.lastCalib }
          link.recFlags := flags
          link.kinds.census := (s.census.state != .stopped) || s.link.kinds.census
          link.kinds.calibration := s.conv.calib.isSome || s.link.kinds.calibration } ∧
      ∀ t, (records.get t, flags.get t) = (allTags.foldl State.lineDownRecord s).page t := by
  obtain ⟨records, flags, e⟩ := State.lineDownRecords_keeps allTags s
  refine ⟨records, flags, ?_, fun t => by rw [e]; rfl⟩
  unfold State.lineDown
  rw [e, State.converterLineDown_eq, State.censusLineDown_eq]
  rfl

/-- A record in HEARD, ENGAGED, ACTIVE or SILENT is PARKED by the line-down event, and that noted; the others stay. -/
theorem State.lineDownRecords_page (s : State) (t : Tag) :
    (∀ u : State, u.page t = (allTags.foldl State.lineDownRecord s).page t →
      (s.term t = none → u.term t = none ∧ notNoted s u t) ∧
      ∀ h, s.term t = some h →
        (h.park.isSome = true → u.term t = some h ∧ notNoted s u t) ∧
        (h.park.isSome = false → u.term t = some { h with phase := .parked .lineDown 0 } ∧ notedOnce s u t)) := by
  intro u page
  obtain ⟨before, _, _, _, found, written⟩ := foldl_page State.lineDownRecord_page_of_ne s t
  set v := before.foldl State.lineDownRecord s with hv
  have own := page.trans written
  have held : v.term t = s.term t := State.term_of_page found
  refine ⟨fun vacant => ?_, fun h holds => ⟨fun parked => ?_, fun unparked => ?_⟩⟩
  · have same : v.lineDownRecord t = v := by rw [State.lineDownRecord, held, vacant]
    rw [same] at own
    exact ⟨(State.term_of_page (own.trans found)).trans vacant, notNoted_of_page_eq (own.trans found)⟩
  · have same : v.lineDownRecord t = v := by
      rw [State.lineDownRecord, held, holds]
      unfold Terminal.park at parked
      cases phase : h.phase <;> simp [phase] at parked ⊢
    rw [same] at own
    exact ⟨(State.term_of_page (own.trans found)).trans holds, notNoted_of_page_eq (own.trans found)⟩
  · have parks : v.lineDownRecord t = v.changeTerm t (some { h with phase := .parked .lineDown 0 }) := by
      rw [State.lineDownRecord, held, holds]
      unfold Terminal.park at unparked
      cases phase : h.phase <;> simp [phase, State.parkRecord] at unparked ⊢
    rw [parks] at own
    refine ⟨(State.term_of_page own).trans (State.term_changeTerm_self _ _ _), notedOnce_of_page found own ?_⟩
    refine notedOnce_changeTerm v t _ ?_
    rw [held, holds]
    refine mt visibleOf_parked.mp ?_
    rintro ⟨k, phase⟩
    simp [Terminal.park, phase] at unparked

/-- What the darkening writes (R4, R6). -/
theorem State.goDark_eq (s : State) :
    s.goDark =
      { s with
        line.state := .dark, line.prev := s.line.state, line.transitions := satInc 255 s.line.transitions
        line.txEnable := false, line.cycle := none, line.warmup := 0, line.drainLeft := 0, line.drainCycle := false
        line.head := none, planner.built := none, intake.store := [], link.kinds.line := true } := rfl

/-- Where the plan close of the cycle in progress has passed, its head and plan are replaced (R5). -/
theorem State.enterDraining_eq (s : State) :
    ∃ head built, s.enterDraining = ((s.setDrain 4 false).enterLine .draining).lineDown.setNext head built ∧
      (∀ c len, s.line.cycle = some c → c.next = some len →
        head = some (drainingHead (c.num + 1)) ∧ built = some (emptyPlan (c.num + 1) len)) ∧
      ∀ c, s.line.cycle = some c → c.next = none → head = none ∧ built = none := by
  unfold State.enterDraining
  dsimp only
  generalize ((s.setDrain 4 false).enterLine .draining).lineDown = drained
  cases cycle : s.line.cycle with
  | none => exact ⟨none, none, rfl, by simp, by simp⟩
  | some c =>
    cases next : c.next with
    | none =>
      refine ⟨none, none, by simp only [next], fun d len found latched => ?_, fun d found open_ => ⟨rfl, rfl⟩⟩
      cases found
      rw [next] at latched; cases latched
    | some len =>
      refine ⟨_, _, by simp only [next]; rfl, fun d len' found latched => ?_, fun d found unlatched => ?_⟩
      · cases found
        rw [next] at latched; cases latched
        exact ⟨rfl, rfl⟩
      · cases found
        rw [next] at unlatched; cases unlatched

/-- Settles O16: DARKEN LINE in each line state. -/
theorem darkenLineByState : Obligations.DarkenLineByState := by
  intro s q rest offer body
  have allowed : exactly 0 q.body.length = true := by simp [exactly, body]
  have served : exec .darkenLine s = _ :=
    congrArg Host.Outcome.next (State.handle_of_entry offer allowed entry_darkenLine)
  refine ⟨fun still => ?_, fun warming => ?_, fun running => ?_⟩
  · have same : s.popRequest.darken = s.popRequest := by
      unfold State.darken
      rcases still with dark | draining
      · rw [State.popRequest_line, dark]
      · rw [State.popRequest_line, draining]
    rw [served, actDarkenLine, same]; rfl
  · have dark : s.popRequest.darken = s.popRequest.goDark := by rw [State.darken, State.popRequest_line, warming]
    rw [served, actDarkenLine, dark]
    refine congrArg Host.Outcome.next (congrArg State.chooseAgain ?_)
    show State.replied _ q rest .ok [] = State.replied _ q rest .ok []
    rw [State.goDark_eq, State.popRequest_line, warming, satInc_eq_min]
    rfl
  · have drains : s.popRequest.darken = s.popRequest.enterDraining := by rw [State.darken, State.popRequest_line, running]
    obtain ⟨head, built, drained, replaced, unplanned⟩ := s.popRequest.enterDraining_eq
    obtain ⟨records, flags, down, pages⟩ := State.lineDown_eq ((s.popRequest.setDrain 4 false).enterLine .draining)
    have page (g : Tag) := State.lineDownRecords_page ((s.popRequest.setDrain 4 false).enterLine .draining) g
    rw [down] at drained
    have answer : actDarkenLine q s.popRequest = .plain s.popRequest.enterDraining .ok := congrArg (Answer.plain · .ok) drains
    rw [answer, drained] at served
    refine ⟨State.replied _ q rest .ok [], served, rfl, running, rfl, rfl, satInc_eq_min _ _, rfl, replaced, unplanned,
      fun x sampling => ?_, fun x converting => ?_, fun d other => ?_, rfl, rfl, rfl, rfl, rfl, rfl, fun i => ?_, fun g => ?_,
      fun g vacant => ?_, fun g h holds => ?_, fun stopped => ?_, fun going => ?_, rfl, fun c calib => ?_, rfl, rfl, rfl, rfl, rfl, rfl,
      rfl, rfl⟩
    · exact congrArg ConvState.downed sampling
    · exact congrArg ConvState.downed converting
    · rcases other with idle | calibrating
      · exact (congrArg ConvState.downed idle).trans idle.symm
      · exact (congrArg ConvState.downed calibrating).trans calibrating.symm
    · show ((s.lanes.map Lane.ended).get i).work = none ∧ ((s.lanes.map Lane.ended).get i).seizure = (s.lanes.get i).seizure
      rw [Bank.get_map]
      exact ⟨rfl, rfl⟩
    · exact Bank.get_fill _ g
    · refine (page g _ ?_).1 vacant
      exact pages g
    · refine (page g _ ?_).2 h holds
      exact pages g
    · exact if_pos stopped
    · have halted : s.census.downed s.cycleNo = _ := if_neg going
      have kinds : ((s.census.state != .stopped) || s.link.kinds.census) = true := by simp [going]
      refine ⟨?_, ?_, ?_, ?_, ?_, kinds⟩
      · exact congrArg Census.state halted
      · exact congrArg Census.stack halted
      · exact congrArg Census.outstanding halted
      · exact congrArg Census.wait halted
      · exact congrArg Census.lastPass halted
    · have known : s.popRequest.conv.calib = some c := calib
      refine ⟨?_, ?_⟩
      · show Option.or (s.conv.calib.map _) s.conv.lastCalib = _
        rw [calib]; rfl
      · show (s.conv.calib.isSome || s.link.kinds.calibration) = true
        rw [calib]; rfl

end Sys2Proof.Machine


/-! PROOFS. The converter's events: the dark slot start, the sample window end and the conversion end (chapter 9). -/

namespace Sys2Proof.Machine

/-! ## Dark slot starts and sample window ends (R153, R156, R163) -/

theorem State.failAttempt_again (s : State) {c : Calibration} (some_left : c.attempts < 5) (cause : CalibCause) :
    s.failAttempt c cause =
      { s with
        conv.calib := some { c with phase := .waiting, cause := some cause }
        planner.slotWanted := true } := by
  unfold State.failAttempt
  rw [if_pos some_left]
  rfl

theorem State.failAttempt_last (s : State) {c : Calibration} (none_left : 5 ≤ c.attempts) (cause : CalibCause) :
    s.failAttempt c cause =
      { s with
        conv.calib := none
        conv.lastCalib := some
          { done := false, target := c.target, attempts := c.attempts, code := none, cause := some cause,
            offset := s.conv.offset }
        planner.slotWanted := false
        link.kinds.calibration := true } := by
  unfold State.failAttempt
  rw [if_neg (Nat.not_lt.mpr none_left)]
  rfl

/-- A PLACED attempt's slot starts at `darkSlotStart`. -/
theorem State.darkSlotStart_of_placed {s : State} {c : Calibration} {slot : CalibSlot} (calib : s.conv.calib = some c)
    (placed : c.phase = .placed slot) : s.darkSlotStart = s.startSlot c slot := by
  simp only [State.darkSlotStart, calib, placed]

theorem State.startSlot_busy {s : State} {x : Capture} (busy : s.conv.state = .sampling x ∨ s.conv.state = .converting x)
    (c : Calibration) (slot : CalibSlot) :
    s.startSlot c slot = ({ s with line.tick := slot.startTick } : State).failAttempt c .busy := by
  rcases busy with state | state <;> simp only [State.startSlot, state]

theorem State.darkSlotStart_none {s : State} (none : ∀ c slot, s.conv.calib = some c → c.phase ≠ .placed slot) :
    s.darkSlotStart = s := by
  unfold State.darkSlotStart
  split
  · next c calib =>
    split
    · next slot placed => exact absurd placed (none c slot calib)
    · rfl
  · rfl

/-- Settles O51. -/
theorem darkSlotAndSampleWindow : Obligations.DarkSlotAndSampleWindow := by
  intro s
  refine ⟨fun c slot calib placed => ⟨fun idle => ?_, fun x busy few => ?_, fun x busy five => ?_⟩, fun none => ?_,
    fun c sampling => ?_, fun d calibrating first => ?_, fun c other => ?_⟩
  · refine congrArg (fun u : State => Host.Outcome.next u.chooseAgain) ?_
    rw [State.darkSlotStart_of_placed calib placed]
    simp only [State.startSlot, idle]
    rfl
  · refine congrArg (fun u : State => Host.Outcome.next u.chooseAgain) ?_
    rw [State.darkSlotStart_of_placed calib placed, State.startSlot_busy busy, State.failAttempt_again _ few]
  · refine congrArg (fun u : State => Host.Outcome.next u.chooseAgain) ?_
    rw [State.darkSlotStart_of_placed calib placed, State.startSlot_busy busy, State.failAttempt_last _ five]
  · exact congrArg (fun u : State => Host.Outcome.next u.chooseAgain) (State.darkSlotStart_none none)
  · refine congrArg (fun u : State => Host.Outcome.next u.chooseAgain) ?_
    simp only [State.endSampleWindow, sampling]
    rfl
  · refine congrArg (fun u : State => Host.Outcome.next u.chooseAgain) ?_
    simp only [State.endSampleWindow, calibrating, first, Bool.false_eq_true, if_false]
    rfl
  · refine congrArg (fun u : State => Host.Outcome.next u.chooseAgain) ?_
    rcases other with state | state <;> simp only [State.endSampleWindow, state]

/-! ## Levels (R158, R159) -/

theorem curvePoint_val (curve : Bank Int 33) (k : Fin 33) : curvePoint curve k.val = curve.get k := by
  have inside : k.val < curve.cells.length := by rw [curve.size]; exact k.isLt
  exact (List.getElem_eq_getD (h := inside) (0 : Int)).symm

/-- The level of a code is the interpolated one. -/
theorem isLevel_levelOf {curve : Bank Int 33} {code : Nat} {level : Int} (h : IsLevel curve code level) :
    level = levelOf curve code := by
  obtain ⟨a, b, ha, hb, rfl⟩ := h
  unfold levelOf
  rw [clampInt_eq (by decide), ← curvePoint_val curve a, ← curvePoint_val curve b, ha, hb]

theorem rawLevel_levelOf {curve : Bank Int 33} {offset : Int} {raw : BitVec 12} {level : Int}
    (h : RawLevel curve offset raw level) : level = levelOf curve (correctedCode raw offset) := by
  obtain ⟨code, bounded, isLevel⟩ := h
  have same : code = correctedCode raw offset := by
    unfold correctedCode
    rw [clampInt_eq (by decide), ← bounded]
    rfl
  rw [← same]
  exact isLevel_levelOf isLevel

/-! ## Window closes (R96) -/

/-- Going over an entry of a list is putting its new form in its place. -/
theorem modify_eq_set_of_getElem? {α : Type} {l : List α} {j : Nat} {x : α} (found : l[j]? = some x) (f : α → α) :
    l.modify j f = l.set j (f x) := by
  rw [List.modify_eq_set_getElem?, found]
  rfl

/-- `s` as the close of the window `w`, at place `j` of the earliest plan, leaves it before its owner is told. -/
def State.closedAt (s : State) (plan : StoredPlan) (rest : List StoredPlan) (j : Nat) (w : Window) : State :=
  { s with
    line.tick := plan.start + BitVec.ofNat 32 (s.line.settings.ref + w.grant.stop)
    intake.store := { plan with windows := plan.windows.set j { w with state := .closed } } :: rest }

theorem State.closeNext_of_next {s : State} {plan : StoredPlan} {rest : List StoredPlan} {j : Nat} {w : Window}
    (next : s.NextToClose plan rest j w) :
    s.closeNext = (s.closedAt plan rest j w).deliverClose w.grant plan.cycle w.garble w.outcome := by
  simp only [State.closeNext, next.store, next.nextWindow, next.window, State.updatePlan, StoredPlan.updateWindow,
    State.setTick_intake, List.modify_zero_cons, modify_eq_set_of_getElem? next.window]
  rfl

/-- Every window of the plan is CLOSED: none is next. -/
theorem StoredPlan.nextWindow_none {plan : StoredPlan} (closed : ∀ w ∈ plan.windows, w.state = .closed) :
    plan.nextWindow = none := by
  simpa [StoredPlan.nextWindow] using closed

theorem State.closeNext_none {s : State}
    (none : s.intake.store = [] ∨ ∃ plan rest, s.intake.store = plan :: rest ∧ ∀ w ∈ plan.windows, w.state = .closed) :
    s.closeNext = s := by
  rcases none with empty | ⟨plan, rest, store, closed⟩
  · simp only [State.closeNext, empty]
  · simp only [State.closeNext, store, StoredPlan.nextWindow_none closed]

/-- Settles O42. -/
theorem windowsCloseInOrder : Obligations.WindowsCloseInOrder := by
  refine ⟨fun s plan rest j w next => ⟨_, congrArg (fun u : State => Host.Outcome.next u.chooseAgain)
    (State.closeNext_of_next next), ?_, ?_, ?_⟩, fun s none => ?_⟩
  · exact congrArg LineTimer.tick (State.deliverClose_lineSide _ _ _ _ _)
  · rw [State.deliverClose_intake]
    rfl
  · rw [State.deliverClose_intake]
    rfl
  · exact congrArg (fun u : State => Host.Outcome.next u.chooseAgain) (State.closeNext_none none)

end Sys2Proof.Machine


/-! PROOFS. What the work of one lane leaves alone, how a lane ends, and how its grant settles (chapter 7). -/

namespace Sys2Proof.Machine

/-! ## The reach of a lane's work -/

/-- From `s` to `u` only lane `i`, the record of `t` where it is ENGAGED to the lane, what is posted and what waits for the line
may have changed. -/
structure State.LaneActs (s u : State) (i : LaneNo) (t : Tag) : Prop where
  elsewhere : u.elsewhere = s.elsewhere
  lanes : ∀ j, j ≠ i → u.lanes.get j = s.lanes.get j
  pages : ∀ f, f ≠ t → u.page f = s.page f
  sup : u.sup = s.sup
  admission : u.roster.admission = s.roster.admission
  stray : s.engagedTo i t = none → u.page t = s.page t

namespace State.LaneActs

theorem engagedTo_of_page {s u : State} {t : Tag} (page : u.page t = s.page t) (i : LaneNo) : u.engagedTo i t = s.engagedTo i t := by
  unfold State.engagedTo
  rw [State.term_of_page page]

theorem refl (s : State) (i : LaneNo) (t : Tag) : s.LaneActs s i t := ⟨rfl, fun _ _ => rfl, fun _ _ => rfl, rfl, rfl, fun _ => rfl⟩

theorem trans {s u v : State} {i : LaneNo} {t : Tag} (first : s.LaneActs u i t) (second : u.LaneActs v i t) : s.LaneActs v i t where
  elsewhere := second.elsewhere.trans first.elsewhere
  lanes j ne := (second.lanes j ne).trans (first.lanes j ne)
  pages f ne := (second.pages f ne).trans (first.pages f ne)
  sup := second.sup.trans first.sup
  admission := second.admission.trans first.admission
  stray none :=
    have page := first.stray none
    (second.stray ((engagedTo_of_page page i).trans none)).trans page

theorem setWork (s : State) (i : LaneNo) (t : Tag) (w : Option LaneWork) : s.LaneActs (s.setWork i w) i t :=
  ⟨rfl, fun _ ne => Bank.get_update_of_ne _ _ ne, fun _ _ => rfl, rfl, rfl, fun _ => rfl⟩

theorem rosterPost (s : State) (i : LaneNo) (t : Tag) (body : NoticeBody) : s.LaneActs (s.rosterPost body) i t := by
  rw [← s.rosterPost_rest body]
  exact ⟨rfl, fun _ _ => rfl, fun _ _ => rfl, rfl, rfl, fun _ => rfl⟩

theorem changeTerm {s : State} {i : LaneNo} {t : Tag} (engaged : s.engagedTo i t ≠ none) (h : Option Terminal) :
    s.LaneActs (s.changeTerm t h) i t where
  elsewhere := s.elsewhere_changeTerm t h
  lanes j _ := by rw [State.changeTerm_lanes]
  pages _ ne := s.page_changeTerm_of_ne h ne
  sup := by rw [State.changeTerm_sup]
  admission := (congrArg (·.roster.admission) (s.changeTerm_rest t h) :)
  stray none := absurd none engaged

theorem putTerm {s : State} {i : LaneNo} {t : Tag} (engaged : s.engagedTo i t ≠ none) (h : Option Terminal) :
    s.LaneActs (s.putTerm t h) i t :=
  ⟨rfl, fun _ _ => rfl, fun _ ne => Prod.ext (Bank.get_update_of_ne _ _ ne) rfl, rfl, rfl, fun none => absurd none engaged⟩

theorem lanePostNotice (s : State) (i : LaneNo) (t : Tag) (w : LaneWork) (body : NoticeBody) :
    s.LaneActs (s.lanePostNotice i w body) i t := by
  rw [State.lanePostNotice_eq]
  split
  · exact setWork s i t _
  · split
    · exact { setWork s i t _ with }
    · exact setWork s i t _

theorem lanePostShot (s : State) (i : LaneNo) (t : Tag) (w : LaneWork) (e : OneShot) :
    s.LaneActs (s.lanePostShot i w e) i t := by
  rw [State.lanePostShot_eq]
  split
  · exact setWork s i t _
  · split
    · exact { setWork s i t _ with }
    · exact setWork s i t _

theorem freeLane (s : State) (i : LaneNo) (t : Tag) : s.LaneActs (s.freeLane i) i t := { setWork s i t none with }

theorem parkRecord {s : State} {i : LaneNo} {t : Tag} (engaged : s.engagedTo i t ≠ none) (h : Terminal) (reason : Reason)
    (hold : Nat) : s.LaneActs (s.parkRecord t h reason hold) i t := changeTerm engaged _

theorem laneFail (s : State) (i : LaneNo) (w : LaneWork) (reason : Reason) : s.LaneActs (s.laneFail i w reason) i w.tag := by
  unfold State.laneFail
  dsimp only
  split
  · exact freeLane s i w.tag
  · next engaged =>
    have here : (s.freeLane i).engagedTo i w.tag ≠ none := by simp [engaged]
    have parked := fun h hold => (freeLane s i w.tag).trans (parkRecord here h reason hold)
    split
    · exact parked _ _
    · exact (parked _ _).trans (rosterPost _ i w.tag _)

theorem laneComplete (s : State) (i : LaneNo) (w : LaneWork) : s.LaneActs (s.laneComplete i w) i w.tag := by
  unfold State.laneComplete
  dsimp only
  split
  · exact freeLane s i w.tag
  · next engaged =>
    exact (freeLane s i w.tag).trans (changeTerm (by simp [engaged]) _)

theorem laneCompute (s : State) (i : LaneNo) (w : LaneWork) (p : ProbeWork) : s.LaneActs (s.laneCompute i w p) i w.tag := by
  unfold State.laneCompute
  split
  · exact freeLane s i w.tag
  · next engaged =>
    have here : s.engagedTo i w.tag ≠ none := by simp [engaged]
    dsimp only
    split
    · exact (putTerm here _).trans (laneFail _ i w _)
    · exact (putTerm here _).trans (lanePostNotice _ i w.tag _ _)

theorem probeGoOn (s : State) (i : LaneNo) (w : LaneWork) (p : ProbeWork) : s.LaneActs (s.probeGoOn i w p) i w.tag := by
  unfold State.probeGoOn
  split
  · exact lanePostShot s i w.tag _ _
  · split
    · exact lanePostShot s i w.tag _ _
    · exact laneCompute s i w p

theorem probeFailure (s : State) (i : LaneNo) (w : LaneWork) (p : ProbeWork) (kind : FailKind) :
    s.LaneActs (s.probeFailure i w p kind) i w.tag := by
  unfold State.probeFailure
  dsimp only
  split
  · exact laneFail s i { w with stage := _, lastFailure := _ } _
  · exact probeGoOn s i { w with stage := _, lastFailure := _ } _

theorem settleProbe (s : State) (i : LaneNo) (w : LaneWork) (p : ProbeWork) (held : HeldGrant) (outcome : CloseOutcome) :
    s.LaneActs (s.settleProbe i w p held outcome) i w.tag := by
  unfold State.settleProbe
  dsimp only
  split
  · split
    · split
      · exact probeGoOn s i { w with stage := _ } _
      · split
        · exact laneFail s i w _
        · exact probeFailure s i w _ _
    · exact probeFailure s i w _ _
  · exact probeFailure s i w _ _
  · exact laneFail s i w _
  · exact probeFailure s i w _ _

theorem offerFailure (s : State) (i : LaneNo) (w : LaneWork) (attempts : Nat) (kind : FailKind) :
    s.LaneActs (s.offerFailure i w attempts kind) i w.tag := by
  unfold State.offerFailure
  dsimp only
  split
  · exact laneFail s i { w with stage := _, lastFailure := _ } _
  · split
    · exact lanePostNotice s i w.tag _ _
    · exact setWork s i w.tag _

theorem settleOffer (s : State) (i : LaneNo) (w : LaneWork) (attempts : Nat) (held : HeldGrant) (outcome : CloseOutcome) :
    s.LaneActs (s.settleOffer i w attempts held outcome) i w.tag := by
  unfold State.settleOffer
  dsimp only
  split
  · split
    · exact lanePostShot s i w.tag _ _
    · exact offerFailure s i w _ _
  · exact offerFailure s i w _ _
  · exact offerFailure s i w _ _

theorem trimFailure (s : State) (i : LaneNo) (w : LaneWork) (attempts : Nat) (last : Option SettledTrim) (kind : FailKind) :
    s.LaneActs (s.trimFailure i w attempts last kind) i w.tag := by
  unfold State.trimFailure
  dsimp only
  split
  · exact laneFail s i { w with stage := _, lastFailure := _ } _
  · split
    · exact lanePostNotice s i w.tag _ _
    · exact setWork s i w.tag _

theorem settleTrim (s : State) (i : LaneNo) (w : LaneWork) (attempts : Nat) (cycle : CycleNo) (held : HeldGrant)
    (outcome : CloseOutcome) : s.LaneActs (s.settleTrim i w attempts cycle held outcome) i w.tag := by
  unfold State.settleTrim
  dsimp only
  split
  · split
    · exact laneComplete s i { w with stage := _ }
    · exact trimFailure s i { w with stage := _ } _ _ _
  · exact trimFailure s i { w with stage := _ } _ _ _
  · exact laneFail s i { w with stage := _ } _
  · exact trimFailure s i { w with stage := _ } _ _ _

end State.LaneActs

/-- The PLACED grant of lane `i` settles in the stage of its work, the one-shot and the held result being cleared first. -/
def State.settleStage (s : State) (i : LaneNo) (w : LaneWork) (cycle : CycleNo) (held : HeldGrant) (o : CloseOutcome) : State :=
  match w.stage with
  | .offer a => s.settleOffer i { w with shot := .absent, held := .empty } a held o
  | .probe p => s.settleProbe i { w with shot := .absent, held := .empty } p held o
  | .trim a _ => s.settleTrim i { w with shot := .absent, held := .empty } a cycle held o

theorem State.LaneActs.settleStage (s : State) (i : LaneNo) (w : LaneWork) (cycle : CycleNo) (held : HeldGrant) (o : CloseOutcome) :
    s.LaneActs (s.settleStage i w cycle held o) i w.tag := by
  unfold State.settleStage
  split
  · exact State.LaneActs.settleOffer s i { w with shot := _, held := _ } _ _ _
  · exact State.LaneActs.settleProbe s i { w with shot := _, held := _ } _ _ _
  · exact State.LaneActs.settleTrim s i { w with shot := _, held := _ } _ _ _ _

/-- What the lane holds is kept until the close is there, and the answer of a capture that was asked for (R123). -/
theorem State.settleIfDue_waits (s : State) (i : LaneNo) (w : LaneWork) (cycle : CycleNo) {held : HeldGrant}
    (waits : held.close = none ∨ (held.captureAsked = true ∧ held.answer = none)) :
    s.settleIfDue i w cycle held = s.setWork i (some { w with held := held }) := by
  unfold State.settleIfDue
  split
  · next o close =>
    rcases waits with none | ⟨asked, none⟩
    · rw [close] at none; cases none
    · rw [if_pos (by rw [asked, none]; rfl)]
  · rfl

theorem State.settleIfDue_settles (s : State) (i : LaneNo) (w : LaneWork) (cycle : CycleNo) {held : HeldGrant} {o : CloseOutcome}
    (close : held.close = some o) (complete : held.captureAsked = true → held.answer.isSome = true) :
    s.settleIfDue i w cycle held = s.settleStage i w cycle held o := by
  unfold State.settleIfDue
  simp only [close]
  rw [if_neg]
  · rfl
  · rw [Bool.and_eq_true, Option.isNone_iff_eq_none]
    rintro ⟨asked, none⟩
    have := complete asked
    rw [none] at this
    cases this

theorem State.LaneActs.settleIfDue (s : State) (i : LaneNo) (w : LaneWork) (cycle : CycleNo) (held : HeldGrant) :
    s.LaneActs (s.settleIfDue i w cycle held) i w.tag := by
  cases close : held.close with
  | none => rw [State.settleIfDue_waits s i w cycle (.inl close)]; exact State.LaneActs.setWork s i w.tag _
  | some o =>
    by_cases waits : held.captureAsked = true ∧ held.answer = none
    · rw [State.settleIfDue_waits s i w cycle (.inr waits)]; exact State.LaneActs.setWork s i w.tag _
    · rw [State.settleIfDue_settles s i w cycle close fun asked =>
        Option.isSome_iff_ne_none.mpr fun none => waits ⟨asked, none⟩]
      exact State.LaneActs.settleStage s i w cycle held o

theorem State.LaneActs.laneClose (s : State) (i : LaneNo) (t : Tag) (cycle : CycleNo) (kind : GrantKind) (o : CloseOutcome) :
    s.LaneActs (s.laneClose i t cycle kind o) i t := by
  unfold State.laneClose
  split
  · exact .refl s i t
  · next w placed =>
    obtain ⟨-, rfl, -⟩ := State.placedWork_some placed
    exact .settleIfDue s i w cycle _

theorem State.LaneActs.laneCapture (s : State) (i : LaneNo) (t : Tag) (cycle : CycleNo) (answer : CaptureAnswer) :
    s.LaneActs (s.laneCapture i t cycle answer) i t := by
  unfold State.laneCapture
  split
  · exact .refl s i t
  · next w placed =>
    obtain ⟨-, rfl, -⟩ := State.placedWork_some placed
    split
    · exact .settleIfDue s i w cycle _
    · exact .refl s i w.tag

theorem State.LaneActs.laneBurst (s : State) (i : LaneNo) (t : Tag) (r : BurstResult) : s.LaneActs (s.laneBurst i t r) i t := by
  unfold State.laneBurst
  split
  · exact .refl s i t
  · next w placed =>
    obtain ⟨-, rfl, -⟩ := State.placedWork_some placed
    split
    · exact .laneFail s i w _
    · split
      · exact .laneFail s i w _
      · exact .settleIfDue s i w _ _

theorem State.LaneActs.laneSighting (s : State) (i : LaneNo) (t : Tag) (cycle : CycleNo) :
    s.LaneActs (s.laneSighting i t cycle) i t := by
  unfold State.laneSighting
  split
  · next w _ =>
    split
    · split
      · split
        · next same => exact same.1 ▸ .laneFail s i w _
        · exact .refl s i t
      · exact .refl s i t
    · exact .refl s i t
  · exact .refl s i t

/-- What a lane's work leaves alone, as the statements say it. -/
theorem State.LaneActs.onlyLane {s u : State} {i : LaneNo} {t : Tag} (acts : s.LaneActs u i t) : s.OnlyLane u i t where
  lanes := acts.lanes
  records f ne := ⟨State.term_of_page (acts.pages f ne), notNoted_of_page_eq (acts.pages f ne)⟩
  sup := acts.sup
  census := (congrArg State.census acts.elsewhere :)
  admission := acts.admission
  line := ⟨(congrArg (·.line.state) acts.elsewhere :), (congrArg (·.line.cycle) acts.elsewhere :), (congrArg (·.line.head) acts.elsewhere :)⟩
  conv := ⟨(congrArg (·.conv.calib) acts.elsewhere :), (congrArg (·.conv.offset) acts.elsewhere :),
    (congrArg (·.conv.refused) acts.elsewhere :)⟩

end Sys2Proof.Machine


/-! PROOFS. How a lane ends, what it posts, and what its settled grants come to (chapter 7). -/

namespace Sys2Proof.Machine

/-! ## The end of a lane (R135) -/

/-- Lane `i` is FREE and the record of its tag, which held `h`, PARKED with `reason`. -/
def State.laneEnded (s : State) (i : LaneNo) (t : Tag) (h : Terminal) (reason : Reason) : State :=
  (s.freeLane i).parkRecord t h reason (s.roster.profiles.get h.profile).parkHold

theorem State.engagedTo_of_term {s : State} {i : LaneNo} {t : Tag} {h : Terminal} {trim : Option EchoHold} (record : s.term t = some h)
    (engaged : h.phase = .engaged i trim) : s.engagedTo i t = some (h, trim) := by
  simp only [State.engagedTo, record, engaged, if_true]

theorem State.laneFail_eq {s : State} {i : LaneNo} {w : LaneWork} {h : Terminal} {trim : Option EchoHold}
    (record : s.term w.tag = some h) (engaged : h.phase = .engaged i trim) (reason : Reason) :
    s.laneFail i w reason =
      if reason = .powerLoss then s.laneEnded i w.tag h reason
      else (s.laneEnded i w.tag h reason).standDown w.tag reason := by
  simp only [State.laneFail, State.engagedTo_freeLane, State.engagedTo_of_term record engaged]
  rfl

theorem visibleOf_engaged_ne_parked {h : Terminal} {i : LaneNo} {trim : Option EchoHold} (engaged : h.phase = .engaged i trim)
    (reason : Reason) (hold : Nat) : visibleOf (some h) ≠ visibleOf (some { h with phase := .parked reason hold }) := by
  intro same
  have code : recordStateCode (some h) = recordStateCode (some { h with phase := .parked reason hold }) :=
    congrArg Visible.state same
  simp [recordStateCode, engaged] at code

/-- What stands once the lane is FREE and the record PARKED, before the STAND DOWN. -/
theorem State.laneEnded_keeps (s : State) (i : LaneNo) (t : Tag) (h : Terminal) (reason : Reason) :
    (s.laneEnded i t h reason).line = s.line ∧ (s.laneEnded i t h reason).roster.waiting = s.roster.waiting ∧
      (s.laneEnded i t h reason).planner.shots = s.planner.shots.filter fun e => e.owner != .lane i :=
  ⟨(congrArg State.line (State.changeTerm_rest (s.freeLane i) t _) :),
    (congrArg (·.roster.waiting) (State.changeTerm_rest (s.freeLane i) t _) :),
    (congrArg (·.planner.shots) (State.changeTerm_rest (s.freeLane i) t _) :)⟩

/-- A lane that fails ends: the record PARKED, the lane FREE, a STAND DOWN posted but for POWER_LOSS. -/
theorem State.laneEnds_laneFail {s : State} {i : LaneNo} {w : LaneWork} {h : Terminal} {trim : Option EchoHold}
    (running : s.line.state = .running) (record : s.term w.tag = some h) (engaged : h.phase = .engaged i trim) (reason : Reason) :
    s.LaneEnds (s.laneFail i w reason) i w.tag h reason := by
  obtain ⟨line, waiting, shots⟩ := s.laneEnded_keeps i w.tag h reason
  have lanes : (s.laneEnded i w.tag h reason).lanes = (s.freeLane i).lanes := State.changeTerm_lanes _ _ _
  have parked : (s.laneEnded i w.tag h reason).term w.tag =
      some { h with phase := .parked reason (s.roster.profiles.get h.profile).parkHold } := State.term_changeTerm_self _ _ _
  have noted : notedOnce s (s.laneEnded i w.tag h reason) w.tag := by
    refine notedOnce_changeTerm (s.freeLane i) w.tag _ ?_
    rw [show (s.freeLane i).term w.tag = some h from record]
    exact visibleOf_engaged_ne_parked engaged _ _
  have free : (s.laneEnded i w.tag h reason).work i = none ∧
      ((s.laneEnded i w.tag h reason).lanes.get i).seizure = (s.lanes.get i).seizure := by
    refine ⟨?_, by rw [lanes]; exact s.seizure_freeLane i i⟩
    rw [State.work, lanes]
    exact (s.work_freeLane i i).trans (if_pos rfl)
  rw [State.laneFail_eq record engaged]
  split
  · next quiet =>
    exact ⟨parked, noted, free, shots, fun loud => absurd quiet loud, fun _ => ⟨congrArg LineTimer.notices line, waiting⟩⟩
  · next loud =>
    have posts := (s.laneEnded i w.tag h reason).rosterPosts_rosterPost (.standDown (some w.tag) reason) (by rw [line, running])
    unfold State.RosterPosts at posts
    rw [line, waiting] at posts
    unfold State.standDown
    rw [← State.rosterPost_rest] at posts ⊢
    exact ⟨parked, noted, free, shots, fun _ => posts, fun quiet => absurd quiet loud⟩

/-! ## What a lane posts (R119 to R121) -/

/-- A lane's one-shot is posted, and its work marked so; the records and the line notices are as they were. -/
theorem State.lanePostShot_posts {s : State} (running : s.line.state = .running) (i : LaneNo) (w : LaneWork) (e : OneShot) :
    (∃ mark, s.ShotPosts (s.lanePostShot i w e) e mark ∧ (s.lanePostShot i w e).work i = some { w with shot := mark }) ∧
      (s.lanePostShot i w e).book = s.book ∧ (s.lanePostShot i w e).line = s.line := by
  rw [State.lanePostShot_eq, if_neg (by simp [running])]
  split
  · next room =>
    exact ⟨⟨.queued, ⟨fun _ => ⟨rfl, rfl⟩, fun full => absurd room (Nat.not_lt.mpr full)⟩, by rw [State.work_setWork, if_pos rfl]⟩,
      rfl, rfl⟩
  · next full =>
    exact ⟨⟨.waiting e, ⟨fun room => absurd room full, fun _ => ⟨rfl, rfl⟩⟩, by rw [State.work_setWork, if_pos rfl]⟩, rfl, rfl⟩

/-- A lane's line notice is posted, and its work marked so; the records and the one-shots are as they were. -/
theorem State.lanePostNotice_posts {s : State} (running : s.line.state = .running) (i : LaneNo) (w : LaneWork) (body : NoticeBody) :
    (∃ mark, s.LanePosts (s.lanePostNotice i w body) i body mark ∧
      (s.lanePostNotice i w body).work i = some { w with notice := mark }) ∧
      (s.lanePostNotice i w body).book = s.book ∧ (s.lanePostNotice i w body).planner = s.planner := by
  rw [State.lanePostNotice_eq, if_neg (by simp [running])]
  split
  · next room =>
    exact ⟨⟨.queued body, ⟨fun _ => ⟨rfl, rfl⟩, fun full => absurd room (Nat.not_lt.mpr full)⟩,
      by rw [State.work_setWork, if_pos rfl]⟩, rfl, rfl⟩
  · next full =>
    exact ⟨⟨.waiting body, ⟨fun room => absurd room full, fun _ => ⟨rfl, rfl⟩⟩, by rw [State.work_setWork, if_pos rfl]⟩, rfl, rfl⟩

theorem notNoted_of_book_eq {s u : State} (h : u.book = s.book) (t : Tag) : notNoted s u t :=
  notNoted_of_book rfl h ⟨rfl, rfl⟩

/-! ## The command that settles a lane's grant (R123, R156) -/

/-- `u` is `s` but for the tick, the Intake and the converter's state. -/
def State.Aside (s u : State) : Prop :=
  ∃ tick intake x, u = { s with line.tick := tick, intake := intake, conv.state := x }

namespace State.Aside

variable {s u v : State} {i : LaneNo} {t : Tag}

theorem working (aside : s.Aside u) {work : LaneWork} {h : Terminal} {trim : Option EchoHold} (working : s.Working i work h trim) :
    u.Working i work h trim := by
  obtain ⟨tick, intake, x, rfl⟩ := aside
  exact { working with }

theorem onlyLane (aside : s.Aside u) (only : u.OnlyLane v i t) : s.OnlyLane v i t := by
  obtain ⟨tick, intake, x, rfl⟩ := aside
  exact { only with }

theorem laneEnds (aside : s.Aside u) {h : Terminal} {reason : Reason} (ends : u.LaneEnds v i t h reason) :
    s.LaneEnds v i t h reason := by
  obtain ⟨tick, intake, x, rfl⟩ := aside
  exact { ends with }

theorem book (aside : s.Aside u) : u.book = s.book := by
  obtain ⟨tick, intake, x, rfl⟩ := aside
  rfl

end State.Aside

theorem State.placedWork_of_work {s : State} {i : LaneNo} {w : LaneWork} {cycle : CycleNo} {kind : GrantKind}
    (held : s.work i = some w) (placed : w.shot = .placed cycle kind) : s.placedWork i w.tag cycle kind = some w := by
  simp only [State.placedWork, held, placed, and_self, if_true]

/-- The outcome that a close delivers is the one that the statements name. -/
theorem Window.outcome_eq {w : Window} {o : CloseOutcome} (unclosed : w.state ≠ .closed)
    (quality : ∀ q, w.state = .matched → w.quality = some q → o = .quality q) (miss : w.state = .opened → o = .miss w.sighted)
    (matched : w.state = .matched → w.quality.isSome = true) : w.outcome = o := by
  unfold Window.outcome
  cases state : w.state with
  | opened => exact (miss state).symm
  | closed => exact absurd state unclosed
  | matched =>
    obtain ⟨q, found⟩ := Option.isSome_iff_exists.mp (matched state)
    rw [found]
    exact (quality q state found).symm

/-- The command settles the grant in the stage of the lane's work, in a state that is otherwise as before. -/
theorem State.Settles.exec_eq {s : State} {i : LaneNo} {work : LaneWork} {cycle : CycleNo} {e : Instr} {o : CloseOutcome}
    {a : Option CaptureAnswer} (settles : s.Settles i work cycle e o a) (held : s.work i = some work) :
    ∃ u : State, s.Aside u ∧
      exec e s = .next (u.settleStage i work cycle { result := work.held.result, answer := a, close := some o } o).chooseAgain := by
  cases settles with
  | @close plan rest j w _ next owner tag ofCycle placed answered quality miss matched =>
    refine ⟨s.closedAt plan rest j w, ⟨_, _, _, rfl⟩, ?_⟩
    refine congrArg (fun u : State => Host.Outcome.next u.chooseAgain) ?_
    rw [State.closeNext_of_next next, Window.outcome_eq next.unclosed quality miss matched]
    have heldHere : (s.closedAt plan rest j w).work i = some work := held
    simp only [State.deliverClose, owner, tag, State.laneClose, ofCycle, State.placedWork_of_work heldHere placed]
    refine State.settleIfDue_settles _ i work cycle rfl fun asked => ?_
    cases result : work.held.result with
    | none => simp [HeldGrant.captureAsked, result] at asked
    | some r => exact answered r result (by simpa [HeldGrant.captureAsked, result] using asked)
  | @answer raw c r _ level converting kept owner tag ofCycle placed result asked closed isLevel =>
    refine ⟨{ s with line.tick := conversionEnds c.begun c.window c.step, conv.state := .idle }, ⟨_, _, _, rfl⟩, ?_⟩
    refine congrArg (fun u : State => Host.Outcome.next u.chooseAgain) ?_
    have asks : work.held.captureAsked = true := by simp [HeldGrant.captureAsked, result, asked]
    have heldHere : State.work { s with line.tick := conversionEnds c.begun c.window c.step, conv.state := .idle } i = some work :=
      held
    simp only [State.endConversion, converting, State.endCapture, kept, Bool.false_eq_true, if_false, State.answerCapture, owner,
      tag, ofCycle, ← rawLevel_levelOf isLevel, State.laneCapture, State.placedWork_of_work heldHere placed, asks, if_true, ← closed]
    exact State.settleIfDue_settles _ i work cycle closed fun _ => rfl

/-! ## The OFFER stage (R125) -/

/-- A lane that posts a one-shot leaves its record and the line notices as they were. -/
theorem State.shotPosted {s : State} (running : s.line.state = .running) (i : LaneNo) (w : LaneWork) (e : OneShot) {t : Tag}
    {h : Terminal} (record : s.term t = some h) :
    (s.lanePostShot i w e).term t = some h ∧ notNoted s (s.lanePostShot i w e) t ∧
      (s.lanePostShot i w e).line.notices = s.line.notices ∧
      ∃ mark, s.ShotPosts (s.lanePostShot i w e) e mark ∧ (s.lanePostShot i w e).work i = some { w with shot := mark } := by
  obtain ⟨posts, book, line⟩ := State.lanePostShot_posts running i w e
  exact ⟨(State.term_of_book book t).trans record, notNoted_of_book_eq book t, congrArg LineTimer.notices line, posts⟩

/-- A lane that posts a line notice leaves its record and the one-shots as they were. -/
theorem State.noticePosted {s : State} (running : s.line.state = .running) (i : LaneNo) (w : LaneWork) (body : NoticeBody) {t : Tag}
    {h : Terminal} (record : s.term t = some h) :
    (s.lanePostNotice i w body).term t = some h ∧ notNoted s (s.lanePostNotice i w body) t ∧
      (s.lanePostNotice i w body).planner.shots = s.planner.shots ∧
      ∃ mark, s.LanePosts (s.lanePostNotice i w body) i body mark ∧
        (s.lanePostNotice i w body).work i = some { w with notice := mark } := by
  obtain ⟨posts, book, planner⟩ := State.lanePostNotice_posts running i w body
  exact ⟨(State.term_of_book book t).trans record, notNoted_of_book_eq book t, congrArg Planner.shots planner, posts⟩

theorem failReason_of_endsFor {kind : FailKind} {reason : Reason} (ends : EndsFor kind reason) : failReason kind = reason := by
  cases ends <;> rfl

theorem State.settleStage_offer (s : State) (i : LaneNo) {w : LaneWork} {left : Nat} (stage : w.stage = .offer left) (cycle : CycleNo)
    (held : HeldGrant) (o : CloseOutcome) :
    s.settleStage i w cycle held o = s.settleOffer i { w with shot := .absent, held := .empty } left held o := by
  unfold State.settleStage
  rw [stage]

/-- The last failure of the OFFER stage ends the lane. -/
theorem State.offerFailure_last (s : State) (i : LaneNo) (w : LaneWork) {left : Nat} (last : left ≤ 1) (kind : FailKind) :
    s.offerFailure i w left kind = s.laneFail i { w with stage := .offer (left - 1), lastFailure := some kind } (failReason kind) := by
  simp only [State.offerFailure, Nat.sub_eq_zero_of_le last, if_true]

theorem State.offerFailure_again {s : State} (i : LaneNo) {w : LaneWork} {left : Nat} (more : 1 < left) (kind : FailKind)
    {h : Terminal} (record : s.term w.tag = some h) :
    s.offerFailure i w left kind =
      s.lanePostNotice i { w with stage := .offer (left - 1), lastFailure := some kind } (.tagOffer h.serial w.tag) := by
  simp only [State.offerFailure, record, if_neg (show ¬left - 1 = 0 by omega)]

/-- A failure of an OFFER REPLY, as the stage takes it. -/
theorem State.settleOffer_fails {s : State} (i : LaneNo) {w : LaneWork} (left : Nat) {held : HeldGrant} {h : Terminal}
    {o : CloseOutcome} {kind : FailKind} (record : s.term w.tag = some h) (fails : OfferFails h.serial held.result o kind) :
    s.settleOffer i w left held o = s.offerFailure i w left kind := by
  cases fails with
  | miss b => rfl
  | broken q ne =>
    cases q with
    | clean => exact absurd rfl ne
    | corrupt | overlong => rfl
  | stranger x result other =>
    simp only [State.settleOffer, result, record, Option.bind_some, Option.map_some]
    rw [if_neg (fun both => other both.2)]

/-- A CLEAN burst with the record's serial echoed opens PROBE. -/
theorem State.settleOffer_opens {s : State} (i : LaneNo) {w : LaneWork} (left : Nat) {held : HeldGrant} {h : Terminal}
    {r : BurstResult} (record : s.term w.tag = some h) (result : held.result = some r) (echoed : r.serialEcho = some h.serial) :
    s.settleOffer i w left held (.quality .clean) =
      s.lanePostShot i
        { w with
          stage := .probe
            { count := (s.roster.profiles.get h.profile).probes, remaining := (s.roster.profiles.get h.profile).probes,
              extensions := 0, misses := 0, seq := false, mismatches := 0, echoes := [], levels := [] }
          lastFailure := none }
        (probeEntry i w.tag h.coarse false) := by
  simp only [State.settleOffer, result, record, Option.bind_some, Option.map_some, echoed, Option.isSome_some, and_self, if_true,
    State.enterProbe, State.postProbe, State.laneShot]
  rfl

/-- Settles O44. -/
theorem offerReplySettles : Obligations.OfferReplySettles := by
  intro s i work h trim left cycle e o a working stage settles
  obtain ⟨u, aside, served⟩ := settles.exec_eq working.held
  obtain ⟨running, -, record, engaged⟩ := aside.working working
  refine ⟨_, served, aside.onlyLane (State.LaneActs.settleStage u i work cycle _ o).onlyLane, ?_, ?_⟩
  · rintro r rfl result echoed
    rw [State.settleStage_offer u i stage, State.settleOffer_opens i left (w := { work with shot := .absent, held := .empty })
      (held := { result := work.held.result, answer := a, close := _ }) record result echoed]
    obtain ⟨tick, intake, x, rfl⟩ := aside
    obtain ⟨term, noted, notices, mark, posts, new⟩ := State.shotPosted running i _ _ record
    exact ⟨term, noted, notices, _, mark, rfl, posts, new⟩
  · intro kind reason fails endsFor
    rw [State.settleStage_offer u i stage, State.settleOffer_fails i left (w := { work with shot := .absent, held := .empty })
      (held := { result := work.held.result, answer := a, close := _ }) record fails]
    refine ⟨fun last => ?_, fun more => ?_⟩
    · rw [State.offerFailure_last u i _ last, failReason_of_endsFor endsFor]
      exact aside.laneEnds (State.laneEnds_laneFail running record engaged reason)
    · rw [State.offerFailure_again i (w := { work with shot := .absent, held := .empty }) more kind record]
      obtain ⟨tick, intake, x, rfl⟩ := aside
      exact State.noticePosted running i _ _ record

/-! ## The PROBE stage (R126 to R131) -/

theorem State.settleStage_probe (s : State) (i : LaneNo) {w : LaneWork} {p : ProbeWork} (stage : w.stage = .probe p) (cycle : CycleNo)
    (held : HeldGrant) (o : CloseOutcome) :
    s.settleStage i w cycle held o = s.settleProbe i { w with shot := .absent, held := .empty } p held o := by
  unfold State.settleStage
  rw [stage]

/-- The wrong sequence bit, the second time, and the third miss in a row: what ends the lane as the grant settles, and the reason. -/
inductive ProbeEnds (p1 : ProbeWork) (o : CloseOutcome) : Option FailKind → Reason → Prop
  | sequence (kind : FailKind) : o = .quality .clean → 2 ≤ p1.mismatches → ProbeEnds p1 o (some kind) .sequence
  | misses (kind : FailKind) (reason : Reason) : EndsFor kind reason → ¬(o = .quality .clean ∧ 2 ≤ p1.mismatches) →
      3 ≤ p1.misses → ProbeEnds p1 o (some kind) reason

/-- A probe grant whose settling ends the lane. -/
theorem State.settleProbe_ends {s : State} (i : LaneNo) (w : LaneWork) {p p1 : ProbeWork} {held : HeldGrant} {o : CloseOutcome}
    {failed : Option FailKind} {reason : Reason} (becomes : p.Becomes s.line.settings.ref held.result held.answer o p1 failed)
    (ends : ProbeEnds p1 o failed reason) :
    ∃ w', w'.tag = w.tag ∧ s.settleProbe i w p held o = s.laneFail i w' reason := by
  cases becomes with
  | echo => cases ends
  | sequence x result wrong =>
    simp only [State.settleProbe, result, if_neg wrong]
    cases ends with
    | sequence _ _ twice => exact ⟨w, rfl, if_pos twice⟩
    | misses _ _ endsFor once thrice =>
      cases endsFor
      rw [if_neg fun twice => once ⟨rfl, twice⟩]
      exact ⟨_, by rfl, if_pos thrice⟩
  | corrupt =>
    cases ends with
    | sequence _ clean _ => cases clean
    | misses _ _ endsFor _ thrice =>
      cases endsFor
      exact ⟨_, by rfl, if_pos thrice⟩
  | miss b =>
    cases ends with
    | sequence _ clean _ => cases clean
    | misses _ _ endsFor _ thrice =>
      cases endsFor
      exact ⟨_, by rfl, if_pos thrice⟩

/-- A probe grant whose settling leaves the lane in its stage. -/
theorem State.settleProbe_goesOn {s : State} (i : LaneNo) (w : LaneWork) {p p1 : ProbeWork} {held : HeldGrant} {o : CloseOutcome}
    {failed : Option FailKind} (becomes : p.Becomes s.line.settings.ref held.result held.answer o p1 failed)
    (stays : failed = none ∨ (p1.misses < 3 ∧ ¬(o = .quality .clean ∧ 2 ≤ p1.mismatches))) :
    s.settleProbe i w p held o =
      s.probeGoOn i { w with stage := .probe p1, lastFailure := if failed.isSome then failed else w.lastFailure } p1 := by
  cases becomes with
  | echo x levels result inTurn gathered kept =>
    have same : p.valid s.line.settings x held.answer =
        { p with
          echoes := p.echoes ++ [(x.position : Int) + s.line.settings.ref - x.grant.start]
          levels := levels
          seq := !p.seq
          remaining := p.remaining - 1
          misses := 0 } := by
      unfold ProbeWork.valid
      congr 1
      split
      · next v level => exact (gathered v level).symm
      · next none => exact (kept none).symm
    simp only [State.settleProbe, result, inTurn, if_true, same]
    rfl
  | sequence x result wrong =>
    obtain ⟨few, first⟩ := stays.resolve_left nofun
    simp only [State.settleProbe, result, if_neg wrong, State.probeFailure]
    rw [if_neg fun twice => first ⟨rfl, twice⟩, if_neg (Nat.not_le.mpr few)]
    rfl
  | corrupt =>
    obtain ⟨few, -⟩ := stays.resolve_left nofun
    simp only [State.settleProbe, State.probeFailure]
    rw [if_neg (Nat.not_le.mpr few)]
    rfl
  | miss b =>
    obtain ⟨few, -⟩ := stays.resolve_left nofun
    simp only [State.settleProbe, State.probeFailure]
    rw [if_neg (Nat.not_le.mpr few)]
    rfl

/-- A probe that remains, or an extension probe, is posted with the sequence bit as it stands. -/
theorem State.probeGoOn_posts {s : State} (i : LaneNo) (w : LaneWork) {p1 p2 : ProbeWork} {h : Terminal}
    (record : s.term w.tag = some h)
    (next : (0 < p1.remaining ∧ p2 = p1) ∨ (p1.remaining = 0 ∧ p1.levels = [] ∧ p1.extensions < 2 ∧
      p2 = { p1 with remaining := 1, extensions := p1.extensions + 1 })) :
    s.probeGoOn i w p1 = s.lanePostShot i { w with stage := .probe p2 } (probeEntry i w.tag h.coarse p2.seq) := by
  have entry (p : ProbeWork) : s.laneShot i w.tag .probe p.seq = probeEntry i w.tag h.coarse p.seq := by
    simp [State.laneShot, record, probeEntry]
  rcases next with ⟨remains, rfl⟩ | ⟨none, unheard, few, rfl⟩
  · simp only [State.probeGoOn, if_pos remains, State.postProbe, entry]
  · simp only [State.probeGoOn, none, Nat.lt_irrefl, if_false, if_pos (And.intro unheard few), State.postProbe, entry]

/-- Settles O45. -/
theorem probeSettles : Obligations.ProbeSettles := by
  intro s i work h trim p p1 cycle e o a failed working stage settles becomes
  obtain ⟨u, aside, served⟩ := settles.exec_eq working.held
  obtain ⟨running, -, record, engaged⟩ := aside.working working
  have becomes' : p.Becomes u.line.settings.ref work.held.result a o p1 failed := by
    obtain ⟨tick, intake, x, rfl⟩ := aside
    exact becomes
  have ended {reason : Reason} (ends : ProbeEnds p1 o failed reason) :
      s.LaneEnds (u.settleStage i work cycle { result := work.held.result, answer := a, close := some o } o) i work.tag h reason := by
    rw [State.settleStage_probe u i stage]
    obtain ⟨w', tag, settled⟩ := State.settleProbe_ends i { work with shot := .absent, held := .empty }
      (held := { result := work.held.result, answer := a, close := some o }) becomes' ends
    rw [settled]
    have ends := State.laneEnds_laneFail (w := w') running (by rw [tag]; exact record) engaged reason
    rw [tag] at ends
    exact aside.laneEnds ends
  refine ⟨_, served, aside.onlyLane (State.LaneActs.settleStage u i work cycle _ o).onlyLane, fun clean fails twice => ?_,
    fun kind reason fails endsFor once thrice => ?_, fun p2 stays next => ?_⟩
  · obtain ⟨kind, rfl⟩ := Option.isSome_iff_exists.mp fails
    exact ended (.sequence kind clean twice)
  · subst fails
    exact ended (.misses kind reason endsFor once thrice)
  · rw [State.settleStage_probe u i stage, State.settleProbe_goesOn i { work with shot := .absent, held := .empty }
      (held := { result := work.held.result, answer := a, close := some o }) becomes' stays,
      State.probeGoOn_posts i { work with
        stage := .probe p1, lastFailure := if failed.isSome then failed else work.lastFailure, shot := .absent, held := .empty }
        record next]
    obtain ⟨tick, intake, x, rfl⟩ := aside
    exact State.shotPosted running i _ _ record

/-! ## The computation (R53 to R57, R131) -/

theorem foldl_max_spec (l : List Int) (x : Int) : l.foldl max x ∈ x :: l ∧ ∀ y ∈ x :: l, y ≤ l.foldl max x := by
  induction l generalizing x with
  | nil => simp
  | cons z l ih =>
    obtain ⟨found, above⟩ := ih (max x z)
    have start := above (max x z) (.head _)
    refine ⟨?_, fun y hy => ?_⟩
    · rcases List.mem_cons.mp found with here | later
      · rw [List.foldl_cons, here]
        rcases max_choice x z with e | e <;> rw [e]
        · exact .head _
        · exact .tail _ (.head _)
      · exact .tail _ (.tail _ later)
    · rcases List.mem_cons.mp hy with rfl | hy
      · exact (le_max_left _ _).trans start
      · rcases List.mem_cons.mp hy with rfl | later
        · exact (le_max_right _ _).trans start
        · exact above y (.tail _ later)

theorem foldl_min_spec (l : List Int) (x : Int) : l.foldl min x ∈ x :: l ∧ ∀ y ∈ x :: l, l.foldl min x ≤ y := by
  induction l generalizing x with
  | nil => simp
  | cons z l ih =>
    obtain ⟨found, below⟩ := ih (min x z)
    have start := below (min x z) (.head _)
    refine ⟨?_, fun y hy => ?_⟩
    · rcases List.mem_cons.mp found with here | later
      · rw [List.foldl_cons, here]
        rcases min_choice x z with e | e <;> rw [e]
        · exact .head _
        · exact .tail _ (.head _)
      · exact .tail _ (.tail _ later)
    · rcases List.mem_cons.mp hy with rfl | hy
      · exact start.trans (min_le_left _ _)
      · rcases List.mem_cons.mp hy with rfl | later
        · exact start.trans (min_le_right _ _)
        · exact below y (.tail _ later)

/-- The spread exceeds a limit where two of the values differ by more. -/
theorem lt_spreadOf_iff {l : List Int} (some : l ≠ []) (limit : Int) :
    limit < spreadOf l ↔ ∃ x ∈ l, ∃ y ∈ l, limit < x - y := by
  cases l with
  | nil => exact absurd rfl some
  | cons z l =>
    obtain ⟨high, above⟩ := foldl_max_spec l z
    obtain ⟨low, below⟩ := foldl_min_spec l z
    refine ⟨fun wide => ⟨_, high, _, low, wide⟩, fun ⟨x, hx, y, hy, wide⟩ => ?_⟩
    have := above x hx
    have := below y hy
    simp only [spreadOf]
    omega

theorem State.laneCompute_fails {s : State} (i : LaneNo) {w : LaneWork} {p : ProbeWork} {h : Terminal} {trim : Option EchoHold}
    (record : s.term w.tag = some h) (engaged : h.phase = .engaged i trim) {reason : Reason}
    (fails : computeOutcome s.line.settings (s.roster.profiles.get h.profile) p = .error reason) :
    s.laneCompute i w p =
      (s.putTerm w.tag (some { h with level := levelStored (.error reason) p h.level })).laneFail i w reason := by
  have outcome : computeOutcome s.line.settings (s.profileOf h) p = .error reason := fails
  simp only [State.laneCompute, State.engagedTo_of_term record engaged, outcome]

theorem State.laneCompute_stores {s : State} (i : LaneNo) {w : LaneWork} {p : ProbeWork} {h : Terminal} {trim : Option EchoHold}
    (record : s.term w.tag = some h) (engaged : h.phase = .engaged i trim) {echo : Int}
    (stores : computeOutcome s.line.settings (s.roster.profiles.get h.profile) p = .ok echo) :
    s.laneCompute i w p =
      (s.putTerm w.tag (some
        { h with
          level := some (meanOf p.levels)
          phase := .engaged i (some ⟨echo, (s.line.settings.ref : Int) - echo⟩) })).lanePostNotice i
        { w with stage := .trim 2 none, lastFailure := none } (.holdoff w.tag ((s.line.settings.ref : Int) - echo)) := by
  have outcome : computeOutcome s.line.settings (s.profileOf h) p = .ok echo := stores
  simp only [State.laneCompute, State.engagedTo_of_term record engaged, outcome]
  rfl

theorem notedOnce_of_notNoted {s v u : State} {t : Tag} (same : notNoted s v t) (noted : notedOnce v u t) : notedOnce s u t :=
  ⟨noted.1, by rw [← same.2]; exact noted.2⟩

theorem notNoted_trans {s v u : State} {t : Tag} (first : notNoted s v t) (second : notNoted v u t) : notNoted s u t :=
  ⟨second.1.trans first.1, second.2.trans first.2⟩

/-- The lane computes once no probe remains, and none is added. -/
theorem State.probeGoOn_computes (s : State) (i : LaneNo) (w : LaneWork) {p : ProbeWork} (none : p.remaining = 0)
    (heard : p.levels ≠ [] ∨ 2 ≤ p.extensions) : s.probeGoOn i w p = s.laneCompute i w p := by
  simp only [State.probeGoOn, none, Nat.lt_irrefl, if_false]
  exact if_neg fun both => heard.elim (fun some => some both.1) (fun two => absurd both.2 (Nat.not_lt.mpr two))

/-- A lane whose computation fails ends, with the level mean stored where the computation reaches it. -/
theorem State.laneEnds_laneCompute {s : State} (i : LaneNo) {w : LaneWork} {p : ProbeWork} {h : Terminal} {trim : Option EchoHold}
    (running : s.line.state = .running) (record : s.term w.tag = some h) (engaged : h.phase = .engaged i trim) {reason : Reason}
    (fails : computeOutcome s.line.settings (s.roster.profiles.get h.profile) p = .error reason) :
    s.LaneEnds (s.laneCompute i w p) i w.tag { h with level := levelStored (.error reason) p h.level } reason := by
  rw [State.laneCompute_fails i record engaged fails]
  have ends := State.laneEnds_laneFail (h := { h with level := levelStored (.error reason) p h.level })
    (s := s.putTerm w.tag (some { h with level := levelStored (.error reason) p h.level }))
    running ((State.term_putTerm s w.tag w.tag _).trans (if_pos rfl)) engaged reason
  exact { ends with noted := notedOnce_of_notNoted (notNoted_putTerm s w.tag w.tag _) ends.noted }

/-- Settles O46. -/
theorem laneComputes : Obligations.LaneComputes := by
  intro s i work h trim p p1 cycle e o a failed prof mean level scattered outside working stage settles becomes stays none heard
    echoes hprof hmean hlevel hscattered houtside
  obtain ⟨u, aside, served⟩ := settles.exec_eq working.held
  obtain ⟨running, -, record, engaged⟩ := aside.working working
  obtain ⟨settings, profiles⟩ : u.line.settings = s.line.settings ∧ u.roster.profiles = s.roster.profiles := by
    obtain ⟨tick, intake, x, rfl⟩ := aside
    exact ⟨rfl, rfl⟩
  have becomes' : p.Becomes u.line.settings.ref work.held.result a o p1 failed := by rw [settings]; exact becomes
  refine ⟨_, served, aside.onlyLane (State.LaneActs.settleStage u i work cycle _ o).onlyLane, ?_⟩
  rw [State.settleStage_probe u i stage, State.settleProbe_goesOn i { work with shot := .absent, held := .empty }
    (held := { result := work.held.result, answer := a, close := some o }) becomes' stays,
    State.probeGoOn_computes u i _ none heard]
  subst hprof
  have wide := hscattered.trans (lt_spreadOf_iff echoes _).symm
  have fails {reason : Reason} (outcome : computeOutcome s.line.settings (s.roster.profiles.get h.profile) p1 = .error reason) :=
    aside.laneEnds (State.laneEnds_laneCompute i (w := { work with
      stage := .probe p1, lastFailure := if failed.isSome then failed else work.lastFailure, shot := .absent, held := .empty })
      running record engaged (p := p1) (reason := reason) (by rw [settings, profiles]; exact outcome))
  have computed := State.laneCompute_stores i (w := { work with
      stage := .probe p1, lastFailure := if failed.isSome then failed else work.lastFailure, shot := .absent, held := .empty })
      record engaged (p := p1) (echo := mean)
  rw [settings, profiles] at computed
  rw [show mean = meanOf p1.echoes from hmean] at houtside computed ⊢
  rw [show level = meanOf p1.levels from hlevel]
  refine ⟨fun far => fails (if_pos (wide.mp far)),
    fun near out => fails ((if_neg (mt wide.mpr near)).trans (if_pos (houtside.mp out))), fun near inside => ?_⟩
  replace near := mt wide.mpr near
  replace inside := mt houtside.mpr inside
  refine ⟨fun unheard => fails ((if_neg near).trans ((if_neg inside).trans (if_pos unheard))), fun some => ⟨fun low => ?_,
    fun notLow high => ?_, fun notLow notHigh => ?_⟩⟩
  · exact fails ((if_neg near).trans ((if_neg inside).trans ((if_neg some).trans (if_pos low))))
  · exact fails ((if_neg near).trans ((if_neg inside).trans ((if_neg some).trans ((if_neg (Int.not_lt.mpr notLow)).trans
      (if_pos high)))))
  · rw [computed ((if_neg near).trans ((if_neg inside).trans ((if_neg some).trans ((if_neg (Int.not_lt.mpr notLow)).trans
      (if_neg (Int.not_lt.mpr notHigh))))))]
    obtain ⟨term, noted, shots, mark, posts, new⟩ := State.noticePosted (s := u.putTerm work.tag (Option.some
      { h with
        level := Option.some (meanOf p1.levels)
        phase := .engaged i (Option.some
          { echo := meanOf p1.echoes, holdoff := (s.line.settings.ref : Int) - meanOf p1.echoes }) }))
      running i _ _ ((State.term_putTerm u work.tag work.tag _).trans (if_pos rfl))
    obtain ⟨tick, intake, x, rfl⟩ := aside
    exact ⟨term, notNoted_trans (notNoted_putTerm _ _ _ _) noted, shots, mark, posts, new⟩

end Sys2Proof.Machine


/-! PROOFS. The TRIM stage (chapter 7), and what a burst that no window takes does (chapter 5). -/

namespace Sys2Proof.Machine

/-! ## The TRIM stage (R133, R134) -/

theorem State.settleStage_trim (s : State) (i : LaneNo) {w : LaneWork} {left : Nat} {last : Option SettledTrim}
    (stage : w.stage = .trim left last) (cycle : CycleNo) (held : HeldGrant) (o : CloseOutcome) :
    s.settleStage i w cycle held o = s.settleTrim i { w with shot := .absent, held := .empty } left cycle held o := by
  unfold State.settleStage
  rw [stage]

theorem trimPasses_iff {ls : LineSettings} {held : HeldGrant} {r : BurstResult} (result : held.result = some r) {point : Nat}
    (aimed : r.grant.point = some point) :
    trimPasses ls held = true ↔ point ≤ r.position + ls.wt ∧ r.position ≤ point + ls.wt := by
  simp only [trimPasses, result, aimed, deviationOf, Option.getD_some, decide_eq_true_eq]
  omega

/-- A failure of a TRIM CHECK, as the stage takes it. -/
theorem State.settleTrim_fails (s : State) (i : LaneNo) (w : LaneWork) (left : Nat) (cycle : CycleNo) {held : HeldGrant}
    {o : CloseOutcome} {kind : FailKind} (fails : TrimFails s.line.settings.wt held.result o kind) :
    s.settleTrim i w left cycle held o =
      s.trimFailure i { w with stage := .trim left (some { cycle := cycle, outcome := o }) } left
        (some { cycle := cycle, outcome := o }) kind := by
  cases fails with
  | miss => rfl
  | broken q ne =>
    cases q with
    | clean => exact absurd rfl ne
    | corrupt | overlong => rfl
  | off x point result aimed far =>
    refine if_neg fun passes => ?_
    have := (trimPasses_iff result aimed).mp passes
    omega

theorem State.trimFailure_last (s : State) (i : LaneNo) (w : LaneWork) {left : Nat} (last : left ≤ 1) (settled : Option SettledTrim)
    (kind : FailKind) :
    s.trimFailure i w left settled kind =
      s.laneFail i { w with stage := .trim (left - 1) settled, lastFailure := some kind } (failReason kind) := by
  simp only [State.trimFailure, Nat.sub_eq_zero_of_le last, if_true]

theorem State.trimFailure_again {s : State} (i : LaneNo) {w : LaneWork} {left : Nat} (more : 1 < left) (settled : Option SettledTrim)
    (kind : FailKind) {h : Terminal} {eh : EchoHold} (record : s.term w.tag = some h) (engaged : h.phase = .engaged i (some eh)) :
    s.trimFailure i w left settled kind =
      s.lanePostNotice i { w with stage := .trim (left - 1) settled, lastFailure := some kind } (.holdoff w.tag eh.holdoff) := by
  simp only [State.trimFailure, State.engagedTo_of_term record engaged, if_neg (show ¬left - 1 = 0 by omega)]

/-- A lane that completes: the record ACTIVE, the lane FREE, and nothing posted (R31, R135). -/
theorem State.laneComplete_completes {s : State} (i : LaneNo) {w : LaneWork} {h : Terminal} {eh : EchoHold}
    (record : s.term w.tag = some h) (engaged : h.phase = .engaged i (some eh)) :
    (s.laneComplete i w).term w.tag = some { h with phase := .active (.start eh s.cycleNo) } ∧
      notedOnce s (s.laneComplete i w) w.tag ∧
      (s.laneComplete i w).lanes.get i = { seizure := (s.lanes.get i).seizure, work := none } ∧
      (s.laneComplete i w).line.notices = s.line.notices ∧ (s.laneComplete i w).roster.waiting = s.roster.waiting := by
  have completed : s.laneComplete i w =
      (s.freeLane i).changeTerm w.tag (some { h with phase := .active (.start eh s.cycleNo) }) := by
    simp only [State.laneComplete, State.engagedTo_freeLane, State.engagedTo_of_term record engaged]
    rfl
  rw [completed]
  refine ⟨State.term_changeTerm_self _ _ _, ?_, ?_, (congrArg (·.line.notices) (State.changeTerm_rest (s.freeLane i) _ _) :),
    (congrArg (·.roster.waiting) (State.changeTerm_rest (s.freeLane i) _ _) :)⟩
  · refine notedOnce_changeTerm (s.freeLane i) w.tag _ fun same => ?_
    rw [show (s.freeLane i).term w.tag = some h from record] at same
    have code := congrArg Visible.state same
    simp [visibleOf, recordStateCode, engaged] at code
  · rw [State.changeTerm_lanes]
    exact Bank.get_update_self _ _ _

/-! ## A report in a frame (R87, R94) -/

/-- The converter is told where a span meets the plan's dark slot. -/
def State.slotTold (s : State) (plan : StoredPlan) (pos length : Nat) : State :=
  if meetsSlot plan.slot pos length then s.intrude plan.cycle else s

theorem meetsSlot_iff (plan : StoredPlan) (pos length : Nat) : meetsSlot plan.slot pos length = true ↔ plan.slotMet pos length := by
  cases slot : plan.slot <;> simp [meetsSlot, StoredPlan.slotMet, slot]

/-- An intrusion touches the calibration, the wish for a slot and the CALIBRATION flag alone. -/
theorem State.slotTold_eq (s : State) (plan : StoredPlan) (pos length : Nat) :
    ∃ calib lastCalib wanted flag, s.slotTold plan pos length =
      { s with conv.calib := calib, conv.lastCalib := lastCalib, planner.slotWanted := wanted, link.kinds.calibration := flag } := by
  have same : ∃ calib lastCalib wanted flag, s =
      { s with conv.calib := calib, conv.lastCalib := lastCalib, planner.slotWanted := wanted, link.kinds.calibration := flag } :=
    ⟨_, _, _, _, rfl⟩
  unfold State.slotTold State.intrude
  split
  · split
    · exact same
    · next c _ =>
      split
      · split
        · by_cases few : c.attempts < 5
          · exact ⟨_, _, _, _, s.failAttempt_again few .light⟩
          · exact ⟨_, _, _, _, s.failAttempt_last (Nat.not_lt.mp few) .light⟩
        · exact same
      · exact same
  · exact same

/-- In RUNNING a report in a frame is judged against its plan. -/
theorem exec_burstReport_of_frame {s : State} {arrival taken : Tick} {header : List Byte} {check overlap : Bool} {r : Report} {k : Nat}
    {plan : StoredPlan} {pos : Nat} (running : s.line.state = .running) (report : r = reportOf arrival header check overlap)
    (frame : s.InFrame arrival k plan pos) :
    exec (.burstReport arrival header check overlap taken) s =
      .next ((State.placeBurst { s with line.tick := taken } k plan r pos).slotTold plan pos r.length).chooseAgain := by
  have at_pos : plan.position s.line.settings.ref arrival = pos := frame.position.symm
  have arrives : r.arrival = arrival := by
    rw [report]
    rfl
  have found := frame.found
  rw [← arrives] at found at_pos
  refine congrArg (fun u : State => Host.Outcome.next u.chooseAgain) ?_
  rw [← report]
  simp only [State.running, running, decide_true, if_true, State.judge, found, frame.stored, at_pos]
  rfl

/-- No OPEN window covers the position: the burst is a stray of its plan. -/
theorem State.placeBurst_stray (s : State) (k : Nat) {plan : StoredPlan} (r : Report) {pos : Nat}
    (shut : ∀ w ∈ plan.windows, w.Covers pos → w.state ≠ .opened) : s.placeBurst k plan r pos = s.stray k plan r := by
  unfold State.placeBurst
  split
  · rfl
  · next j found =>
    split
    · rfl
    · next w window =>
      have covers : w.Covers pos := by
        obtain ⟨hj, holds, -⟩ := List.findIdx?_eq_some_iff_getElem.mp found
        obtain ⟨_, rfl⟩ := List.getElem?_eq_some_iff.mp window
        exact (covers_iff _ _).mp holds
      split
      · next opened => exact absurd opened (shut w (List.mem_of_getElem? window) covers)
      · rfl

/-- The burst lands in an OPEN window of a tagged grant: it is matched. -/
theorem State.placeBurst_matches {s : State} {arrival : Tick} {k pos j : Nat} {plan : StoredPlan} {w : Window}
    (lands : s.Lands arrival k plan pos j w) (opened : w.state = .opened) (tagged : w.grant.kind ≠ .census) (u : State) (r : Report) :
    u.placeBurst k plan r pos = u.matchBurst k j plan w.grant r pos := by
  simp only [State.placeBurst, lands.found, lands.window, opened, if_neg tagged]

/-- The burst lands in an OPEN census window. -/
theorem State.placeBurst_census {s : State} {arrival : Tick} {k pos j : Nat} {plan : StoredPlan} {w : Window}
    (lands : s.Lands arrival k plan pos j w) (opened : w.state = .opened) (census : w.grant.kind = .census) (u : State) (r : Report) :
    u.placeBurst k plan r pos = u.censusBurst k j plan w.grant r pos := by
  simp only [State.placeBurst, lands.found, lands.window, opened, if_pos census]

/-- The first TRIM CHECK window of the burst's tag is the one that a clean TRIM ACK sights. -/
theorem sightedWindow_found {plan : StoredPlan} {r : Report} {j : Nat} {w : Window} (clean : r.check = true ∧ r.overlap = false)
    (ack : r.kind = .trimAck) (window : plan.windows[j]? = some w) (kind : w.grant.kind = .trimCheck) (tag : r.carriesTag w.grant)
    (first : ∀ i v, i < j → plan.windows[i]? = some v → ¬(v.grant.kind = .trimCheck ∧ r.carriesTag v.grant)) :
    plan.windows.findIdx? (sightedWindow r) = some j := by
  have sighted (v : Window) : sightedWindow r v = true ↔ v.grant.kind = .trimCheck ∧ r.carriesTag v.grant := by
    simp [sightedWindow, Report.clean, clean, ack, addressed_iff]
  obtain ⟨hj, rfl⟩ := List.getElem?_eq_some_iff.mp window
  exact List.findIdx?_eq_some_iff_getElem.mpr ⟨hj, (sighted _).mpr ⟨kind, tag⟩,
    fun i hi holds => first i _ hi (List.getElem?_eq_getElem _) ((sighted _).mp holds)⟩

/-- Settles O47. -/
theorem trimCheckSettles : Obligations.TrimCheckSettles := by
  refine ⟨fun s i work h eh left last cycle e o a working stage settles => ?_,
    fun s arrival taken header check overlap r k plan pos j w i work h trim left last sighted report working frame shut check overlap
      ack window kind tag carries first closed unmatched owner stage ofCycle missed => ?_⟩
  · obtain ⟨u, aside, served⟩ := settles.exec_eq working.held
    obtain ⟨running, -, record, engaged⟩ := aside.working working
    have wt : u.line.settings.wt = s.line.settings.wt := by
      obtain ⟨tick, intake, x, rfl⟩ := aside
      rfl
    refine ⟨_, served, aside.onlyLane (State.LaneActs.settleStage u i work cycle _ o).onlyLane, ?_, ?_, ?_⟩
    · rintro r point rfl result aimed near far
      have passes : trimPasses u.line.settings { result := work.held.result, answer := a, close := some (.quality .clean) } = true :=
        (trimPasses_iff result aimed).mpr (by rw [wt]; exact ⟨near, far⟩)
      rw [State.settleStage_trim u i stage]
      simp only [State.settleTrim, passes, if_true]
      obtain ⟨tick, intake, x, rfl⟩ := aside
      exact State.laneComplete_completes i record engaged
    · intro kind reason fails endsFor
      rw [State.settleStage_trim u i stage, State.settleTrim_fails u i _ left cycle
        (held := { result := work.held.result, answer := a, close := some o }) (by rw [wt]; exact fails)]
      refine ⟨fun last => ?_, fun more => ?_⟩
      · rw [State.trimFailure_last u i _ last, failReason_of_endsFor endsFor]
        exact aside.laneEnds (State.laneEnds_laneFail running record engaged reason)
      · rw [State.trimFailure_again i (w := { work with
          stage := .trim left (some { cycle := cycle, outcome := o }), shot := .absent, held := .empty }) more _ kind record engaged]
        obtain ⟨tick, intake, x, rfl⟩ := aside
        exact State.noticePosted running i _ _ record
    · rintro rfl
      rw [State.settleStage_trim u i stage]
      exact aside.laneEnds (State.laneEnds_laneFail running record engaged .trimMismatch)
  · refine ⟨_, exec_burstReport_of_frame working.running report frame, ?_⟩
    rw [State.placeBurst_stray _ k r shut]
    have held : (State.countStray { s with line.tick := taken }).work i = some work := working.held
    have ended : State.stray { s with line.tick := taken } k plan r =
        (State.countStray { s with line.tick := taken }).laneFail i work .trimMismatch := by
      simp only [State.stray, State.sight, sightedWindow_found ⟨check, overlap⟩ ack window kind carries first, window, closed,
        unmatched, State.deliverSighting, owner, tag, State.laneSighting, held, stage, missed, ofCycle, and_self, if_true]
    have ends := State.laneEnds_laneFail (s := State.countStray { s with line.tick := taken }) (w := work) working.running
      working.record working.engaged .trimMismatch
    have strays := congrArg Intake.strays
      (State.laneFail_intake (State.countStray { s with line.tick := taken }) i work .trimMismatch)
    rw [ended]
    obtain ⟨calib, lastCalib, wanted, flag, told⟩ := State.slotTold_eq
      ((State.countStray { s with line.tick := taken }).laneFail i work .trimMismatch) plan pos r.length
    rw [told]
    exact ⟨strays, { ends with }⟩

end Sys2Proof.Machine


/-! PROOFS. The judgement of a burst report (chapter 5). -/

namespace Sys2Proof.Machine

/-! ## The header (R192) -/

theorem leAt_one (bs : List Byte) {off : Nat} {b : Byte} (found : bs[off]? = some b) : leAt bs off 1 = b.toNat := by
  obtain ⟨inside, rfl⟩ := List.getElem?_eq_some_iff.mp found
  rw [leAt, List.drop_eq_getElem_cons inside, List.take_succ_cons, List.take_zero]
  simp [leValue]

theorem namesKind_burstKindOf (code : Byte) : NamesKind code (burstKindOf code.toNat) := by
  by_cases named : 1 ≤ code.toNat ∧ code.toNat ≤ 6
  · have one_of : code = 1 ∨ code = 2 ∨ code = 3 ∨ code = 4 ∨ code = 5 ∨ code = 6 := by bv_omega
    rcases one_of with rfl | rfl | rfl | rfl | rfl | rfl <;> constructor
  · have unknown : burstKindOf code.toNat = .unknown := by
      unfold burstKindOf
      split <;> first | rfl | omega
    rw [unknown]
    exact .unknown code (by omega)

theorem burstKindOf_eq_iff (code : Byte) : (burstKindOf code.toNat = .censusReply ↔ code = 1) ∧
    (burstKindOf code.toNat = .tagAck ↔ code = 2) := by
  have kinds := namesKind_burstKindOf code
  generalize burstKindOf code.toNat = kind at kinds
  cases kinds with
  | unknown _ outside =>
    exact ⟨iff_of_false nofun (by rintro rfl; revert outside; decide), iff_of_false nofun (by rintro rfl; revert outside; decide)⟩
  | _ => decide

theorem toNat_append_eq {m n : Nat} (x : BitVec m) (y : BitVec n) : (x ++ y).toNat = x.toNat * 2 ^ n + y.toNat := by
  rw [BitVec.toNat_append, ← Nat.shiftLeft_add_eq_or_of_lt y.isLt, Nat.shiftLeft_eq]

/-- Four bytes, low byte first, as one word. -/
theorem ofNat_leValue_four (b0 b1 b2 b3 : Byte) : BitVec.ofNat 32 (leValue [b0, b1, b2, b3]) = b3 ++ b2 ++ b1 ++ b0 := by
  apply BitVec.eq_of_toNat_eq
  simp only [toNat_append_eq, BitVec.toNat_ofNat, leValue, List.foldr]
  omega

theorem readsHeader_reportOf (arrival : Tick) (code a0 a1 a2 a3 l0 l1 status e0 e1 e2 e3 : Byte) (check overlap : Bool) :
    ReadsHeader arrival code a0 a1 a2 a3 l0 l1 status e0 e1 e2 e3 check overlap
      (reportOf arrival [code, a0, a1, a2, a3, l0, l1, status, e0, e1, e2, e3] check overlap) := by
  have kind : leAt [code, a0, a1, a2, a3, l0, l1, status, e0, e1, e2, e3] 0 1 = code.toNat := leAt_one _ rfl
  have byte : leAt [code, a0, a1, a2, a3, l0, l1, status, e0, e1, e2, e3] 1 1 = a0.toNat := leAt_one _ rfl
  have bits : leAt [code, a0, a1, a2, a3, l0, l1, status, e0, e1, e2, e3] 7 1 = status.toNat := leAt_one _ rfl
  have declared : leAt [code, a0, a1, a2, a3, l0, l1, status, e0, e1, e2, e3] 5 2 = l0.toNat + 256 * l1.toNat := by
    change leValue [l0, l1] = _
    simp only [leValue, List.foldr]
    omega
  obtain ⟨isReply, isAck⟩ := burstKindOf_eq_iff code
  simp only [reportOf, kind, byte, bits, declared, BitVec.ofNat_toNat, BitVec.setWidth_eq]
  refine ⟨⟨rfl, rfl⟩, namesKind_burstKindOf code, ⟨fun reply => ?_, fun other => ?_⟩, ⟨fun low high => ?_, fun some => ?_⟩,
    ⟨rfl, rfl, rfl⟩, fun ack => ?_, fun other => ?_⟩
  · rw [if_pos (isReply.mpr reply)]
    exact congrArg Address.serial (ofNat_leValue_four a0 a1 a2 a3)
  · exact if_neg (mt isReply.mp other)
  · subst low high
    exact ⟨rfl, by simp⟩
  · have ne : l0.toNat + 256 * l1.toNat ≠ 0 := by bv_omega
    exact ⟨if_neg ne, by rw [bne_iff_ne.mpr ne, Bool.and_true]⟩
  · rw [if_pos (isAck.mpr ack)]
    exact congrArg Option.some (ofNat_leValue_four e0 e1 e2 e3)
  · exact if_neg (mt isAck.mp other)

/-! ## Strays (R93 to R97) -/

theorem clean_iff (r : Report) : r.clean = true ↔ r.check = true ∧ r.overlap = false := by
  simp [Report.clean]

/-- A burst that is no clean TRIM ACK sights nothing. -/
theorem State.sight_none (s : State) (k : Nat) (plan : StoredPlan) {r : Report}
    (no : ¬(r.check = true ∧ r.overlap = false ∧ r.kind = .trimAck)) : s.sight k plan r = s := by
  have none : plan.windows.findIdx? (sightedWindow r) = none := by
    refine List.findIdx?_eq_none_iff.mpr fun w _ => Bool.eq_false_iff.mpr fun sighted => no ?_
    simp only [sightedWindow, Bool.and_eq_true, decide_eq_true_eq, clean_iff] at sighted
    exact ⟨sighted.1.1.2.1, sighted.1.1.2.2, sighted.1.2⟩
  simp only [State.sight, none]

theorem State.slotTold_none (s : State) {plan : StoredPlan} {pos length : Nat} (clear : ¬plan.slotMet pos length) :
    s.slotTold plan pos length = s := if_neg (mt (meetsSlot_iff plan pos length).mp clear)

/-- The window at place `j` of the plan at place `k` of the store becomes `f` of itself. -/
theorem State.updateWindow_eq {s : State} {k j : Nat} {plan : StoredPlan} {w : Window} (stored : s.intake.store[k]? = some plan)
    (window : plan.windows[j]? = some w) (f : Window → Window) :
    s.updatePlan k (fun p => p.updateWindow j f) =
      { s with intake.store := s.intake.store.set k { plan with windows := plan.windows.set j (f w) } } := by
  simp only [State.updatePlan, StoredPlan.updateWindow, modify_eq_set_of_getElem? stored, modify_eq_set_of_getElem? window]
  rfl

theorem State.sight_strays (s : State) (k : Nat) (plan : StoredPlan) (r : Report) : (s.sight k plan r).intake.strays = s.intake.strays := by
  unfold State.sight
  split
  · rfl
  · split
    · rfl
    · split
      · rfl
      · rw [State.deliverSighting_intake]
      · rfl

/-- An OPEN TRIM CHECK window of the burst's tag keeps the sighting. -/
theorem State.sight_keeps {s : State} {k j : Nat} {plan : StoredPlan} {r : Report} {w : Window}
    (stored : s.intake.store[k]? = some plan) (window : plan.windows[j]? = some w)
    (found : plan.windows.findIdx? (sightedWindow r) = some j) (opened : w.state = .opened) :
    s.sight k plan r =
      { s with intake.store := s.intake.store.set k { plan with windows := plan.windows.set j { w with sighted := true } } } := by
  refine Eq.trans ?_ (State.updateWindow_eq stored window fun x => { x with sighted := true })
  simp only [State.sight, found, window, opened]

/-- A report in no stored frame is a stray and no more. -/
theorem State.judge_of_no_frame {s : State} {r : Report}
    (outside : ∀ p ∈ s.intake.store, p.len ≤ (r.arrival - (p.start + BitVec.ofNat 32 s.line.settings.ref)).toNat) :
    s.judge r = s.countStray := by
  have none : (s.intake.store.findIdx? fun p => p.holds s.line.settings.ref r.arrival) = none := by
    refine List.findIdx?_eq_none_iff.mpr fun p hp => ?_
    simpa [StoredPlan.holds, StoredPlan.position, tickDiff] using outside p hp
  simp only [State.judge, none]

/-- A burst matched: its window MATCHED with the quality, no other touched, and no stray counted. -/
theorem State.matchBurst_intake_eq {s : State} {k j : Nat} {plan : StoredPlan} {w : Window} (stored : s.intake.store[k]? = some plan)
    (window : plan.windows[j]? = some w) (r : Report) (pos : Nat) :
    (s.matchBurst k j plan w.grant r pos).intake =
      { s.intake with
        store := s.intake.store.set k
          { plan with
            windows := plan.windows.set j { w with state := .matched, quality := some (qualityOf r w.grant pos) } } } := by
  unfold State.matchBurst
  dsimp only
  split
  · rw [State.requestCapture_intake, State.deliverBurst_intake, State.updateWindow_eq stored window]
    rfl
  · rw [State.deliverBurst_intake, State.updateWindow_eq stored window]
    rfl

/-- Settles O37. -/
theorem burstReportIsJudged : Obligations.BurstReportIsJudged := by
  intro s arrival taken header check overlap r report
  refine ⟨?_, fun off => ?_, fun running => ⟨fun outside => ?_, fun k plan pos frame shut => ?_,
    fun k plan pos j w lands opened => ⟨fun tagged quality judged => ?_, fun census clear => ⟨fun dirty => ?_, fun checked alone other stranger => ?_⟩⟩⟩⟩
  · rintro code a0 a1 a2 a3 l0 l1 status e0 e1 e2 e3 rfl
    exact report ▸ readsHeader_reportOf arrival code a0 a1 a2 a3 l0 l1 status e0 e1 e2 e3 check overlap
  · refine congrArg (fun u : State => Host.Outcome.next u.chooseAgain) (if_neg ?_)
    simpa [State.running] using off
  · refine congrArg (fun u : State => Host.Outcome.next u.chooseAgain) ((if_pos ?_).trans ?_)
    · simpa [State.running] using running
    · exact State.judge_of_no_frame outside
  · refine ⟨_, exec_burstReport_of_frame running report frame, ?_⟩
    rw [State.placeBurst_stray _ k r shut]
    obtain ⟨calib, lastCalib, wanted, flag, told⟩ := State.slotTold_eq (State.stray { s with line.tick := taken } k plan r) plan pos r.length
    have tick : (State.stray { s with line.tick := taken } k plan r).line.tick = taken :=
      congrArg LineTimer.tick (State.stray_lineSide _ k plan r)
    have strays : (State.stray { s with line.tick := taken } k plan r).intake.strays = s.intake.strays + 1 :=
      State.sight_strays _ k plan r
    have sup := State.stray_sup { s with line.tick := taken } k plan r
    have census := State.stray_census { s with line.tick := taken } k plan r
    refine ⟨?_, ?_, ?_, ?_, fun no => ?_, fun j w checked alone ack window kind carries opened first => ?_⟩
    · rw [told]; exact tick
    · rw [told]; exact strays
    · rw [told]; exact sup
    · rw [told]; exact census
    · have nothing : State.stray { s with line.tick := taken } k plan r = State.countStray { s with line.tick := taken } :=
        State.sight_none _ k plan no
      refine ⟨?_, ?_, ?_, ?_, fun clear => ?_⟩
      · rw [told, nothing]; rfl
      · rw [told, nothing]; rfl
      · rw [told, nothing]; rfl
      · rw [told, nothing]; rfl
      · rw [State.slotTold_none _ clear, nothing]; rfl
    · have kept := State.sight_keeps (s := State.countStray { s with line.tick := taken }) frame.stored window
        (sightedWindow_found ⟨checked, alone⟩ ack window kind carries first) opened
      refine ⟨?_, ?_, ?_⟩
      · rw [told, State.stray, kept]; rfl
      · rw [told, State.stray, kept]; rfl
      · rw [told, State.stray, kept]; rfl
  · refine ⟨_, exec_burstReport_of_frame running report lands.frame, ?_⟩
    rw [State.placeBurst_matches lands opened tagged, (judged_iff _ _ _ _).mp judged]
    obtain ⟨calib, lastCalib, wanted, flag, told⟩ := State.slotTold_eq
      (State.matchBurst { s with line.tick := taken } k j plan w.grant r pos) plan pos r.length
    have tick := congrArg LineTimer.tick (State.matchBurst_lineSide { s with line.tick := taken } k j plan w.grant r pos)
    have intake := State.matchBurst_intake_eq (s := { s with line.tick := taken }) lands.frame.stored lands.window r pos
    rw [told]
    exact ⟨tick, (congrArg Intake.strays intake :), (congrArg Intake.store intake :)⟩
  · rw [exec_burstReport_of_frame running report lands.frame, State.placeBurst_census lands opened census,
      State.slotTold_none _ clear]
    refine congrArg (fun u : State => Host.Outcome.next u.chooseAgain) ((if_pos ?_).trans
      (State.updateWindow_eq (s := { s with line.tick := taken }) lands.frame.stored lands.window _))
    rcases dirty with h | h <;> simp [Report.clean, h]
  · rw [exec_burstReport_of_frame running report lands.frame, State.placeBurst_census lands opened census,
      State.slotTold_none _ clear]
    have no : ¬(r.check = true ∧ r.overlap = false ∧ r.kind = .trimAck) := fun all => other all.2.2
    have nothing : State.stray { s with line.tick := taken } k plan r = State.countStray { s with line.tick := taken } :=
      State.sight_none _ k plan no
    refine congrArg (fun u : State => Host.Outcome.next u.chooseAgain) (Eq.trans ?_ nothing)
    unfold State.censusBurst
    rw [if_neg (by simp [Report.clean, checked, alone])]
    split
    · next serial isReply address =>
      refine if_neg fun matching => ?_
      rcases stranger with notReply | ⟨x, same, differs⟩
      · exact notReply isReply
      · rw [address] at same
        cases same
        exact differs matching
    · rfl

end Sys2Proof.Machine


/-! PROOFS. Captures, intrusions, and the bursts that reach a lane or the Supervisor (chapters 5, 7, 8 and 9). -/

namespace Sys2Proof.Machine

/-! ## What of the converter a burst reaches (R91, R153) -/

/-- The converter, the wish for a dark slot and the CALIBRATION flag. -/
def State.calibSide (s : State) : Converter × Bool × Bool := (s.conv, s.planner.slotWanted, s.link.kinds.calibration)

theorem State.calibSide_of_elsewhere {s u : State} (h : u.elsewhere = s.elsewhere) : u.calibSide = s.calibSide :=
  (congrArg State.calibSide h : u.elsewhere.calibSide = s.elsewhere.calibSide)

theorem State.elsewhere_supBurst (s : State) (t : Tag) (r : BurstResult) : (s.supBurst t r).elsewhere = s.elsewhere := by
  unfold State.supBurst State.parkPowerLoss State.returnClean
  split
  · split
    · split
      · exact State.elsewhere_parkRecord _ _ _ _ _
      · split <;> rfl
    · split
      · exact State.elsewhere_parkRecord _ _ _ _ _
      · split
        · split
          · exact State.elsewhere_changeTerm _ _ _
          · exact State.elsewhere_changeTerm _ _ _
          · rfl
        · rfl
    · rfl
  · rfl

theorem State.elsewhere_deliverBurst (s : State) (g : Grant) (r : BurstResult) : (s.deliverBurst g r).elsewhere = s.elsewhere := by
  unfold State.deliverBurst
  split
  · exact (State.LaneActs.laneBurst s _ _ r).elsewhere
  · exact s.elsewhere_supBurst _ r
  · rfl

theorem State.elsewhere_deliverSighting (s : State) (g : Grant) (cycle : CycleNo) :
    (s.deliverSighting g cycle).elsewhere = s.elsewhere := by
  unfold State.deliverSighting
  split
  · exact (State.LaneActs.laneSighting s _ _ cycle).elsewhere
  · rfl

theorem State.calibSide_stray (s : State) (k : Nat) (plan : StoredPlan) (r : Report) : (s.stray k plan r).calibSide = s.calibSide := by
  unfold State.stray State.sight
  split
  · rfl
  · split
    · rfl
    · split
      · rfl
      · exact (State.calibSide_of_elsewhere (s.countStray.elsewhere_deliverSighting _ _) : _ = s.countStray.calibSide)
      · rfl

theorem State.supCapture_refusal (s : State) (t : Tag) : s.supCapture t .refusal = s := by
  unfold State.supCapture
  cases s.term t <;> rfl

/-- A refusal is counted and told to the owner; nothing else is touched. -/
theorem State.elsewhere_refuseCapture (s : State) (owner : Owner) (t : Tag) (cycle : CycleNo) :
    (s.refuseCapture owner t cycle).elsewhere = s.countRefused.elsewhere := by
  unfold State.refuseCapture State.answerCapture
  split
  · exact (State.LaneActs.laneCapture s.countRefused _ t cycle .refusal).elsewhere
  · rw [State.supCapture_refusal]
  · rfl

/-- The capture that an IDLE converter takes for a burst whose first bit came at `begun`. -/
def Converter.capture (v : Converter) (owner : Owner) (t : Tag) (cycle : CycleNo) (begun : Tick) : Capture :=
  { owner := owner, tag := t, cycle := cycle, begun := begun, window := sampleWindow v.windowCode, step := stepTime v.stepCode,
    offset := v.offset, discard := false }

theorem State.requestCapture_taken {s : State} (idle : s.conv.state = .idle) {begun : Tick}
    (early : (s.line.tick - begun).toNat < sampleWindow s.conv.windowCode) (owner : Owner) (t : Tag) (cycle : CycleNo) :
    s.requestCapture owner t cycle begun = s.setConvState (.sampling (s.conv.capture owner t cycle begun)) := by
  simp only [State.requestCapture, idle]
  exact if_pos early

theorem State.requestCapture_refused {s : State} {begun : Tick}
    (no : s.conv.state ≠ .idle ∨ sampleWindow s.conv.windowCode ≤ (s.line.tick - begun).toNat) (owner : Owner) (t : Tag)
    (cycle : CycleNo) : s.requestCapture owner t cycle begun = s.refuseCapture owner t cycle := by
  unfold State.requestCapture
  split
  · next idle => exact if_neg (Nat.not_lt.mpr (no.resolve_left fun busy => busy idle))
  · rfl

theorem sampleWindow_eq (code : Fin 4) : sampleWindow code = [32, 64, 128, 192].getD code.val 0 := by
  revert code
  decide

theorem stepTime_eq (code : Fin 3) : stepTime code = [4, 16, 64].getD code.val 0 := by
  revert code
  decide

/-! ## Hearings and the converter -/

theorem State.calibSide_hear (s : State) (serial : Serial) (coarse : Int) : (s.hear serial coarse).1.calibSide = s.calibSide := by
  have posted (body : NoticeBody) : (s.rosterPost body).calibSide = s.calibSide :=
    State.calibSide_of_elsewhere (s.elsewhere_rosterPost body)
  have changed (t : Tag) (h : Option Terminal) : (s.changeTerm t h).calibSide = s.calibSide :=
    State.calibSide_of_elsewhere (s.elsewhere_changeTerm t h)
  have stranger (reason : StrangerReason) : (s.refuseStranger serial reason).calibSide = s.calibSide := by
    unfold State.refuseStranger
    dsimp only
    split
    · exact posted _
    · split <;> exact posted _
  have new : (s.hearNew serial coarse).1.calibSide = s.calibSide := by
    unfold State.hearNew
    dsimp only
    split
    · exact changed _ _
    · split
      · exact stranger _
      · split
        · exact changed _ _
        · exact stranger _
  unfold State.hear
  split
  · exact posted _
  · split
    · split
      · unfold State.hearHeld
        split
        · rfl
        · rfl
        · rfl
        · rfl
        · split
          · exact posted _
          · split
            · exact changed _ _
            · exact posted _
      · exact new
    · exact new

theorem State.calibSide_censusBurst (s : State) (k j : Nat) (plan : StoredPlan) (g : Grant) (r : Report) (p : Nat) :
    (s.censusBurst k j plan g r p).calibSide = s.calibSide := by
  unfold State.censusBurst
  split
  · rfl
  · split
    · split
      · exact s.calibSide_hear _ _
      · exact s.calibSide_stray k plan r
    · exact s.calibSide_stray k plan r

/-- The burst of a tagged grant, its window MATCHED and its result with the owner. -/
def State.delivered (s : State) (k j : Nat) (plan : StoredPlan) (g : Grant) (r : Report) (p : Nat) : State :=
  (s.updatePlan k fun x => x.updateWindow j fun w => { w with state := .matched, quality := some (qualityOf r g p) }).deliverBurst g
    (resultOf r g plan.cycle p)

theorem State.calibSide_delivered (s : State) (k j : Nat) (plan : StoredPlan) (g : Grant) (r : Report) (p : Nat) :
    (s.delivered k j plan g r p).calibSide = s.calibSide :=
  (State.calibSide_of_elsewhere (State.elsewhere_deliverBurst _ g _) :)

theorem State.tick_delivered (s : State) (k j : Nat) (plan : StoredPlan) (g : Grant) (r : Report) (p : Nat) :
    (s.delivered k j plan g r p).line.tick = s.line.tick :=
  (congrArg LineTimer.tick (State.deliverBurst_lineSide _ g _) :)

theorem State.matchBurst_unasked (s : State) (k j : Nat) (plan : StoredPlan) {g : Grant} {r : Report} {p : Nat}
    (unasked : g.capture = false ∨ ¬Judged r g p .clean) : s.matchBurst k j plan g r p = s.delivered k j plan g r p := by
  have no : (resultOf r g plan.cycle p).captureAsked = false := by
    rcases unasked with h | h
    · simp [resultOf, h]
    · rw [judged_iff] at h
      simp [resultOf, Ne.symm h]
  unfold State.matchBurst
  simp only [no]
  rfl

theorem State.matchBurst_asked (s : State) (k j : Nat) (plan : StoredPlan) {g : Grant} {r : Report} {p : Nat} {t : Tag}
    (tag : g.tag = some t) (marked : g.capture = true) (clean : Judged r g p .clean) :
    s.matchBurst k j plan g r p = (s.delivered k j plan g r p).requestCapture g.owner t plan.cycle r.arrival := by
  have asked : (resultOf r g plan.cycle p).captureAsked = true := by
    simp [resultOf, marked, ((judged_iff r g p _).mp clean).symm]
  unfold State.matchBurst
  simp only [asked, tag]
  rfl

/-- The burst lands in an OPEN window, or is a stray of its plan. -/
theorem State.placeBurst_cases {s : State} {arrival : Tick} {k pos : Nat} {plan : StoredPlan} (frame : s.InFrame arrival k plan pos)
    (r : Report) : (∃ j w, s.Lands arrival k plan pos j w ∧ w.state = .opened) ∨ ∀ u : State, u.placeBurst k plan r pos = u.stray k plan r := by
  cases found : plan.windows.findIdx? fun w => w.grant.contains pos with
  | none => exact .inr fun u => by simp only [State.placeBurst, found]
  | some j =>
    obtain ⟨hj, holds, before⟩ := List.findIdx?_eq_some_iff_getElem.mp found
    have window : plan.windows[j]? = some plan.windows[j] := List.getElem?_eq_getElem hj
    cases state : plan.windows[j].state with
    | opened =>
      refine .inl ⟨j, plan.windows[j], ⟨frame, window, (covers_iff _ _).mp holds, fun i v hi hv => ?_⟩, state⟩
      obtain ⟨_, rfl⟩ := List.getElem?_eq_some_iff.mp hv
      exact mt (covers_iff _ _).mpr (by simpa using before i hi)
    | matched => exact .inr fun u => by simp only [State.placeBurst, found, window, state]
    | closed => exact .inr fun u => by simp only [State.placeBurst, found, window, state]

/-! ## The converter and a burst (R91, R94, R153 to R155, R163) -/

theorem State.calibSide_refuseCapture (s : State) (owner : Owner) (t : Tag) (cycle : CycleNo) :
    (s.refuseCapture owner t cycle).calibSide =
      ({ s.conv with refused := s.conv.refused + 1 }, s.planner.slotWanted, s.link.kinds.calibration) :=
  (State.calibSide_of_elsewhere (s.elsewhere_refuseCapture owner t cycle) : _ = s.countRefused.calibSide)

/-- A capture request changes the converter's state or its count of refusals. -/
theorem State.calibSide_requestCapture (s : State) (owner : Owner) (t : Tag) (cycle : CycleNo) (begun : Tick) :
    ∃ x n, (s.requestCapture owner t cycle begun).calibSide =
      ({ s.conv with state := x, refused := n }, s.planner.slotWanted, s.link.kinds.calibration) := by
  by_cases no : s.conv.state ≠ .idle ∨ sampleWindow s.conv.windowCode ≤ (s.line.tick - begun).toNat
  · exact ⟨s.conv.state, s.conv.refused + 1, by rw [State.requestCapture_refused no, State.calibSide_refuseCapture]⟩
  · obtain ⟨idle, early⟩ := not_or.mp no
    refine ⟨.sampling (s.conv.capture owner t cycle begun), s.conv.refused, ?_⟩
    rw [State.requestCapture_taken (not_not.mp idle) (Nat.not_le.mp early)]
    rfl

/-- A burst changes of the converter's side its state and its count of refusals at most, before the slot is looked at. -/
theorem State.calibSide_placeBurst {s : State} {arrival : Tick} {k pos : Nat} {plan : StoredPlan} (frame : s.InFrame arrival k plan pos)
    (u : State) (r : Report) : ∃ x n, (u.placeBurst k plan r pos).calibSide =
      ({ u.conv with state := x, refused := n }, u.planner.slotWanted, u.link.kinds.calibration) := by
  rcases State.placeBurst_cases frame r with ⟨j, w, lands, opened⟩ | stray
  · by_cases census : w.grant.kind = .census
    · exact ⟨_, _, by rw [State.placeBurst_census lands opened census]; exact State.calibSide_censusBurst ..⟩
    · rw [State.placeBurst_matches lands opened census]
      have delivered := u.calibSide_delivered k j plan w.grant r pos
      unfold State.matchBurst
      dsimp only
      split
      · next t _ _ =>
        obtain ⟨x, n, asked⟩ := (u.delivered k j plan w.grant r pos).calibSide_requestCapture w.grant.owner t plan.cycle r.arrival
        obtain ⟨conv, rest⟩ := Prod.mk.inj delivered
        obtain ⟨wanted, flag⟩ := Prod.mk.inj rest
        rw [conv, wanted, flag] at asked
        exact ⟨x, n, asked⟩
      · exact ⟨_, _, delivered⟩
  · exact ⟨_, _, by rw [stray]; exact u.calibSide_stray k plan r⟩

/-- A span that meets the slot of the attempt in progress fails it. -/
theorem State.slotTold_fails {s : State} {plan : StoredPlan} {pos length : Nat} (met : plan.slotMet pos length) {c : Calibration}
    (calib : s.conv.calib = some c) {slot : CalibSlot} (phase : c.phase.slot = some slot) (cycle : slot.cycle = plan.cycle) :
    s.slotTold plan pos length = s.failAttempt c .light := by
  unfold State.slotTold
  rw [if_pos ((meetsSlot_iff plan pos length).mpr met)]
  simp only [State.intrude, calib, phase, cycle, if_true]

theorem State.slotTold_other {s : State} {plan : StoredPlan}
    (other : ∀ c slot, s.conv.calib = some c → c.phase.slot = some slot → slot.cycle ≠ plan.cycle) (pos length : Nat) :
    s.slotTold plan pos length = s := by
  unfold State.slotTold State.intrude
  split
  · split
    · rfl
    · next c calib =>
      split
      · next slot phase => exact if_neg (other c slot calib phase)
      · rfl
  · rfl

theorem CalibPhase.slot_of_tagged {p : CalibPhase} {slot : CalibSlot} (h : p = .placed slot ∨ ∃ code, p = .sampled slot code) :
    p.slot = some slot := by
  rcases h with rfl | ⟨code, rfl⟩ <;> rfl

/-- Settles O41. -/
theorem converterTakesCaptures : Obligations.ConverterTakesCaptures := by
  intro s arrival taken header check overlap r k plan pos running report frame
  refine ⟨_, exec_burstReport_of_frame running report frame, ?_⟩
  have arrives : r.arrival = arrival := by rw [report]; rfl
  have placed := State.calibSide_placeBurst frame { s with line.tick := taken } r
  have matched (j : Nat) (w : Window) (lands : s.Lands arrival k plan pos j w) (opened : w.state = .opened)
      (tagged : w.grant.kind ≠ .census) := State.placeBurst_matches lands opened tagged { s with line.tick := taken } r
  have unmatched (none : ∀ j w, s.Lands arrival k plan pos j w → w.state = .opened →
      w.grant.capture = false ∨ ¬Judged r w.grant pos .clean) :
      (State.placeBurst { s with line.tick := taken } k plan r pos).calibSide = s.calibSide := by
    rcases State.placeBurst_cases frame r with ⟨j, w, lands, opened⟩ | stray
    · by_cases census : w.grant.kind = .census
      · rw [State.placeBurst_census lands opened census]
        exact State.calibSide_censusBurst ..
      · rw [matched j w lands opened census, State.matchBurst_unasked _ _ _ _ (none j w lands opened)]
        exact State.calibSide_delivered ..
    · rw [stray]
      exact State.calibSide_stray ..
  generalize placement : State.placeBurst { s with line.tick := taken } k plan r pos = v at placed matched unmatched
  obtain ⟨x, n, placed⟩ := placed
  have conv : v.conv = { s.conv with state := x, refused := n } := congrArg Prod.fst placed
  have wanted : v.planner.slotWanted = s.planner.slotWanted := congrArg (·.2.1) placed
  have calib : v.conv.calib = s.conv.calib := (congrArg Converter.calib conv :)
  obtain ⟨c', l', w', f', told⟩ := v.slotTold_eq plan pos r.length
  refine ⟨?_, ?_, ?_, ?_, fun j w g window lands opened tagged tag marked clean hwindow => ?_, fun none => ?_,
    fun c slot hc phase cycle met => ⟨fun few => ?_, fun five => ?_⟩, fun other => ?_⟩
  · rw [told]; exact (congrArg Converter.offset conv :)
  · rw [told]; exact (congrArg Converter.curve conv :)
  · rw [told]; exact (congrArg Converter.windowCode conv :)
  · rw [told]; exact (congrArg Converter.stepCode conv :)
  · rw [told]
    have asked := matched j w lands opened tagged
    rw [State.matchBurst_asked _ _ _ _ tag marked clean, arrives] at asked
    have delivered := State.calibSide_delivered { s with line.tick := taken } k j plan w.grant r pos
    have tick := State.tick_delivered { s with line.tick := taken } k j plan w.grant r pos
    generalize State.delivered { s with line.tick := taken } k j plan w.grant r pos = d at asked delivered tick
    have same : d.conv = s.conv := congrArg Prod.fst delivered
    change d.line.tick = taken at tick
    rw [← sampleWindow_eq] at hwindow
    refine ⟨fun idle early => ?_, fun no => ?_⟩
    · rw [State.requestCapture_taken (by rw [same]; exact idle) (by rw [same, tick, ← hwindow]; exact early)] at asked
      rw [asked]
      refine ⟨(congrArg Converter.refused same :), congrArg ConvState.sampling ?_⟩
      simp only [Converter.capture, same, hwindow, stepTime_eq]
    · rw [State.requestCapture_refused (by rw [same, tick, ← hwindow]; exact no)] at asked
      have refused : v.conv = { d.conv with refused := d.conv.refused + 1 } := by
        rw [asked]
        exact congrArg Prod.fst (d.calibSide_refuseCapture _ _ _)
      rw [same] at refused
      exact ⟨(congrArg Converter.refused refused :), (congrArg Converter.state refused :)⟩
  · rw [told]
    have same : v.conv = s.conv := congrArg Prod.fst (unmatched none)
    exact ⟨(congrArg Converter.refused same :), (congrArg Converter.state same :)⟩
  · rw [State.slotTold_fails met (calib.trans hc) (CalibPhase.slot_of_tagged phase) cycle, State.failAttempt_again _ few]
    exact ⟨rfl, rfl, (congrArg Converter.lastCalib conv :)⟩
  · rw [State.slotTold_fails met (calib.trans hc) (CalibPhase.slot_of_tagged phase) cycle, State.failAttempt_last _ five]
    refine ⟨rfl, rfl, rfl, ?_⟩
    rw [conv]
  · have untold : v.slotTold plan pos r.length = v := by
      rcases other with clear | none | ⟨c, hc, waiting | ⟨slot, elsewhere, tagged⟩⟩
      · exact v.slotTold_none clear
      · exact State.slotTold_other (fun c slot hc _ => by rw [calib, none] at hc; cases hc) _ _
      · refine State.slotTold_other (fun c' slot' hc' phase => ?_) _ _
        rw [calib, hc] at hc'
        cases hc'
        rw [waiting] at phase
        cases phase
      · refine State.slotTold_other (fun c' slot' hc' phase => ?_) _ _
        rw [calib, hc] at hc'
        cases hc'
        rw [CalibPhase.slot_of_tagged tagged] at phase
        cases phase
        exact elsewhere
    rw [untold]
    exact ⟨calib, (congrArg Converter.lastCalib conv :), wanted⟩

end Sys2Proof.Machine


/-! PROOFS. The bursts that reach a lane or the Supervisor (chapters 5, 7 and 8). -/

namespace Sys2Proof.Machine

/-! ## A burst of a lane (R119, R122, R155) -/

theorem State.refuseCapture_of_free {s : State} {i : LaneNo} (free : s.work i = none) (t : Tag) (cycle : CycleNo) :
    s.refuseCapture (.lane i) t cycle = s.countRefused := by
  have none : s.countRefused.placedWork i t cycle .probe = none := by
    simp only [State.placedWork, show s.countRefused.work i = none from free]
  simp only [State.refuseCapture, State.answerCapture, State.laneCapture, none]

/-- A capture that a FREE lane's burst asked for changes the converter alone. -/
theorem State.requestCapture_of_free {s : State} {i : LaneNo} (free : s.work i = none) (t : Tag) (cycle : CycleNo) (begun : Tick) :
    ∃ x n, s.requestCapture (.lane i) t cycle begun = { s with conv.state := x, conv.refused := n } := by
  by_cases no : s.conv.state ≠ .idle ∨ sampleWindow s.conv.windowCode ≤ (s.line.tick - begun).toNat
  · refine ⟨s.conv.state, s.conv.refused + 1, ?_⟩
    rw [State.requestCapture_refused no, State.refuseCapture_of_free free]
    rfl
  · obtain ⟨idle, early⟩ := not_or.mp no
    refine ⟨.sampling (s.conv.capture (.lane i) t cycle begun), s.conv.refused, ?_⟩
    rw [State.requestCapture_taken (not_not.mp idle) (Nat.not_le.mp early)]
    rfl

theorem State.refuseCapture_of_held {s : State} {i : LaneNo} {w : LaneWork} {cycle : CycleNo} (held : s.work i = some w)
    (placed : w.shot = .placed cycle .probe) (asked : w.held.captureAsked = true) (close : w.held.close = none) :
    s.refuseCapture (.lane i) w.tag cycle =
      s.countRefused.setWork i (some { w with held := { w.held with answer := some .refusal } }) := by
  have here : s.countRefused.work i = some w := held
  simp only [State.refuseCapture, State.answerCapture, State.laneCapture, State.placedWork_of_work here placed, asked, if_true]
  exact State.settleIfDue_waits _ i w cycle (.inl close)

/-- Between `s` and `u` no lane but `i`, no record but that of `t`, and nothing of the Supervisor's has changed. -/
structure State.LaneReach (s u : State) (i : LaneNo) (t : Tag) : Prop where
  lanes : ∀ j, j ≠ i → u.lanes.get j = s.lanes.get j
  pages : ∀ f, f ≠ t → u.page f = s.page f
  sup : u.sup = s.sup

theorem State.LaneActs.reach {s u : State} {i : LaneNo} {t : Tag} (acts : s.LaneActs u i t) : s.LaneReach u i t := { acts with }

theorem State.LaneReach.requestCapture {s u : State} {i : LaneNo} {t : Tag} (reach : s.LaneReach u i t) (cycle : CycleNo) (begun : Tick) :
    s.LaneReach (u.requestCapture (.lane i) t cycle begun) i t := by
  by_cases no : u.conv.state ≠ .idle ∨ sampleWindow u.conv.windowCode ≤ (u.line.tick - begun).toNat
  · rw [State.requestCapture_refused no]
    have acts := (State.LaneActs.laneCapture u.countRefused i t cycle .refusal).reach
    exact ⟨fun j ne => (acts.lanes j ne).trans (reach.lanes j ne), fun f ne => (acts.pages f ne).trans (reach.pages f ne),
      acts.sup.trans reach.sup⟩
  · obtain ⟨idle, early⟩ := not_or.mp no
    rw [State.requestCapture_taken (not_not.mp idle) (Nat.not_le.mp early)]
    exact { reach with }

/-- A lane that awaits a burst ends where its terminal's power fails. -/
theorem State.laneBurst_failing {s : State} {i : LaneNo} {work : LaneWork} {x : BurstResult} (held : s.work i = some work)
    (placed : work.shot = .placed x.cycle x.grant.kind) (failing : x.flagsValid = true ∧ x.powerFailing = true) :
    s.laneBurst i work.tag x = s.laneFail i work .powerLoss := by
  simp only [State.laneBurst, State.placedWork_of_work held placed, failing, Bool.and_self, if_true]

theorem State.laneBurst_overlong {s : State} {i : LaneNo} {work : LaneWork} {x : BurstResult} (held : s.work i = some work)
    (placed : work.shot = .placed x.cycle x.grant.kind) (powered : ¬(x.flagsValid = true ∧ x.powerFailing = true)) {p : ProbeWork}
    (stage : work.stage = .probe p) (long : x.quality = .overlong) : s.laneBurst i work.tag x = s.laneFail i work .overlong := by
  simp only [State.laneBurst, State.placedWork_of_work held placed, stage, long]
  exact if_neg (by simpa using powered)

/-- Every other burst is held. -/
theorem State.laneBurst_holds {s : State} {i : LaneNo} {work : LaneWork} {x : BurstResult} (held : s.work i = some work)
    (placed : work.shot = .placed x.cycle x.grant.kind) (close : work.held.close = none)
    (powered : ¬(x.flagsValid = true ∧ x.powerFailing = true)) (fits : ¬((∃ p, work.stage = .probe p) ∧ x.quality = .overlong)) :
    s.laneBurst i work.tag x = s.setWork i (some { work with held := { work.held with result := some x } }) := by
  simp only [State.laneBurst, State.placedWork_of_work held placed]
  rw [if_neg (by simpa using powered)]
  split
  · next p stage long => exact absurd ⟨⟨p, stage⟩, long⟩ fits
  · exact State.settleIfDue_waits s i work x.cycle (.inl close)

theorem BurstResult.asked_of {r : Report} {g : Grant} {cycle : CycleNo} {pos : Nat} {x : BurstResult} (result : ResultOf r g cycle pos x) :
    x.captureAsked = true ↔ g.capture = true ∧ Judged r g pos .clean := by
  have quality := (judged_iff _ _ _ _).mp result.quality
  rw [result.capture, judged_iff, quality, eq_comm (a := Quality.clean), and_comm]

/-- Settles O39. -/
theorem laneTakesBurst : Obligations.LaneTakesBurst := by
  intro s arrival taken header check overlap r k plan pos j w i work h trim x report lands opened working tagged owner tag placed
    close probing result
  refine ⟨_, exec_burstReport_of_frame working.running report lands.frame, ?_⟩
  have arrives : r.arrival = arrival := by rw [report]; rfl
  rw [State.placeBurst_matches lands opened tagged]
  have isResult := (resultOf_iff _ _ _ _ _).mp result
  have asks := BurstResult.asked_of result
  obtain ⟨v, hv⟩ : ∃ v, v = State.updatePlan { s with line.tick := taken } k fun p => p.updateWindow j fun y =>
    { y with state := .matched, quality := some (qualityOf r w.grant pos) } := ⟨_, rfl⟩
  have aside : s.Aside v := ⟨taken, v.intake, s.conv.state, by rw [hv]; rfl⟩
  have delivered : State.delivered { s with line.tick := taken } k j plan w.grant r pos = v.laneBurst i work.tag x := by
    rw [State.delivered, ← hv, isResult, State.deliverBurst, owner, tag]
  obtain ⟨running, held, record, engaged⟩ := aside.working working
  have placedHere : work.shot = .placed x.cycle x.grant.kind := by rw [result.grant.1, result.grant.2]; exact placed
  have reach := (State.LaneActs.laneBurst v i work.tag x).reach
  have unasked (no : x.captureAsked = false) :
      State.matchBurst { s with line.tick := taken } k j plan w.grant r pos = v.laneBurst i work.tag x := by
    rw [State.matchBurst_unasked _ _ _ _ (not_and_or.mp (by rw [← asks, no]; exact Bool.false_ne_true) |>.imp_left
      Bool.eq_false_iff.mpr), delivered]
  have asked (yes : x.captureAsked = true) :
      State.matchBurst { s with line.tick := taken } k j plan w.grant r pos =
        (v.laneBurst i work.tag x).requestCapture (.lane i) work.tag plan.cycle arrival := by
    rw [State.matchBurst_asked _ _ _ _ tag (asks.mp yes).1 (asks.mp yes).2, delivered, owner, arrives]
  obtain ⟨calib, lastCalib, wanted, flag, told⟩ := State.slotTold_eq
    (State.matchBurst { s with line.tick := taken } k j plan w.grant r pos) plan pos r.length
  rw [told]
  generalize State.matchBurst { s with line.tick := taken } k j plan w.grant r pos = m at unasked asked
  have reached : v.LaneReach m i work.tag := by
    cases capture : x.captureAsked with
    | false => rw [unasked capture]; exact reach
    | true => rw [asked capture]; exact reach.requestCapture _ _
  refine ⟨fun f ne => ?_, fun f ne => ?_, ?_, fun failing => ?_, fun powered => ⟨fun ⟨⟨p, stage⟩, long⟩ => ?_, fun fits => ?_⟩⟩
  · rw [hv] at reached
    exact reached.lanes f ne
  · rw [hv] at reached
    exact ⟨State.term_of_page (reached.pages f ne), notNoted_of_page_eq (reached.pages f ne)⟩
  · rw [hv] at reached
    exact reached.sup
  · have ends := aside.laneEnds (State.laneEnds_laneFail running record engaged .powerLoss)
    have lost := State.laneBurst_failing held placedHere ⟨failing.1, result.flags.1.trans failing.2⟩
    cases capture : x.captureAsked with
    | false =>
      rw [unasked capture, lost]
      exact { ends with }
    | true =>
      obtain ⟨state, refused, converted⟩ := State.requestCapture_of_free ends.lane.1 work.tag plan.cycle arrival
      rw [asked capture, lost, converted]
      exact { ends with }
  · have no : x.captureAsked = false := Bool.eq_false_iff.mpr fun yes => by
      have clean := (result.capture.mp yes).1
      rw [long] at clean
      cases clean
    have ends := aside.laneEnds (State.laneEnds_laneFail running record engaged .overlong)
    rw [unasked no, State.laneBurst_overlong held placedHere (by rw [result.flags.1]; exact powered) stage long]
    exact { ends with }
  · have holds := State.laneBurst_holds held placedHere close (by rw [result.flags.1]; exact powered) fits
    rw [holds] at unasked asked
    have here : (v.setWork i (some { work with held := { work.held with result := some x } })).work i =
        some { work with held := { work.held with result := some x } } := by rw [State.work_setWork, if_pos rfl]
    have tick : v.line.tick = taken := by rw [hv]; rfl
    have state : v.conv.state = s.conv.state := by rw [hv]; rfl
    have code : v.conv.windowCode = s.conv.windowCode := by rw [hv]; rfl
    have book : v.book = s.book := aside.book
    rw [← sampleWindow_eq]
    cases capture : x.captureAsked with
    | false =>
      rw [unasked capture]
      exact ⟨record, notNoted_of_book_eq book _, fun _ => here, fun yes => absurd yes Bool.false_ne_true⟩
    | true =>
      have marked := (asks.mp capture).1
      rw [asked capture]
      by_cases no : s.conv.state ≠ .idle ∨ sampleWindow s.conv.windowCode ≤ (taken - arrival).toNat
      · have refused := State.requestCapture_refused (s := v.setWork i (some { work with held := { work.held with result := some x } }))
          (begun := arrival) (by rw [← state, ← code, ← tick] at no; exact no) (.lane i) work.tag plan.cycle
        have answered := State.refuseCapture_of_held here (cycle := plan.cycle) (by rw [← probing marked]; exact placed)
          (by simp [HeldGrant.captureAsked, capture]) close
        rw [refused, answered]
        refine ⟨record, notNoted_of_book_eq book _, fun may => ?_, fun _ _ => ?_⟩
        · rcases may with none | ⟨idle, early⟩
          · cases none
          · exact absurd no (not_or.mpr ⟨not_not.mpr idle, Nat.not_le.mpr early⟩)
        · exact (State.work_setWork _ _ _ _).trans (if_pos rfl)
      · obtain ⟨idle, early⟩ := not_or.mp no
        have taken := State.requestCapture_taken (s := v.setWork i (some { work with held := { work.held with result := some x } }))
          (begun := arrival) (state.trans (not_not.mp idle)) (by rw [← code, ← tick] at early; exact Nat.not_le.mp early) (.lane i) work.tag plan.cycle
        rw [taken]
        exact ⟨record, notNoted_of_book_eq book _, fun _ => here, fun _ yes => absurd yes no⟩

/-! ## A burst of the Supervisor (R139, R140, R146) -/

/-- Between `s` and `u` no record but that of `t`, no entry of the Supervisor's but its own, no lane and nothing of the line has
changed, and nothing is posted. -/
structure State.SupActs (s u : State) (t : Tag) : Prop where
  pages : ∀ f, f ≠ t → u.page f = s.page f
  sup : ∀ f, f ≠ t → u.sup.get f = s.sup.get f
  lanes : u.lanes = s.lanes
  line : u.line = s.line
  waiting : u.roster.waiting = s.roster.waiting

namespace State.SupActs

theorem refl (s : State) (t : Tag) : s.SupActs s t := ⟨fun _ _ => rfl, fun _ _ => rfl, rfl, rfl, rfl⟩

theorem trans {s u v : State} {t : Tag} (first : s.SupActs u t) (second : u.SupActs v t) : s.SupActs v t where
  pages f ne := (second.pages f ne).trans (first.pages f ne)
  sup f ne := (second.sup f ne).trans (first.sup f ne)
  lanes := second.lanes.trans first.lanes
  line := second.line.trans first.line
  waiting := second.waiting.trans first.waiting

theorem changeTerm (s : State) (t : Tag) (h : Option Terminal) : s.SupActs (s.changeTerm t h) t where
  pages _ ne := s.page_changeTerm_of_ne h ne
  sup f _ := by rw [State.changeTerm_sup]
  lanes := s.changeTerm_lanes t h
  line := (congrArg State.line (s.changeTerm_rest t h) :)
  waiting := (congrArg (·.roster.waiting) (s.changeTerm_rest t h) :)

theorem updSup (s : State) (t : Tag) (f : SupEntry → SupEntry) : s.SupActs (s.updSup t f) t :=
  ⟨fun _ _ => rfl, fun _ ne => Bank.get_update_of_ne _ _ ne, rfl, rfl, rfl⟩

theorem withdrawReturn (s : State) (t : Tag) : s.SupActs (s.withdrawReturn t) t := { updSup s t _ with }

theorem parkPowerLoss (s : State) (t : Tag) (h : Terminal) : s.SupActs (s.parkPowerLoss t h) t :=
  ({ updSup s t _ with } : s.SupActs (s.supDrop t) t).trans (changeTerm _ t _)

theorem supBurst (s : State) (t : Tag) (r : BurstResult) : s.SupActs (s.supBurst t r) t := by
  unfold State.supBurst
  split
  · split
    · split
      · exact parkPowerLoss s t _
      · split
        · exact updSup s t _
        · exact refl s t
    · split
      · exact parkPowerLoss s t _
      · split
        · split
          · exact (withdrawReturn s t).trans (changeTerm _ t _)
          · exact changeTerm s t _
          · exact refl s t
        · exact refl s t
    · exact refl s t
  · exact refl s t

end State.SupActs

/-- A capture that the Supervisor asked for changes the converter alone. -/
theorem State.requestCapture_supervisor (s : State) (t : Tag) (cycle : CycleNo) (begun : Tick) :
    ∃ x n, s.requestCapture .supervisor t cycle begun = { s with conv.state := x, conv.refused := n } := by
  by_cases no : s.conv.state ≠ .idle ∨ sampleWindow s.conv.windowCode ≤ (s.line.tick - begun).toNat
  · refine ⟨s.conv.state, s.conv.refused + 1, ?_⟩
    rw [State.requestCapture_refused no]
    exact State.supCapture_refusal _ t
  · obtain ⟨idle, early⟩ := not_or.mp no
    refine ⟨.sampling (s.conv.capture .supervisor t cycle begun), s.conv.refused, ?_⟩
    rw [State.requestCapture_taken (not_not.mp idle) (Nat.not_le.mp early)]
    rfl

/-- A record in service whose terminal's power fails is PARKED, and the Supervisor drops what it holds. -/
theorem State.supBurst_failing {s : State} {t : Tag} {h : Terminal} {x : BurstResult} (record : s.term t = some h)
    (serves : h.service.isSome = true) (failing : x.flagsValid = true ∧ x.powerFailing = true) :
    s.supBurst t x = s.parkPowerLoss t h := by
  unfold Terminal.service at serves
  split at serves
  · next phase => simp only [State.supBurst, record, phase, failing, Bool.and_self, if_true]
  · next phase => simp only [State.supBurst, record, phase, failing, Bool.and_self, if_true]
  · cases serves

theorem State.supBurst_unserved {s : State} {t : Tag} {h : Terminal} (record : s.term t = some h) (service : h.service = none)
    (x : BurstResult) : s.supBurst t x = s := by
  unfold Terminal.service at service
  split at service
  · cases service
  · cases service
  · next noActive noSilent =>
    simp only [State.supBurst, record]

theorem State.supBurst_active {s : State} {t : Tag} {h : Terminal} {svc : Service} (record : s.term t = some h)
    (active : h.phase = .active svc) {x : BurstResult} (powered : ¬(x.flagsValid = true ∧ x.powerFailing = true)) :
    s.supBurst t x = if x.grant.kind = .standing then s.updSup t fun y => { y with held := some x } else s := by
  simp only [State.supBurst, record, active]
  exact if_neg (by simpa using powered)

theorem State.supBurst_silent {s : State} {t : Tag} {h : Terminal} {svc : Service} {since : CycleNo} {grace : Nat}
    (record : s.term t = some h) (silent : h.phase = .silent svc since grace) {x : BurstResult}
    (powered : ¬(x.flagsValid = true ∧ x.powerFailing = true)) :
    (x.grant.kind ≠ .ret → s.supBurst t x = s) ∧
      (x.grant.kind = .ret →
        (x.quality = .clean → s.supBurst t x = s.returnClean t h svc) ∧
        (x.quality = .corrupt → s.supBurst t x =
          s.changeTerm t (some { h with phase := .silent { svc with corrupt := satInc 255 svc.corrupt } since grace })) ∧
        (x.quality = .overlong → s.supBurst t x = s)) := by
  have lit : ¬(x.flagsValid && x.powerFailing) = true := by simpa using powered
  simp only [State.supBurst, record, silent, if_neg lit]
  refine ⟨fun other => if_neg other, fun ret => ?_⟩
  rw [if_pos ret]
  exact ⟨fun q => by rw [q], fun q => by rw [q], fun q => by rw [q]⟩

/-- A clean RETURN: the record ACTIVE again, its RETURN entry withdrawn. -/
theorem State.returnClean_returns {s : State} {t : Tag} {h : Terminal} {svc : Service} {since : CycleNo} {grace : Nat}
    (record : s.term t = some h) (silent : h.phase = .silent svc since grace) :
    (s.returnClean t h svc).term t =
        some { h with phase := .active { svc with miss := 0, drift := 0, bursts := 0, returnOut := false } } ∧
      notedOnce s (s.returnClean t h svc) t ∧ (s.returnClean t h svc).sup.get t = { s.sup.get t with waitReturn := false } ∧
      (s.returnClean t h svc).planner.shots = s.planner.shots.filter fun e => !(e.owner == .supervisor && e.tag == t) := by
  unfold State.returnClean
  refine ⟨State.term_changeTerm_self _ _ _, notedOnce_changeTerm (s.withdrawReturn t) t _ fun same => ?_, ?_,
    (congrArg (·.planner.shots) (State.changeTerm_rest (s.withdrawReturn t) t _) :)⟩
  · rw [show (s.withdrawReturn t).term t = some h from record] at same
    have code := congrArg Visible.state same
    simp [visibleOf, recordStateCode, silent] at code
  · rw [State.changeTerm_sup]
    exact Bank.get_update_self _ _ _

/-- A record in service that is parked with POWER_LOSS: the Supervisor drops what it holds. -/
theorem State.parkPowerLoss_parks {s : State} {t : Tag} {h : Terminal} (record : s.term t = some h)
    (serves : h.service.isSome = true) :
    (s.parkPowerLoss t h).term t =
        some { h with phase := .parked .powerLoss (s.roster.profiles.get h.profile).parkHold } ∧
      notedOnce s (s.parkPowerLoss t h) t ∧
      (s.parkPowerLoss t h).sup.get t = { held := none, waitReturn := false, waitNudge := none } ∧
      (s.parkPowerLoss t h).planner.shots = s.planner.shots.filter fun e => !(e.owner == .supervisor && e.tag == t) := by
  unfold State.parkPowerLoss State.parkRecord
  refine ⟨State.term_changeTerm_self _ _ _, notedOnce_changeTerm (s.supDrop t) t _ fun same => ?_, ?_,
    (congrArg (·.planner.shots) (State.changeTerm_rest (s.supDrop t) t _) :)⟩
  · rw [show (s.supDrop t).term t = some h from record] at same
    have code := congrArg Visible.state same
    unfold Terminal.service at serves
    split at serves
    · next active => simp [visibleOf, recordStateCode, active] at code
    · next silent => simp [visibleOf, recordStateCode, silent] at code
    · cases serves
  · rw [State.changeTerm_sup]
    exact Bank.get_update_self _ _ _

/-- Settles O40. -/
theorem supervisorTakesBurst : Obligations.SupervisorTakesBurst := by
  intro s arrival taken header check overlap r k plan pos j w g h x running report lands opened owner tag kind record result
  refine ⟨_, exec_burstReport_of_frame running report lands.frame, ?_⟩
  have tagged : w.grant.kind ≠ .census := by rcases kind with e | e <;> rw [e] <;> decide
  have isResult := (resultOf_iff _ _ _ _ _).mp result
  obtain ⟨v, hv⟩ : ∃ v, v = State.updatePlan { s with line.tick := taken } k fun p => p.updateWindow j fun y =>
    { y with state := .matched, quality := some (qualityOf r w.grant pos) } := ⟨_, rfl⟩
  have delivered : State.delivered { s with line.tick := taken } k j plan w.grant r pos = v.supBurst g x := by
    rw [State.delivered, ← hv, isResult, State.deliverBurst, owner, tag]
  obtain ⟨conv, wanted, flag, final⟩ : ∃ conv wanted flag,
      (State.placeBurst { s with line.tick := taken } k plan r pos).slotTold plan pos r.length =
        { v.supBurst g x with conv := conv, planner.slotWanted := wanted, link.kinds.calibration := flag } := by
    rw [State.placeBurst_matches lands opened tagged]
    have asked : ∃ state refused, State.matchBurst { s with line.tick := taken } k j plan w.grant r pos =
        { v.supBurst g x with conv.state := state, conv.refused := refused } := by
      by_cases asks : w.grant.capture = true ∧ Judged r w.grant pos .clean
      · rw [State.matchBurst_asked _ _ _ _ tag asks.1 asks.2, delivered, owner]
        exact State.requestCapture_supervisor _ _ _ _
      · rw [State.matchBurst_unasked _ _ _ _ ((not_and_or.mp asks).imp_left Bool.eq_false_iff.mpr), delivered]
        exact ⟨_, _, rfl⟩
    obtain ⟨state, refused, asked⟩ := asked
    rw [asked]
    obtain ⟨_, _, _, _, told⟩ := State.slotTold_eq
      { v.supBurst g x with conv.state := state, conv.refused := refused } plan pos r.length
    exact ⟨_, _, _, told⟩
  have acts := State.SupActs.supBurst v g x
  have recordHere : v.term g = some h := by rw [hv]; exact record
  have xkind : x.grant.kind = w.grant.kind := by rw [result.grant.1]
  rw [final, ← result.flags.1]
  have others : sameOtherRecords s (v.supBurst g x) g := by
    rw [hv] at acts ⊢
    exact fun f ne => ⟨State.term_of_page (acts.pages f ne), notNoted_of_page_eq (acts.pages f ne)⟩
  have book : v.book = s.book := by rw [hv]; rfl
  obtain ⟨lanes, sup, notices, roster, planner⟩ : v.lanes = s.lanes ∧ v.sup = s.sup ∧ v.line.notices = s.line.notices ∧
      v.roster = s.roster ∧ v.planner = s.planner := by
    rw [hv]
    exact ⟨rfl, rfl, rfl, rfl, rfl⟩
  refine ⟨others, acts.lanes.trans lanes, fun f ne => (acts.sup f ne).trans (by rw [sup]),
    (congrArg LineTimer.notices acts.line).trans notices, acts.waiting.trans (by rw [roster]), fun serves failing => ?_,
    fun powered => ⟨fun svc active => ?_, fun svc since grace silent => ⟨fun standing => ?_, fun ret => ?_⟩⟩, fun unserved => ?_⟩
  · rw [State.supBurst_failing recordHere serves failing]
    obtain ⟨term, noted, sup', shots⟩ := State.parkPowerLoss_parks recordHere serves
    rw [roster] at term
    rw [planner] at shots
    exact ⟨term, notedOnce_of_book book rfl noted, sup', shots⟩
  · rw [State.supBurst_active recordHere active powered, xkind]
    refine ⟨?_, ?_, ?_, fun standing => ?_, fun ret => ?_⟩
    · split <;> exact recordHere
    · split <;> exact notNoted_of_book_eq book g
    · rw [← planner]
      split <;> rfl
    · rw [if_pos standing, ← sup]
      exact Bank.get_update_self _ _ _
    · rw [if_neg (by rw [ret]; decide), ← sup]
  · rw [(State.supBurst_silent recordHere silent powered).1 (by rw [xkind, standing]; decide), ← sup]
    exact ⟨recordHere, notNoted_of_book_eq book g, rfl⟩
  · obtain ⟨clean, corrupt, overlong⟩ := (State.supBurst_silent recordHere silent powered).2 (xkind.trans ret)
    refine ⟨fun q => ?_, fun q => ?_, fun q => ?_⟩
    · rw [clean q]
      obtain ⟨term, noted, sup', shots⟩ := State.returnClean_returns recordHere silent
      rw [sup] at sup'
      rw [planner] at shots
      exact ⟨term, notedOnce_of_book book rfl noted, sup', shots⟩
    · rw [corrupt q, satInc_eq_min]
      refine ⟨State.term_changeTerm_self _ _ _, notNoted_of_book book rfl (notNoted_changeTerm_of_eq v g g _ ?_), ?_⟩
      · rw [recordHere]
        simp [visibleOf, recordStateCode, silent, Terminal.park]
      · rw [← sup]
        exact congrArg (fun x : Bank SupEntry 128 => x.get g) (State.changeTerm_sup _ _ _)
    · rw [overlong q, ← sup]
      exact ⟨recordHere, notNoted_of_book_eq book g, rfl⟩
  · rw [State.supBurst_unserved recordHere unserved, ← sup]
    exact ⟨recordHere, notNoted_of_book_eq book g, rfl⟩

end Sys2Proof.Machine


/-! PROOFS. Hearings (chapter 2) and the census window (chapter 6). -/

namespace Sys2Proof.Machine

/-! ## What a hearing does to the records (R25 to R29) -/

/-- A HUSH is posted, and no record, admission or stranger changes. -/
theorem State.hushes_rosterPost {s : State} (running : s.line.state = .running) (serial : Serial) (cycles : Nat) :
    s.Hushes (s.rosterPost (.hush serial cycles)) serial cycles := by
  have posted := s.rosterPosts_rosterPost (.hush serial cycles) running
  rw [← s.rosterPost_rest] at posted ⊢
  exact ⟨posted, fun _ => ⟨rfl, rfl, rfl⟩, rfl, rfl, rfl⟩

/-- A serial is refused as a stranger. -/
theorem State.refuses_refuseStranger {s : State} (running : s.line.state = .running) (serial : Serial) (reason : StrangerReason) :
    s.Refuses (s.refuseStranger serial reason) serial reason := by
  obtain ⟨posted, records, admission, strangers, overflowed⟩ := State.hushes_rosterPost running serial s.line.settings.hush
  have any : (s.roster.strangers.any fun x => x.serial = serial) = true ↔ ∃ x ∈ s.roster.strangers, x.serial = serial := by simp
  unfold State.refuseStranger State.hushLong
  dsimp only
  split
  · next known =>
    have known := any.mp known
    exact ⟨posted, records, admission, fun _ => ⟨strangers, overflowed⟩,
      fun none _ => known.elim fun x hx => absurd hx.2 (none x hx.1), fun none _ => known.elim fun x hx => absurd hx.2 (none x hx.1)⟩
  · next unknown =>
    have unknown := mt any.mpr unknown
    split
    · next room =>
      exact ⟨posted, records, admission, fun known => absurd known unknown, fun _ _ => ⟨rfl, overflowed⟩,
        fun _ full => absurd room (Nat.not_lt.mpr full)⟩
    · next full =>
      exact ⟨posted, records, admission, fun known => absurd known unknown, fun _ room => absurd room full, fun _ _ => ⟨strangers, rfl⟩⟩

/-- A new serial is given a FREE record. -/
theorem State.enrolls_enroll {s : State} {g : Tag} (free : s.term g = none) (serial : Serial) (listed : Bool) (profile : ProfileNo)
    (coarse : Int) : s.Enrolls (s.enroll g serial listed profile coarse) g serial listed profile coarse := by
  unfold State.enroll
  dsimp only
  obtain ⟨h, heard⟩ : ∃ h : Terminal, h =
      { serial := serial, listed := listed, profile := profile, coarse := coarse, level := none, flags := .clear,
        heardCycle := s.cycleNo, phase := .heard } := ⟨_, rfl⟩
  rw [← heard]
  have rest := s.changeTerm_rest g (some h)
  refine ⟨?_, ?_, ?_, ?_, ?_, ?_, ?_⟩
  · exact (State.term_changeTerm_self s g _).trans (by rw [heard]; rfl)
  · exact notedOnce_changeTerm s g _ (by rw [free]; exact (visibleOf_ne_none h).symm)
  · exact sameOtherRecords_of_change rfl rfl
  · exact congrArg (· ++ [g]) (congrArg (·.roster.admission) rest :)
  · exact congrArg (List.filter fun x : Stranger => x.serial != serial) (congrArg (·.roster.strangers) rest :)
  · exact (congrArg (·.line.notices) rest :)
  · exact (congrArg (·.roster.waiting) rest :)

theorem Roster.entryOf_eq {s : State} (shape : s.RosterShape) {e : Expected} (mem : e ∈ s.roster.expected) :
    s.roster.entryOf e.serial = some e := by
  cases found : s.roster.entryOf e.serial with
  | none => exact absurd rfl (Roster.entryOf_none_iff.mp found e mem)
  | some x =>
    have same : x.serial = e.serial := by simpa using List.find?_some found
    rw [List.inj_on_of_nodup_map shape.entrySerials (List.mem_of_find?_eq_some found) mem same]

theorem Roster.freeTag_eq {r : Roster} {low high : Nat} {g : Tag} (above : low ≤ tagNum g) (below : tagNum g ≤ high)
    (free : (r.records.get g).term = none) (unreserved : ∀ e ∈ r.expected, e.tag ≠ g)
    (lower : ∀ f : Tag, f < g → low ≤ tagNum f → (r.records.get f).term.isSome = true ∨ ∃ e ∈ r.expected, e.tag = f) :
    r.freeTag low high = some g := by
  refine find_allTags ?_ fun f less => ?_
  · simpa [above, below, free, Roster.reserved] using unreserved
  · by_cases inPool : low ≤ tagNum f
    · rcases lower f less inPool with some | reserved
      · simp [Option.isNone_eq_false_iff.mpr some]
      · simp [Roster.reserved, reserved]
    · simp [inPool]

theorem Roster.freeTag_none {r : Roster} {low high : Nat}
    (taken : ∀ g : Tag, low ≤ tagNum g → tagNum g ≤ high → (r.records.get g).term.isSome = true ∨ ∃ e ∈ r.expected, e.tag = g) :
    r.freeTag low high = none := by
  refine List.find?_eq_none.mpr fun g _ free => ?_
  simp only [Roster.reserved, Bool.and_eq_true, decide_eq_true_eq, Option.isNone_iff_eq_none, Bool.not_eq_true',
    List.any_eq_false] at free
  obtain ⟨⟨⟨above, below⟩, empty⟩, unreserved⟩ := free
  rcases taken g above below with some | ⟨e, mem, tag⟩
  · rw [empty] at some
    cases some
  · exact unreserved e mem tag

/-! ## The hearing of the census window (R92, R107) -/

theorem State.hear_barred {s : State} {serial : Serial} (barred : serial ∈ s.roster.barred) (coarse : Int) :
    s.hear serial coarse = (s.hushLong serial, .hushed) := if_pos (contains_of_mem barred)

theorem State.hear_held {s : State} (shape : s.RosterShape) {g : Tag} {h : Terminal} (record : s.term g = some h) (coarse : Int) :
    s.hear h.serial coarse = s.hearHeld g h coarse := by
  unfold State.hear
  rw [if_neg (not_contains_of_not_mem (shape.barredOut g h record))]
  simp only [Roster.holderOf_eq shape record, record]

theorem State.hear_new {s : State} {serial : Serial} (unbarred : serial ∉ s.roster.barred)
    (unheld : ∀ g h, s.term g = some h → h.serial ≠ serial) (coarse : Int) : s.hear serial coarse = s.hearNew serial coarse := by
  unfold State.hear
  rw [if_neg (not_contains_of_not_mem unbarred)]
  cases found : s.roster.holderOf serial with
  | none => rfl
  | some t =>
    obtain ⟨k, held, same⟩ := Roster.holderOf_some found
    exact absurd same (unheld t k held)

theorem PassCounters.countHearing_eq (c : PassCounters) (a : Admission) :
    c.countHearing a =
      match a with
      | .admitted => { c with heard := min 65535 (c.heard + 1), admitted := min 65535 (c.admitted + 1) }
      | .refreshed => { c with heard := min 65535 (c.heard + 1), refreshed := min 65535 (c.refreshed + 1) }
      | .ignored => { c with heard := min 65535 (c.heard + 1), ignored := min 65535 (c.ignored + 1) }
      | .hushed => { c with heard := min 65535 (c.heard + 1), hushed := min 65535 (c.hushed + 1) }
      | .stranger => { c with heard := min 65535 (c.heard + 1), strangers := min 65535 (c.strangers + 1) } := by
  cases a <;> simp only [PassCounters.countHearing, passInc, satInc_eq_min]

/-- A re-admission (R28). -/
theorem State.readmit_readmits {s : State} (shape : s.RosterShape) {g : Tag} {h : Terminal} {reason : Reason} {hold : Nat}
    (record : s.term g = some h) (parked : h.phase = .parked reason hold) (coarse : Int) {listed : Bool} {profile : ProfileNo}
    (entered : ∀ e ∈ s.roster.expected, e.serial = h.serial → listed = true ∧ profile = e.profile)
    (unlisted : (∀ e ∈ s.roster.expected, e.serial ≠ h.serial) → listed = false ∧ profile = h.profile) :
    (s.readmit g h coarse).term g = some
        { h with
          coarse := coarse, heardCycle := s.cycleNo, level := none, listed := listed, profile := profile, phase := .heard
          flags := { levelAlarm := false, rxLow := false, driftSat := false, trimLimit := false } } ∧
      notedOnce s (s.readmit g h coarse) g ∧ sameOtherRecords s (s.readmit g h coarse) g ∧
      (s.readmit g h coarse).roster.admission = s.roster.admission ++ [g] ∧
      (s.readmit g h coarse).line.notices = s.line.notices := by
  have entry : (s.roster.entryOf h.serial).isSome = listed ∧ ((s.roster.entryOf h.serial).map Expected.profile).getD h.profile = profile := by
    cases found : s.roster.entryOf h.serial with
    | none =>
      obtain ⟨rfl, rfl⟩ := unlisted (Roster.entryOf_none_iff.mp found)
      exact ⟨rfl, rfl⟩
    | some e =>
      obtain ⟨rfl, rfl⟩ := entered e (List.mem_of_find?_eq_some found) (by simpa using List.find?_some found)
      exact ⟨rfl, rfl⟩
  unfold State.readmit
  dsimp only
  rw [entry.1, entry.2]
  obtain ⟨k, heard⟩ : ∃ k : Terminal, k =
      { h with
        coarse := coarse, heardCycle := s.cycleNo, level := none, flags := .clear, phase := .heard,
        listed := listed, profile := profile } := ⟨_, rfl⟩
  rw [← heard]
  have rest := s.changeTerm_rest g (some k)
  refine ⟨(State.term_changeTerm_self s g _).trans (by rw [heard]; rfl), notedOnce_changeTerm s g _ fun same => ?_,
    sameOtherRecords_of_change rfl rfl, congrArg (· ++ [g]) (congrArg (·.roster.admission) rest :), (congrArg (·.line.notices) rest :)⟩
  rw [record, heard] at same
  have code := congrArg Visible.state same
  simp [visibleOf, recordStateCode, parked] at code

/-- A clean and matching CENSUS REPLY is a candidate. -/
theorem State.censusBurst_hearing (s : State) (k j : Nat) (plan : StoredPlan) {g : Grant} {r : Report} (pos : Nat) {serial : Serial}
    (clean : r.check = true ∧ r.overlap = false) (reply : r.kind = .censusReply) (address : r.address = .serial serial)
    (matching : serial &&& g.mask = g.pattern) : s.censusBurst k j plan g r pos = s.candidate serial pos g.first := by
  unfold State.censusBurst
  rw [if_neg (by simp [Report.clean, clean]), reply, address]
  exact if_pos matching

/-- Settles O38. -/
theorem hearingIsDecided : Obligations.HearingIsDecided := by
  intro s arrival taken header check overlap r k plan pos j w serial coarse heard running shape order report lands opened census checked
    alone reply address matching hcoarse hheard
  refine ⟨_, exec_burstReport_of_frame running report lands.frame, ?_⟩
  rw [State.placeBurst_census lands opened census,
    State.censusBurst_hearing _ k j plan pos ⟨checked, alone⟩ reply address matching]
  have coarseEcho_eq : coarseEcho s.line.settings pos w.grant.first = coarse := by
    rw [hcoarse, coarseEcho, clampInt_eq (by exact_mod_cast order)]
  have candidate : State.candidate { s with line.tick := taken } serial pos w.grant.first =
      (State.hear { s with line.tick := taken } serial coarse).1.setCensus
        { s.census with
          counters := s.census.counters.countHearing (State.hear { s with line.tick := taken } serial coarse).2 } := by
    have same := State.hear_census { s with line.tick := taken } serial coarse
    rw [← coarseEcho_eq] at same ⊢
    unfold State.candidate
    dsimp only
    rw [same]
  obtain ⟨calib, lastCalib, wanted, flag, told⟩ := State.slotTold_eq
    (State.candidate { s with line.tick := taken } serial pos w.grant.first) plan pos r.length
  rw [told, candidate]
  have shapeHere : State.RosterShape { s with line.tick := taken } := { shape with }
  have hushes (serial : Serial) (cycles : Nat) := State.hushes_rosterPost (s := { s with line.tick := taken }) running serial cycles
  have refuses (serial : Serial) (reason : StrangerReason) :=
    State.refuses_refuseStranger (s := { s with line.tick := taken }) running serial reason
  subst hheard
  refine ⟨(congrArg LineTimer.tick (State.hear_lineSide { s with line.tick := taken } serial coarse) :),
    State.hear_intake { s with line.tick := taken } serial coarse, State.hear_lanes { s with line.tick := taken } serial coarse,
    State.hear_sup { s with line.tick := taken } serial coarse,
    (congrArg HostSide.expected (State.hear_hostSide { s with line.tick := taken } serial coarse) :),
    (congrArg HostSide.barred (State.hear_hostSide { s with line.tick := taken } serial coarse) :), rfl, fun barred => ?_,
    fun g h record same => ?_, fun unbarred unheld => ?_⟩
  · rw [State.hear_barred (s := { s with line.tick := taken }) barred]
    exact ⟨s.census.counters.countHearing_eq .hushed, { hushes serial s.line.settings.hush with }⟩
  · subst same
    rw [State.hear_held shapeHere record]
    refine ⟨fun phase => ?_, fun here => ?_, fun reason hold phase => ⟨?_, fun other left => ?_, fun other ended listed profile entered unlisted => ?_⟩⟩
    · have refreshed : State.hearHeld { s with line.tick := taken } g h coarse =
          (State.putTerm { s with line.tick := taken } g (some { h with coarse := coarse }), .refreshed) := by
        unfold State.hearHeld
        rw [phase]
      have unnoted (f : Tag) := notNoted_putTerm { s with line.tick := taken } g f (some { h with coarse := coarse })
      have records (f : Tag) := State.term_putTerm { s with line.tick := taken } g f (some { h with coarse := coarse })
      rw [refreshed]
      refine ⟨s.census.counters.countHearing_eq .refreshed, (records g).trans (if_pos rfl), unnoted g,
        fun f ne => ⟨(records f).trans (if_neg ne), unnoted f⟩, rfl, rfl⟩
    · have ignored : State.hearHeld { s with line.tick := taken } g h coarse = ({ s with line.tick := taken }, .ignored) := by
        unfold Terminal.lane Terminal.service at here
        unfold State.hearHeld
        cases phase : h.phase with
        | heard | parked => simp [phase] at here
        | engaged | active | silent => rfl
      rw [ignored]
      exact ⟨s.census.counters.countHearing_eq .ignored, rfl, rfl⟩
    · rintro rfl
      simp only [State.hearHeld, phase, if_true]
      exact ⟨s.census.counters.countHearing_eq .hushed, { hushes h.serial s.line.settings.hush with }⟩
    · simp only [State.hearHeld, phase, if_neg other, if_neg (Nat.pos_iff_ne_zero.mp left)]
      exact ⟨s.census.counters.countHearing_eq .hushed, { hushes h.serial hold with }⟩
    · simp only [State.hearHeld, phase, if_neg other, if_pos ended]
      obtain ⟨term, noted, others, admission, notices⟩ := State.readmit_readmits shapeHere record phase coarse entered unlisted
      exact ⟨s.census.counters.countHearing_eq .admitted, term, noted, others, admission, notices⟩
  · rw [State.hear_new (s := { s with line.tick := taken }) unbarred unheld]
    have enrolls (g : Tag) (free : s.term g = none) (listed : Bool) (profile : ProfileNo) :=
      State.enrolls_enroll (s := { s with line.tick := taken }) free serial listed profile coarse
    refine ⟨fun e mem same => ?_, fun noEntry => ⟨fun mode => ?_, fun low high pool => ?_⟩⟩
    · have entry := Roster.entryOf_eq shape mem
      rw [same] at entry
      have free : s.term e.tag = none := Option.eq_none_iff_forall_not_mem.mpr fun h held =>
        unheld e.tag h held ((shape.entryRecords e mem h held).trans same)
      simp only [State.hearNew, entry]
      exact ⟨s.census.counters.countHearing_eq .admitted, { enrolls e.tag free true e.profile with }⟩
    · simp only [State.hearNew, Roster.entryOf_none_iff.mpr noEntry, mode]
      exact ⟨s.census.counters.countHearing_eq .stranger, { refuses serial .unlisted with }⟩
    · have search : State.hearNew { s with line.tick := taken } serial coarse =
          match s.roster.freeTag low high with
          | some g => (State.enroll { s with line.tick := taken } g serial false s.roster.openProfile coarse, .admitted)
          | none => (State.refuseStranger { s with line.tick := taken } serial .rosterFull, .stranger) := by
        rcases pool with ⟨mode, rfl, rfl⟩ | ⟨mode, rfl, rfl⟩
        · simp only [State.hearNew, Roster.entryOf_none_iff.mpr noEntry, mode, reduceCtorEq, if_false] <;> rfl
        · simp only [State.hearNew, Roster.entryOf_none_iff.mpr noEntry, mode, if_true] <;> rfl
      rw [search]
      refine ⟨fun g above below free unreserved lower => ?_, fun taken => ?_⟩
      · rw [Roster.freeTag_eq above below free unreserved lower]
        exact ⟨s.census.counters.countHearing_eq .admitted, { enrolls g free false s.roster.openProfile with }⟩
      · rw [Roster.freeTag_none taken]
        exact ⟨s.census.counters.countHearing_eq .stranger, { refuses serial .rosterFull with }⟩

end Sys2Proof.Machine


/-! PROOFS. What a window close makes of the census, and of a record in service (chapters 6 and 8). -/

namespace Sys2Proof.Machine

/-! ## The close of the census window (R108 to R113) -/

/-- The split bit is the highest set bit below the last one. -/
theorem splitBit_eq_some {effective : Serial} {b last : Nat} (below : b < last) (isSet : effective.getLsbD b = true)
    (clear : ∀ x, b < x → x < last → effective.getLsbD x = false) : splitBit effective last = some b := by
  induction last with
  | zero => exact absurd below (Nat.not_lt_zero b)
  | succ n ih =>
    unfold splitBit
    by_cases here : b = n
    · rw [← here, if_pos isSet]
    · have less : b < n := by omega
      rw [clear n less (Nat.lt_succ_self n), if_neg Bool.false_ne_true]
      exact ih less fun x hx hn => clear x hx (by omega)

theorem splitBit_eq_none {effective : Serial} {last : Nat} (clear : ∀ x, x < last → effective.getLsbD x = false) :
    splitBit effective last = none := by
  induction last with
  | zero => rfl
  | succ n ih =>
    unfold splitBit
    rw [clear n (Nat.lt_succ_self n), if_neg Bool.false_ne_true]
    exact ih fun x hx => clear x (by omega)

/-- The outstanding node settled in SEARCHING: counted, split or recorded as a tie, and finished. -/
theorem State.NodeSettles.finished {s : State} {o : Outstanding} {garble : Bool} {counters : PassCounters} {stack : List Node}
    {tie : Option Tie} (settles : s.NodeSettles o garble counters stack tie) :
    (if garble then (s.countGarbled garble).splitNode o else s.countGarbled garble).finishNode =
      s.setCensus
        { s.census with counters := counters, stack := stack, tie := tie, outstanding := none, wait := s.census.interval } := by
  cases settles with
  | quiet => rfl
  | split b below isSet clear =>
    have bit : splitBit (s.countGarbled true).census.effective o.node.last = some b := splitBit_eq_some below isSet clear
    simp only [if_true, State.splitNode, bit]
    simp only [State.countGarbled, if_true, passInc, satInc_eq_min]
    rfl
  | tie clear =>
    have bit : splitBit (s.countGarbled true).census.effective o.node.last = none := splitBit_eq_none clear
    simp only [if_true, State.splitNode, bit]
    simp only [State.countGarbled, if_true, passInc, satInc_eq_min]
    rfl

theorem State.NodeSettles.aside {s u : State} {o : Outstanding} {garble : Bool} {counters : PassCounters} {stack : List Node}
    {tie : Option Tie} (settles : s.NodeSettles o garble counters stack tie) (census : u.census = s.census) :
    u.NodeSettles o garble counters stack tie := by
  cases settles with
  | quiet => rw [← census]; exact .quiet
  | split b below isSet clear =>
    rw [← census] at isSet clear ⊢
    exact .split b below isSet clear
  | tie clear =>
    rw [← census] at clear ⊢
    exact .tie clear

theorem State.testPassEnd_more {s : State} (more : s.census.stack ≠ []) : s.testPassEnd = s := if_neg more

/-- The pass ends COMPLETE, and the census stops. -/
theorem State.testPassEnd_single {s : State} (empty : s.census.stack = []) (single : s.census.mode = .single) :
    s.testPassEnd =
      { s with
        link.kinds.census := true
        census :=
          { s.census with
            state := .stopped
            lastPass := some { kind := .complete, cycle := s.cycleNo, counters := s.census.counters, tie := s.census.tie }
            passes := min 255 (s.census.passes + 1) } } := by
  unfold State.testPassEnd
  rw [if_pos empty, ← satInc_eq_min]
  dsimp only
  split
  · rfl
  · next sweep => cases sweep.symm.trans single

/-- The pass ends COMPLETE, and another begins at the root. -/
theorem State.testPassEnd_sweep {s : State} (empty : s.census.stack = []) (sweep : s.census.mode = .sweep) :
    s.testPassEnd =
      { s with
        link.kinds.census := true
        census :=
          { s.census with
            counters := .zero
            tie := none
            stack := [{ pattern := s.census.rootPattern, mask := s.census.rootMask, last := 32 }]
            lastPass := some { kind := .complete, cycle := s.cycleNo, counters := s.census.counters, tie := s.census.tie }
            passes := min 255 (s.census.passes + 1) } } := by
  unfold State.testPassEnd
  rw [if_pos empty, ← satInc_eq_min]
  dsimp only
  split
  · next single => cases single.symm.trans sweep
  · rfl

/-- A node settled in SEARCHING: the test of the pass end follows. -/
theorem State.censusClose_searching {s : State} {o : Outstanding} {garble : Bool} {counters : PassCounters} {stack : List Node}
    {tie : Option Tie} (asked : s.census.outstanding = some o) (searching : s.census.state = .searching)
    (settles : s.NodeSettles o garble counters stack tie) :
    s.censusClose garble =
      (s.setCensus
        { s.census with
          counters := counters, stack := stack, tie := tie, outstanding := none, wait := s.census.interval }).testPassEnd := by
  have state : (s.countGarbled garble).census.state = .searching := by
    unfold State.countGarbled
    split <;> exact searching
  simp only [State.censusClose, asked, state, settles.finished]

/-- A node settled in STOPPING: the pass ends STOPPED. -/
theorem State.censusClose_stopping {s : State} {o : Outstanding} (asked : s.census.outstanding = some o)
    (stopping : s.census.state = .stopping) (garble : Bool) {counters : PassCounters}
    (counted : counters = if garble then { s.census.counters with garbled := min 65535 (s.census.counters.garbled + 1) }
      else s.census.counters) :
    s.censusClose garble =
      { s with
        link.kinds.census := true
        census :=
          { s.census with
            state := .stopped
            counters := counters
            outstanding := none
            wait := s.census.interval
            lastPass := some { kind := .stopped, cycle := s.cycleNo, counters := counters, tie := s.census.tie } } } := by
  have state : (s.countGarbled garble).census.state = .stopping := by
    unfold State.countGarbled
    split <;> exact stopping
  simp only [State.censusClose, asked, state]
  cases garble with
  | false => subst counted; rfl
  | true =>
    subst counted
    simp only [State.countGarbled, if_true, passInc, satInc_eq_min]
    rfl

/-- Settles O43. -/
theorem censusWindowCloses : Obligations.CensusWindowCloses := by
  intro s plan rest j w o next owner asked
  refine ⟨_, congrArg (fun u : State => Host.Outcome.next u.chooseAgain) (State.closeNext_of_next next), ?_⟩
  have told : (s.closedAt plan rest j w).deliverClose w.grant plan.cycle w.garble w.outcome =
      (s.closedAt plan rest j w).censusClose w.garble := by simp only [State.deliverClose, owner]
  rw [told]
  have askedHere : (s.closedAt plan rest j w).census.outstanding = some o := asked
  obtain ⟨c, kinds, run, -⟩ := (s.closedAt plan rest j w).censusClose_run w.garble
  refine ⟨?_, ?_, ?_, ?_, ?_, ?_, fun counters stack tie searching settles => ?_, fun counters stopping counted => ?_⟩
  · rw [run]; rfl
  · rw [run]; rfl
  · rw [run]; rfl
  · rw [run]; rfl
  · rw [run]; rfl
  · rw [run]; rfl
  · rw [State.censusClose_searching askedHere searching (settles.aside rfl)]
    generalize settled : (s.closedAt plan rest j w).setCensus _ = u
    refine ⟨fun more => ?_, fun empty => ?_⟩
    · subst settled
      rw [State.testPassEnd_more more]
      exact ⟨rfl, rfl⟩
    · subst empty
      cases mode : s.census.mode with
      | single =>
        rw [State.testPassEnd_single (by rw [← settled]; rfl) (by rw [← settled]; exact mode)]
        subst settled
        exact ⟨rfl, { s.census with state := .stopped, counters := counters, stack := [], tie := tie }, rfl, fun _ => rfl, nofun⟩
      | sweep =>
        rw [State.testPassEnd_sweep (by rw [← settled]; rfl) (by rw [← settled]; exact mode)]
        subst settled
        exact ⟨rfl,
          { s.census with
            counters := .zero
            stack := [{ pattern := s.census.rootPattern, mask := s.census.rootMask, last := 32 }]
            tie := none }, rfl, nofun, fun _ => rfl⟩
  · rw [State.censusClose_stopping askedHere stopping w.garble counted]
    exact ⟨rfl, rfl⟩

/-! ## The close of a STANDING window (R141, R142) -/

/-- A change of a record without a change of what is visible of it. -/
theorem notNoted_changeTerm_self {s : State} {t : Tag} {h k : Terminal} (record : s.term t = some h)
    (same : visibleOf (some h) = visibleOf (some k)) : notNoted s (s.changeTerm t (some k)) t :=
  notNoted_changeTerm_of_eq s t t _ (by rw [record]; exact same)

theorem notedOnce_changeTerm_self {s : State} {t : Tag} {h k : Terminal} (record : s.term t = some h)
    (differ : visibleOf (some h) ≠ visibleOf (some k)) : notedOnce s (s.changeTerm t (some k)) t :=
  notedOnce_changeTerm s t _ (by rw [record]; exact differ)

theorem visibleOf_active {h : Terminal} {v w : Service} (active : h.phase = .active v) (flags : RecFlags) (level : Option Int) :
    visibleOf (some { h with phase := .active w, flags := flags, level := level }) = { visibleOf (some h) with flags := flags } := by
  simp [visibleOf, recordStateCode, active, Terminal.park]

/-- The service that a missed window leaves: `svc` with one miss more. -/
theorem State.standingMiss_misses {s : State} {t : Tag} {h : Terminal} {was svc missed : Service} (record : s.term t = some h)
    (active : h.phase = .active was) (miss : missed = { svc with miss := svc.miss + 1 }) :
    (missed.miss < (s.roster.profiles.get h.profile).missLimit →
      (s.standingMiss t h svc).term t = some { h with phase := .active missed } ∧ notNoted s (s.standingMiss t h svc) t) ∧
    ((s.roster.profiles.get h.profile).missLimit ≤ missed.miss →
      (s.standingMiss t h svc).term t = some
        { h with
          phase := .silent { missed with returnOut := false } s.cycleNo (s.roster.profiles.get h.profile).grace } ∧
      notedOnce s (s.standingMiss t h svc) t) := by
  subst miss
  unfold State.standingMiss State.profileOf
  dsimp only
  refine ⟨fun fewer => ?_, fun limit => ?_⟩
  · rw [if_neg (Nat.not_le.mpr fewer)]
    exact ⟨State.term_changeTerm_self _ _ _, notNoted_changeTerm_self record (visibleOf_active active h.flags h.level).symm⟩
  · rw [if_pos limit]
    refine ⟨State.term_changeTerm_self _ _ _, notedOnce_changeTerm_self record fun same => ?_⟩
    have code := congrArg Visible.state same
    simp [visibleOf, recordStateCode, active] at code

theorem State.standingMiss_keeps (s : State) (t : Tag) (h : Terminal) (svc : Service) :
    s.SupActs (s.standingMiss t h svc) t ∧ (s.standingMiss t h svc).planner = s.planner ∧ (s.standingMiss t h svc).sup = s.sup :=
  ⟨State.SupActs.changeTerm s t _, (congrArg State.planner (s.changeTerm_rest t _) :), (congrArg State.sup (s.changeTerm_rest t _) :)⟩

/-- Settles O48. -/
theorem standingMissCounts : Obligations.StandingMissCounts := by
  intro s plan rest j w g h svc missed next kind owner tag record active outcome
  refine ⟨_, congrArg (fun u : State => Host.Outcome.next u.chooseAgain) (State.closeNext_of_next next), ?_⟩
  obtain ⟨u, hu⟩ : ∃ u, u = (s.closedAt plan rest j w).updSup g fun x => { x with held := none } := ⟨_, rfl⟩
  have recordHere : u.term g = some h := by rw [hu]; exact record
  obtain ⟨base, miss, closes⟩ : ∃ base : Service, missed = { base with miss := base.miss + 1 } ∧
      (s.closedAt plan rest j w).deliverClose w.grant plan.cycle w.garble w.outcome = u.standingMiss g h base := by
    simp only [State.deliverClose, owner, tag, if_pos kind, State.standingClose, ← hu, recordHere, active]
    rcases outcome with ⟨opened, miss⟩ | ⟨matched, quality, miss⟩ | ⟨matched, quality, miss⟩
    · exact ⟨svc, miss, by simp only [Window.outcome, opened]⟩
    · exact ⟨svc, miss, by simp only [Window.outcome, matched, quality]⟩
    · exact ⟨{ svc with corrupt := satInc 255 svc.corrupt }, by rw [miss, satInc_eq_min],
        by simp only [Window.outcome, matched, quality]⟩
  rw [closes]
  obtain ⟨acts, planner, sup⟩ := u.standingMiss_keeps g h base
  obtain ⟨stays, falls⟩ := State.standingMiss_misses recordHere active miss
  subst hu
  refine ⟨?_, fun f ne => ⟨State.term_of_page (acts.pages f ne), notNoted_of_page_eq (acts.pages f ne)⟩,
    (congrArg LineTimer.notices acts.line :), (congrArg Planner.shots planner :), stays, falls⟩
  rw [sup]
  exact congrArg SupEntry.held (Bank.get_update_self _ _ _)

/-! ## The drift (R60 to R63, R143) -/

theorem addsToDrift_iff (svc : Service) (cycle : CycleNo) :
    addsToDrift svc cycle = true ↔ svc.nudgeOut = false ∧ svc.nudgeCycle ≠ some (cycle + 1) := by
  simp [addsToDrift]

theorem driftAdd_eq (ls : LineSettings) (drift d : Int) :
    driftAdd ls drift d = max (-4096) (min 4095 (drift + max (-(ls.wt : Int)) (min ls.wt d))) := by
  rw [driftAdd, saturateDrift, clampInt_eq (by decide), clampInt_eq (by omega)]

theorem driftMean_eq (d : Int) :
    driftMean d = if d < 0 then -(((d.natAbs + 4) / 8 : Nat) : Int) else ((d.natAbs + 4) / 8 : Nat) := by
  unfold driftMean
  simp

/-- What a drift step makes of the service and the flags, `d` being the drift with the deviation added. -/
structure DriftStep.Steps (x : DriftStep) (ls : LineSettings) (threshold : Nat) (adds : Prop) (d : Int) (svc : Service) (flags : RecFlags) :
    Prop where
  skips : ¬adds → x = { svc := svc, flags := flags, nudge := none }
  saturates : adds → x.flags.driftSat = (flags.driftSat || decide (d = -4096) || decide (d = 4095))
  others : x.flags.rxLow = flags.rxLow ∧ x.flags.levelAlarm = flags.levelAlarm
  gathers : adds → svc.bursts + 1 < 8 →
    x.svc = { svc with drift := d, bursts := svc.bursts + 1 } ∧ x.flags.trimLimit = flags.trimLimit ∧ x.nudge = none
  rests : adds → 8 ≤ svc.bursts + 1 → d.natAbs < 8 * threshold →
    x.svc = { svc with drift := 0, bursts := 0 } ∧ x.flags.trimLimit = flags.trimLimit ∧ x.nudge = none
  corrects : adds → 8 ≤ svc.bursts + 1 → 8 * threshold ≤ d.natAbs → ∀ wanted new : Int,
    wanted = svc.holdoff - driftMean d → new = clampInt 0 ((ls.ref : Int) - ls.eMin) wanted →
    x.flags.trimLimit = (flags.trimLimit || decide (new ≠ wanted)) ∧
      (new = svc.holdoff → x.svc = { svc with drift := 0, bursts := 0 } ∧ x.nudge = none) ∧
      (new ≠ svc.holdoff → x.svc = { svc with drift := 0, bursts := 0, holdoff := new, nudgeOut := true } ∧
        x.nudge = some (new - svc.holdoff))

theorem driftStep_steps (ls : LineSettings) (threshold : Nat) (cycle : CycleNo) (deviation : Int) (svc : Service) (flags : RecFlags) :
    (driftStep ls threshold cycle deviation svc flags).Steps ls threshold (addsToDrift svc cycle = true)
      (driftAdd ls svc.drift deviation) svc flags := by
  unfold driftStep
  generalize driftAdd ls svc.drift deviation = d
  have full : (if d = -4096 ∨ d = 4095 then true else flags.driftSat) = (flags.driftSat || decide (d = -4096) || decide (d = 4095)) := by
    by_cases low : d = -4096 <;> by_cases high : d = 4095 <;> simp [low, high]
  by_cases adds : addsToDrift svc cycle = true
  · rw [if_pos adds]
    dsimp only
    rw [full]
    by_cases eighth : 8 ≤ svc.bursts + 1
    · rw [if_pos eighth]
      unfold driftBlockClose
      dsimp only
      by_cases far : 8 * threshold ≤ d.natAbs
      · rw [if_pos far]
        unfold driftCorrection
        dsimp only
        refine ⟨fun no => absurd adds no, fun _ => rfl, ⟨rfl, rfl⟩, fun _ few => absurd eighth (Nat.not_le.mpr few),
          fun _ _ near => absurd far (Nat.not_le.mpr near), ?_⟩
        rintro - - - wanted new rfl rfl
        refine ⟨?_, fun same => ?_, fun differ => ?_⟩
        · by_cases unclamped : clampInt 0 ((ls.ref : Int) - ls.eMin) (svc.holdoff - driftMean d) = svc.holdoff - driftMean d <;>
            simp [unclamped]
        · simp [same]
        · simp [Int.sub_eq_zero, differ]
      · rw [if_neg far]
        exact ⟨fun no => absurd adds no, fun _ => rfl, ⟨rfl, rfl⟩, fun _ few => absurd eighth (Nat.not_le.mpr few),
          fun _ _ _ => ⟨rfl, rfl, rfl⟩, fun _ _ reaches => absurd reaches far⟩
    · rw [if_neg eighth]
      exact ⟨fun no => absurd adds no, fun _ => rfl, ⟨rfl, rfl⟩, fun _ _ => ⟨rfl, rfl, rfl⟩, fun _ all => absurd all eighth,
        fun _ all => absurd all eighth⟩
  · rw [if_neg adds]
    exact ⟨fun _ => rfl, fun yes => absurd yes adds, ⟨rfl, rfl⟩, fun yes => absurd yes adds, fun yes => absurd yes adds,
      fun yes => absurd yes adds⟩

/-- A NUDGE posted in RUNNING: at the tail of a queue with room, else waiting. -/
theorem State.postNudge_posts {s : State} (running : s.line.state = .running) (t : Tag) (delta : Int) :
    (s.postNudge t delta).book = s.book ∧ ((s.postNudge t delta).sup.get t).held = (s.sup.get t).held ∧
      (s.line.notices.length < 16 → (s.postNudge t delta).line.notices = s.line.notices ++ [⟨.nudge t delta, .supervisor⟩]) ∧
      (16 ≤ s.line.notices.length → (s.postNudge t delta).line.notices = s.line.notices ∧
        ((s.postNudge t delta).sup.get t).waitNudge = some delta) := by
  rw [State.postNudge_eq, if_neg (by simp [running])]
  split
  · next room => exact ⟨rfl, rfl, fun _ => rfl, fun full => absurd room (Nat.not_lt.mpr full)⟩
  · next full =>
    have entry := Bank.get_update_self s.sup t fun x => { x with waitNudge := some delta }
    exact ⟨rfl, (congrArg SupEntry.held entry :), fun room => absurd room full, fun _ => ⟨rfl, (congrArg SupEntry.waitNudge entry :)⟩⟩

/-- What a clean STANDING window leaves, `x` being the drift step made: the record, and the NUDGE where there is one. -/
structure State.CleanStanding (s u : State) (t : Tag) (h : Terminal) (x : DriftStep) : Prop where
  record : u.term t = some { h with flags := x.flags, phase := .active x.svc }
  others : sameOtherRecords s u t
  unnoted : x.flags = h.flags → notNoted s u t
  noted : x.flags ≠ h.flags → notedOnce s u t
  held : (u.sup.get t).held = (s.sup.get t).held
  quiet : x.nudge = none → u.line.notices = s.line.notices
  nudges : ∀ delta, x.nudge = some delta →
    (s.line.notices.length < 16 → u.line.notices = s.line.notices ++ [⟨.nudge t delta, .supervisor⟩]) ∧
    (16 ≤ s.line.notices.length → u.line.notices = s.line.notices ∧ (u.sup.get t).waitNudge = some delta)

theorem State.cleanStanding_standingClean {s : State} (running : s.line.state = .running) {t : Tag} {h : Terminal} {was : Service}
    (record : s.term t = some h) (active : h.phase = .active was) (svc : Service) (r : BurstResult) {x : DriftStep}
    (made : x = driftStep s.line.settings (s.roster.profiles.get h.profile).threshold r.cycle
      (deviationOf r.position r.grant.point) { svc with miss := 0 } { h.flags with rxLow := r.rxLow }) :
    s.CleanStanding (s.standingClean t h svc r) t h x := by
  have closes : s.standingClean t h svc r =
      match x.nudge with
      | some delta => (s.changeTerm t (some { h with flags := x.flags, phase := .active x.svc })).postNudge t delta
      | none => s.changeTerm t (some { h with flags := x.flags, phase := .active x.svc }) := by
    rw [made]
    rfl
  obtain ⟨v, hv⟩ : ∃ v, v = s.changeTerm t (some { h with flags := x.flags, phase := .active x.svc }) := ⟨_, rfl⟩
  rw [← hv] at closes
  have acts : s.SupActs v t := hv ▸ State.SupActs.changeTerm s t _
  have term : v.term t = some { h with flags := x.flags, phase := .active x.svc } := hv ▸ State.term_changeTerm_self _ _ _
  have unnoted (same : x.flags = h.flags) : notNoted s v t := by
    rw [hv, same]
    exact notNoted_changeTerm_self record (visibleOf_active active h.flags h.level).symm
  have noted (differ : x.flags ≠ h.flags) : notedOnce s v t := by
    rw [hv]
    refine notedOnce_changeTerm_self record fun same => differ ?_
    rw [visibleOf_active active x.flags h.level] at same
    exact (congrArg Visible.flags same).symm
  have sup : v.sup = s.sup := hv ▸ State.changeTerm_sup _ _ _
  have line : v.line = s.line := acts.line
  rw [closes]
  split
  · next delta nudge =>
    obtain ⟨book, held, room, full⟩ := State.postNudge_posts (s := v) (by rw [line, running]) t delta
    rw [line] at room full
    refine ⟨(State.term_of_book book t).trans term, fun f ne => ⟨?_, ?_⟩, fun same => notNoted_of_book rfl book (unnoted same),
      fun differ => notedOnce_of_book rfl book (noted differ), by rw [held, sup], fun none => ?_, fun d found => ?_⟩
    · exact (State.term_of_book book f).trans (State.term_of_page (acts.pages f ne))
    · exact notNoted_of_book rfl book (notNoted_of_page_eq (acts.pages f ne))
    · rw [nudge] at none
      cases none
    · cases nudge.symm.trans found
      exact ⟨room, full⟩
  · next nudge =>
    refine ⟨term, fun f ne => ⟨State.term_of_page (acts.pages f ne), notNoted_of_page_eq (acts.pages f ne)⟩, unnoted, noted,
      by rw [sup], fun _ => by rw [line], fun d found => ?_⟩
    rw [nudge] at found
    cases found

/-- Settles O49. -/
theorem standingCleanDrifts : Obligations.StandingCleanDrifts := by
  intro s plan rest j w g h svc r point adds d cleared full running order next matched quality kind owner tag record active held aimed
    hadds hd hcleared hfull
  obtain ⟨u, hu⟩ : ∃ u, u = (s.closedAt plan rest j w).updSup g fun x => { x with held := none } := ⟨_, rfl⟩
  have recordHere : u.term g = some h := by rw [hu]; exact record
  have closes : (s.closedAt plan rest j w).deliverClose w.grant plan.cycle w.garble w.outcome = u.standingClean g h svc r := by
    have heldHere : ((s.closedAt plan rest j w).sup.get g).held = some r := held
    simp only [State.deliverClose, owner, tag, if_pos kind, State.standingClose, ← hu, recordHere, active, Window.outcome, matched,
      quality, heldHere]
  obtain ⟨x, made⟩ : ∃ x, x = driftStep s.line.settings (s.roster.profiles.get h.profile).threshold r.cycle
    (deviationOf r.position r.grant.point) { svc with miss := 0 } { h.flags with rxLow := r.rxLow } := ⟨_, rfl⟩
  have clean : u.CleanStanding (u.standingClean g h svc r) g h x :=
    State.cleanStanding_standingClean (by rw [hu]; exact running) recordHere active svc r (by rw [hu]; exact made)
  have steps := driftStep_steps s.line.settings (s.roster.profiles.get h.profile).threshold r.cycle
    (deviationOf r.position r.grant.point) { svc with miss := 0 } { h.flags with rxLow := r.rxLow }
  have same : (addsToDrift { svc with miss := 0 } r.cycle = true) = adds := propext ((addsToDrift_iff _ _).trans hadds.symm)
  rw [← made, same] at steps
  have drift : driftAdd s.line.settings svc.drift (deviationOf r.position r.grant.point) = d := by
    rw [driftAdd_eq, hd, aimed]
    rfl
  rw [drift] at steps
  have emptied : (u.sup.get g).held = none := by
    rw [hu]
    exact congrArg SupEntry.held (Bank.get_update_self _ _ _)
  have notices : u.line.notices = s.line.notices := by rw [hu]; rfl
  refine ⟨u.standingClean g h svc r, x.svc, x.flags, ?_, clean.record, clean.held.trans emptied, ?_, ?_, ?_, steps.others.1,
    steps.others.2, fun no => ?_, fun yes => ⟨?_, fun few => ?_, fun eighth => ⟨fun near => ?_, fun far mean wanted new hmean hwanted hnew => ?_⟩⟩⟩
  · exact congrArg (fun u : State => Host.Outcome.next u.chooseAgain) ((State.closeNext_of_next next).trans closes)
  · rw [hu] at clean ⊢
    exact fun f ne => clean.others f ne
  · intro unseen
    have unnoted := clean.unnoted unseen
    rw [hu] at unnoted ⊢
    exact unnoted
  · intro seen
    have noted := clean.noted seen
    rw [hu] at noted ⊢
    exact noted
  · have skipped := steps.skips no
    refine ⟨by rw [skipped], by rw [skipped], by rw [skipped], (clean.quiet ?_).trans notices⟩
    rw [skipped]
  · rw [hfull]
    exact steps.saturates yes
  · obtain ⟨service, limit, quiet⟩ := steps.gathers yes few
    exact ⟨service, limit, (clean.quiet quiet).trans notices⟩
  · obtain ⟨service, limit, quiet⟩ := steps.rests yes eighth near
    exact ⟨service.trans hcleared.symm, limit, (clean.quiet quiet).trans notices⟩
  · have corrected := steps.corrects yes eighth far wanted new (by rw [hwanted, hmean, driftMean_eq])
      (by rw [hnew, clampInt_eq (by omega)])
    obtain ⟨limit, rests, moves⟩ := corrected
    refine ⟨limit, fun same => ?_, fun differ => ?_⟩
    · obtain ⟨service, quiet⟩ := rests same
      exact ⟨service.trans hcleared.symm, (clean.quiet quiet).trans notices⟩
    · obtain ⟨service, nudge⟩ := moves differ
      obtain ⟨room, full⟩ := clean.nudges _ nudge
      rw [notices] at room full
      refine ⟨by rw [service, hcleared], room, full⟩

end Sys2Proof.Machine


/-! PROOFS. Conversion ends, frame ends, the close of a plan off RUNNING, and the ends of warm-up and draining (chapters 1, 5 and 9). -/

namespace Sys2Proof.Machine

/-! ## Conversion ends (R144, R156) -/

/-- What a sample in the window or out of it makes of the runs and of the alarm. -/
theorem levelRuns_eq (inside : Bool) (svc : Service) (flags : RecFlags) :
    levelRuns inside svc flags =
      if inside then
        ({ svc with levelIn := min 3 (svc.levelIn + 1), levelOut := 0 },
          { flags with levelAlarm := flags.levelAlarm && decide (svc.levelIn < 2) })
      else
        ({ svc with levelOut := min 3 (svc.levelOut + 1), levelIn := 0 },
          { flags with levelAlarm := flags.levelAlarm || decide (2 ≤ svc.levelOut) }) := by
  have full (n : Nat) : min 3 (n + 1) = 3 ↔ 2 ≤ n := by omega
  unfold levelRuns
  simp only [satInc_eq_min, full]
  split
  · by_cases few : svc.levelIn < 2
    · simp [few, Nat.not_le.mpr few]
    · simp [few, Nat.not_lt.mp few]
  · by_cases enough : 2 ≤ svc.levelOut <;> simp [enough]

/-- A level for an ACTIVE record's swept grant is stored, the runs and the alarm moved. -/
theorem State.supCapture_level {s : State} {t : Tag} {h : Terminal} {svc : Service} (record : s.term t = some h)
    (active : h.phase = .active svc) (level : Int) :
    s.supCapture t (.level level) =
      s.changeTerm t (some
        { h with
          level := some level
          flags := (levelRuns ((s.roster.profiles.get h.profile).low ≤ level && level ≤ (s.roster.profiles.get h.profile).high) svc
            h.flags).2
          phase := .active (levelRuns ((s.roster.profiles.get h.profile).low ≤ level &&
            level ≤ (s.roster.profiles.get h.profile).high) svc h.flags).1 }) := by
  simp only [State.supCapture, record, active]
  rfl

theorem State.supCapture_other {s : State} {t : Tag} (other : ∀ h svc, s.term t = some h → h.phase ≠ .active svc)
    (answer : CaptureAnswer) : s.supCapture t answer = s := by
  unfold State.supCapture
  split
  · next h v record =>
    split
    · next svc active => exact absurd active (other h svc record)
    · rfl
  · rfl

theorem State.elsewhere_supCapture (s : State) (t : Tag) (answer : CaptureAnswer) :
    (s.supCapture t answer).elsewhere = s.elsewhere := by
  unfold State.supCapture
  split
  · split
    · exact s.elsewhere_changeTerm t _
    · rfl
  · rfl

theorem State.elsewhere_answerCapture (s : State) (owner : Owner) (t : Tag) (cycle : CycleNo) (answer : CaptureAnswer) :
    (s.answerCapture owner t cycle answer).elsewhere = s.elsewhere := by
  unfold State.answerCapture
  split
  · exact (State.LaneActs.laneCapture s _ t cycle answer).elsewhere
  · exact s.elsewhere_supCapture t answer
  · rfl

/-- A conversion that is not discarded answers its owner with the level. -/
theorem State.endConversion_answers {s : State} {c : Capture} (converting : s.conv.state = .converting c) (kept : c.discard = false)
    {raw : BitVec 12} {level : Int} (isLevel : RawLevel s.conv.curve c.offset raw level) :
    s.endConversion raw =
      State.answerCapture { s with line.tick := c.begun + BitVec.ofNat 32 (c.window + 16 * c.step), conv.state := .idle } c.owner c.tag
        c.cycle (.level level) := by
  simp only [State.endConversion, converting, State.endCapture, kept, Bool.false_eq_true, if_false, ← rawLevel_levelOf isLevel]
  rfl

/-- Settles O52. -/
theorem conversionEndAnswers : Obligations.ConversionEndAnswers := by
  intro s raw
  refine ⟨fun c converting discard => ?_, fun c level converting kept isLevel => ?_, fun d c slot calibrating second calib sampled => ?_,
    fun d calibrating second none => ?_, fun d calibrating first => ?_, fun c other => ?_⟩
  · refine congrArg (fun u : State => Host.Outcome.next u.chooseAgain) ?_
    simp only [State.endConversion, converting, State.endCapture, discard, if_true]
    rfl
  · obtain ⟨u, hu⟩ : ∃ u, u =
        ({ s with line.tick := c.begun + BitVec.ofNat 32 (c.window + 16 * c.step), conv.state := .idle } : State) := ⟨_, rfl⟩
    have answers : s.endConversion raw = u.answerCapture c.owner c.tag c.cycle (.level level) := by
      rw [hu]
      exact State.endConversion_answers converting kept isLevel
    have conv : (u.answerCapture c.owner c.tag c.cycle (.level level)).conv = u.conv :=
      (congrArg State.conv (u.elsewhere_answerCapture c.owner c.tag c.cycle (.level level)) :)
    have tick : (u.answerCapture c.owner c.tag c.cycle (.level level)).line.tick = u.line.tick :=
      (congrArg LineTimer.tick (u.answerCapture_lineSide c.owner c.tag c.cycle (.level level)) :)
    refine ⟨_, congrArg (fun u : State => Host.Outcome.next u.chooseAgain) answers, ?_, ?_, ?_, ?_, ?_,
      fun h svc v flags owner record active inside outside => ?_, fun owner other => ?_,
      fun i w r owner held tag placed result asked close => ?_⟩
    · rw [tick, hu]
    · rw [conv, hu]
    · rw [State.answerCapture_sup, hu]
    · rw [State.answerCapture_census, hu]
    · rw [State.answerCapture_intake, hu]
    · have recordHere : u.term c.tag = some h := by rw [hu]; exact record
      have profiles : u.roster.profiles = s.roster.profiles := by rw [hu]
      have book : u.book = s.book := by rw [hu]; rfl
      have lanes : u.lanes = s.lanes := by rw [hu]
      have runs : levelRuns ((s.roster.profiles.get h.profile).low ≤ level && level ≤ (s.roster.profiles.get h.profile).high) svc
          h.flags = (v, flags) := by
        rw [levelRuns_eq]
        by_cases fits : (s.roster.profiles.get h.profile).low ≤ level ∧ level ≤ (s.roster.profiles.get h.profile).high
        · obtain ⟨rfl, rfl⟩ := inside fits
          rw [if_pos (by simpa using fits)]
        · obtain ⟨rfl, rfl⟩ := outside (by omega)
          rw [if_neg (by simpa using fits)]
      simp only [State.answerCapture, owner]
      rw [State.supCapture_level recordHere active, profiles, runs]
      refine ⟨State.term_changeTerm_self _ _ _, fun same => ?_, fun differ => ?_, sameOtherRecords_of_change book rfl,
        (State.changeTerm_lanes _ _ _).trans lanes⟩
      · subst same
        exact notNoted_of_book book rfl
          (notNoted_changeTerm_self recordHere (visibleOf_active active h.flags (some level)).symm)
      · refine notedOnce_of_book book rfl (notedOnce_changeTerm_self recordHere fun same => differ ?_)
        rw [visibleOf_active active flags (some level)] at same
        exact (congrArg Visible.flags same).symm
    · simp only [State.answerCapture, owner]
      rw [State.supCapture_other (by rw [hu]; exact other), hu]
      exact ⟨rfl, rfl⟩
    · have heldHere : u.work i = some w := by rw [hu]; exact held
      have asks : w.held.captureAsked = true := by simp [HeldGrant.captureAsked, result, asked]
      have capture : u.laneCapture i c.tag c.cycle (.level level) =
          u.setWork i (some { w with held := { w.held with answer := some (.level level) } }) := by
        rw [← tag]
        simp only [State.laneCapture, State.placedWork_of_work heldHere placed, asks, if_true]
        exact State.settleIfDue_waits u i w c.cycle (.inl close)
      simp only [State.answerCapture, owner]
      rw [capture, hu]
      refine ⟨(State.work_setWork _ _ _ _).trans (if_pos rfl), fun j ne => ?_, rfl⟩
      exact Bank.get_update_of_ne _ _ ne
  · refine congrArg (fun u : State => Host.Outcome.next u.chooseAgain) ?_
    simp only [State.endConversion, calibrating, second, if_true, State.holdDarkCode, calib, sampled]
    rfl
  · refine congrArg (fun u : State => Host.Outcome.next u.chooseAgain) ?_
    simp only [State.endConversion, calibrating, second, if_true, State.holdDarkCode]
    split
    · next c calib =>
      split
      · next slot sampled => exact absurd sampled (none c slot calib)
      · rfl
    · rfl
  · refine congrArg (fun u : State => Host.Outcome.next u.chooseAgain) ?_
    simp only [State.endConversion, calibrating, first, Bool.false_eq_true, if_false]
  · refine congrArg (fun u : State => Host.Outcome.next u.chooseAgain) ?_
    rcases other with state | state <;> simp only [State.endConversion, state]

/-! ## Frame ends (R98) -/

/-- How many windows of the plan are not CLOSED. -/
def StoredPlan.unclosed (p : StoredPlan) : Nat := p.windows.countP fun w => w.state != .closed

/-- `q` is the plan `p` after window closes: the frame and the number of windows are as they were. -/
structure StoredPlan.ClosesTo (p q : StoredPlan) : Prop where
  frame : q.cycle = p.cycle ∧ q.start = p.start ∧ q.len = p.len
  windows : q.windows.length = p.windows.length

theorem State.closeNext_store {s : State} {p : StoredPlan} {rest : List StoredPlan} (store : s.intake.store = p :: rest) :
    ∃ q, s.closeNext.intake.store = q :: rest ∧ p.ClosesTo q ∧ q.unclosed = p.unclosed - 1 := by
  cases next : p.nextWindow with
  | none =>
    have closed : ∀ w ∈ p.windows, w.state = .closed := by simpa [StoredPlan.nextWindow] using next
    have none_left : p.unclosed = 0 := List.countP_eq_zero.mpr fun w hw => by simp [closed w hw]
    refine ⟨p, ?_, ⟨⟨rfl, rfl, rfl⟩, rfl⟩, by rw [none_left]⟩
    rw [State.closeNext_none (.inr ⟨p, rest, store, closed⟩), store]
  | some j =>
    obtain ⟨hj, unclosed, -⟩ := List.findIdx?_eq_some_iff_getElem.mp next
    have window : p.windows[j]? = some p.windows[j] := List.getElem?_eq_getElem hj
    refine ⟨{ p with windows := p.windows.set j { p.windows[j] with state := .closed } }, ?_, ⟨⟨rfl, rfl, rfl⟩, List.length_set⟩, ?_⟩
    · rw [State.closeNext_of_next (nextToClose_of_nextWindow store next window), State.deliverClose_intake]
      rfl
    · unfold StoredPlan.unclosed
      rw [List.countP_set hj, if_pos unclosed]
      rfl

theorem StoredPlan.ClosesTo.trans {p q r : StoredPlan} (first : p.ClosesTo q) (second : q.ClosesTo r) : p.ClosesTo r :=
  ⟨⟨second.frame.1.trans first.frame.1, second.frame.2.1.trans first.frame.2.1, second.frame.2.2.trans first.frame.2.2⟩,
    second.windows.trans first.windows⟩

theorem State.closeMany_store (n : Nat) {s : State} {p : StoredPlan} {rest : List StoredPlan} (store : s.intake.store = p :: rest) :
    ∃ q, (s.closeMany n).intake.store = q :: rest ∧ p.ClosesTo q ∧ q.unclosed = p.unclosed - n := by
  induction n generalizing s p with
  | zero => exact ⟨p, store, ⟨⟨rfl, rfl, rfl⟩, rfl⟩, rfl⟩
  | succ n ih =>
    obtain ⟨q, closed, first, fewer⟩ := State.closeNext_store store
    obtain ⟨r, many, later, fewer'⟩ := ih closed
    exact ⟨r, many, first.trans later, by omega⟩

theorem State.closeMany_closeNext (n : Nat) (s : State) : s.closeNext.closeMany n = (s.closeMany n).closeNext := by
  induction n generalizing s with
  | zero => rfl
  | succ n ih => exact ih s.closeNext

/-- Once as many windows are closed as the plan has, no other close does anything. -/
theorem State.closeMany_settled {s : State} {p : StoredPlan} {rest : List StoredPlan} (store : s.intake.store = p :: rest) :
    (s.closeMany p.windows.length).closeNext = s.closeMany p.windows.length := by
  obtain ⟨q, closed, -, fewer⟩ := State.closeMany_store p.windows.length store
  refine State.closeNext_none (.inr ⟨q, rest, closed, fun w hw => ?_⟩)
  have none_left : q.unclosed = 0 := by
    rw [fewer]
    exact Nat.sub_eq_zero_of_le List.countP_le_length
  simpa using List.countP_eq_zero.mp none_left w hw

theorem State.elsewhere_postNudge (s : State) (t : Tag) (delta : Int) : (s.postNudge t delta).elsewhere = s.elsewhere := by
  rw [State.postNudge_eq]
  split
  · rfl
  · split <;> rfl

theorem State.elsewhere_standingClose (s : State) (t : Tag) (o : CloseOutcome) : (s.standingClose t o).elsewhere = s.elsewhere := by
  have changed (h : Option Terminal) : ((s.updSup t fun x => { x with held := none }).changeTerm t h).elsewhere = s.elsewhere :=
    State.elsewhere_changeTerm _ t h
  unfold State.standingClose
  dsimp only
  split
  · split
    · split
      · unfold State.standingClean
        dsimp only
        split
        · exact (State.elsewhere_postNudge _ t _).trans (changed _)
        · exact changed _
      · exact changed _
      · exact changed _
      · exact changed _
    · rfl
  · rfl

/-- A close that is delivered leaves the converter alone. -/
theorem State.deliverClose_conv (s : State) (g : Grant) (cycle : CycleNo) (garble : Bool) (o : CloseOutcome) :
    (s.deliverClose g cycle garble o).conv = s.conv := by
  unfold State.deliverClose
  split
  · obtain ⟨c, kinds, run, -⟩ := s.censusClose_run garble
    rw [run]
  · exact (congrArg State.conv (State.LaneActs.laneClose s _ _ cycle g.kind o).elsewhere :)
  · split
    · exact (congrArg State.conv (s.elsewhere_standingClose _ o) :)
    · rfl
  · rfl

theorem State.closeNext_conv (s : State) : s.closeNext.conv = s.conv := by
  unfold State.closeNext
  split
  · rfl
  · split
    · rfl
    · split
      · rfl
      · exact State.deliverClose_conv _ _ _ _ _

theorem State.closeMany_conv (n : Nat) (s : State) : (s.closeMany n).conv = s.conv := by
  induction n generalizing s with
  | zero => rfl
  | succ n ih => exact (ih _).trans s.closeNext_conv

/-- The frame end of the first of two stored plans. -/
theorem State.endFrame_eq {s : State} {a b : StoredPlan} {rest : List StoredPlan} (store : s.intake.store = a :: b :: rest) :
    s.endFrame =
      (((s.closeMany a.windows.length).setTick (a.start + BitVec.ofNat 32 (a.len + s.line.settings.ref))).calibFrameEnd
        a.cycle).setStore (b :: rest) := by
  obtain ⟨q, closed, -, -⟩ := State.closeMany_store a.windows.length store
  simp only [State.endFrame, store, State.calibFrameEnd_intake, State.setTick_intake, closed, List.tail_cons]

/-- A frame end does what it does after a window close. -/
theorem State.endFrame_closeNext {s : State} (two : 2 ≤ s.intake.store.length) : s.closeNext.endFrame = s.endFrame := by
  match store : s.intake.store with
  | [] | [_] => simp [store] at two
  | a :: b :: rest =>
    obtain ⟨q, closed, ⟨⟨cycle, start, len⟩, windows⟩, -⟩ := State.closeNext_store store
    have settings : s.closeNext.line.settings = s.line.settings := congrArg HostSide.settings s.closeNext_hostSide
    rw [State.endFrame_eq store, State.endFrame_eq closed, State.closeMany_closeNext, windows, State.closeMany_settled store, cycle,
      start, len, settings]

/-- Settles O50. -/
theorem frameEndLetsGo : Obligations.FrameEndLetsGo := by
  refine ⟨fun s a b rest store => ⟨_, congrArg (fun u : State => Host.Outcome.next u.chooseAgain) (State.endFrame_eq store), rfl, ?_,
    fun c slot code calib sampled cycle => ?_⟩, fun s few => ?_, fun s u frame sending two closes => ?_⟩
  · exact (congrArg LineTimer.tick (State.calibFrameEnd_lineSide ((s.closeMany a.windows.length).setTick _) a.cycle) :)
  · have conv := s.closeMany_conv a.windows.length
    generalize s.closeMany a.windows.length = v at conv
    have calibHere : v.conv.calib = some c := by rw [conv]; exact calib
    have succeeds (x : Tick) : (v.setTick x).calibFrameEnd a.cycle = (v.setTick x).succeedAttempt c code := by
      simp only [State.calibFrameEnd, State.setTick_conv, calibHere, sampled, cycle, if_true]
    rw [succeeds, ← offsetOf_eq]
    exact ⟨rfl, rfl, rfl, rfl, rfl⟩
  · refine congrArg (fun u : State => Host.Outcome.next u.chooseAgain) ?_
    unfold State.endFrame
    split
    · next store => rw [store] at few; simp at few
    · rfl
  · have tx : s.closeNext.link.tx = .sending frame := (congrArg HostSide.tx s.closeNext_hostSide).trans sending
    have next : u = s.closeNext := by
      rw [← State.chooseAgain_of_sending tx]
      exact (Host.Outcome.next.inj closes).symm
    refine congrArg (fun u : State => Host.Outcome.next u.chooseAgain) ?_
    rw [next, State.endFrame_closeNext two]

/-! ## Plan closes off RUNNING, and the ends of warm-up and draining (R3, R6, R10, R65) -/

theorem closePercent_eq {code : Nat} (h : code ≤ 3) : closePercent code = 80 + 5 * code := by
  match code, h with
  | 0, _ | 1, _ | 2, _ | 3, _ => rfl

/-- What a plan close in RUNNING leaves of the line but its queue of notices and its head. -/
theorem State.closeRunning_lineSide (s : State) (cycle : CycleNo) (len : Nat) :
    ({ (s.closeRunning cycle len).line with notices := [], head := none } : LineTimer) =
      { s.line with notices := [], head := none } := by
  have side := ((s.setNotices (s.line.notices.drop 8)).seizeAll.buildPlan_lineSide cycle len).trans
    (s.setNotices (s.line.notices.drop 8)).seizeAll_lineSide
  exact (congrArg (fun l : LineTimer => { l with head := none }) side :)

/-- The state in which the plan close of cycle `c` builds: at its tick, with the next length latched. -/
def State.latched (s : State) (c : Cycle) : State :=
  (s.setTick (c.start + BitVec.ofNat 32 (closeOffset s.line.settings c.len))).setCycle
    (some { c with next := some s.line.pendingLen })

theorem State.closePlan_eq {s : State} {c : Cycle} (cycle : s.line.cycle = some c) (next : c.next = none) :
    s.closePlan =
      match s.line.state with
      | .dark => s
      | .warming =>
        (s.latched c).setNext (some (warmingHead (c.num + 1))) (some (emptyPlan (c.num + 1) s.line.pendingLen))
      | .running => (s.latched c).closeRunning (c.num + 1) s.line.pendingLen
      | .draining =>
        if s.lastDraining then (s.latched c).setNext none none
        else (s.latched c).setNext (some (drainingHead (c.num + 1))) (some (emptyPlan (c.num + 1) s.line.pendingLen)) := by
  simp only [State.closePlan, cycle, next, State.latched] <;> rfl

/-- Settles O32. -/
theorem planCloseLatchesLength : Obligations.PlanCloseLatchesLength := by
  refine ⟨fun s c lit cycle next code => ⟨s.closePlan, rfl, ?_⟩, fun s none => ?_⟩
  · have tick : (s.latched c).line.tick = c.start + BitVec.ofNat 32 (c.len * (80 + 5 * s.line.settings.closeCode) / 100) :=
      congrArg (fun n => c.start + BitVec.ofNat 32 (c.len * n / 100)) (closePercent_eq code)
    rw [State.closePlan_eq cycle next]
    cases state : s.line.state with
    | dark => exact absurd state lit
    | warming =>
      exact ⟨tick, rfl, state, fun _ => ⟨rfl, rfl⟩, nofun, fun _ => ⟨rfl, rfl, rfl, rfl, rfl, rfl, rfl, rfl⟩⟩
    | running =>
      have side := (s.latched c).closeRunning_lineSide (c.num + 1) s.line.pendingLen
      dsimp only
      generalize (s.latched c).closeRunning (c.num + 1) s.line.pendingLen = t at side
      have cycleHere : t.line.cycle = some { c with next := some s.line.pendingLen } := (congrArg LineTimer.cycle side :)
      exact ⟨(congrArg LineTimer.tick side).trans tick, cycleHere,
        (congrArg LineTimer.state side).trans state, fun h => by simp at h, nofun, fun h => absurd rfl h⟩
    | draining =>
      by_cases last : s.lastDraining = true
      · simp only [last, if_true]
        refine ⟨tick, rfl, state, fun h => ?_, fun _ _ _ => ⟨rfl, rfl⟩, fun _ => ⟨rfl, rfl, rfl, rfl, rfl, rfl, rfl, rfl⟩⟩
        simp [State.lastDraining, state] at last
        rcases h with h | ⟨-, h | h⟩
        · exact absurd h nofun
        · exact absurd (h.symm.trans last.1) nofun
        · omega
      · simp only [last]
        refine ⟨tick, rfl, state, fun _ => ⟨rfl, rfl⟩, fun _ mark few => absurd ?_ last,
          fun _ => ⟨rfl, rfl, rfl, rfl, rfl, rfl, rfl, rfl⟩⟩
        simp [State.lastDraining, state, mark, few]
  · refine congrArg (fun u : State => Host.Outcome.next u.chooseAgain) ?_
    rcases none with none | ⟨c, n, cycle, next⟩
    · simp only [State.closePlan, none]
    · simp only [State.closePlan, cycle, next]

end Sys2Proof.Machine


/-! PROOFS. The head as it is sent, what a cycle start leaves of the line and of the records, and the ends of warm-up and
draining (chapters 1, 5 and 12). -/

namespace Sys2Proof.Machine

/-! ## The head (R191) -/

theorem Grant.bytes_length (g : Grant) : g.bytes.length = 15 := by simp [Grant.bytes]

theorem NoticeBody.bytes_length (n : NoticeBody) : n.bytes.length = 9 := by
  cases n <;> simp [NoticeBody.bytes, leSigned]

theorem leBytes_zero (n : Nat) : leBytes n 0 = List.replicate n 0 := by
  induction n with
  | zero => rfl
  | succ n ih => rw [leBytes, Nat.zero_div, ih]; rfl

theorem leBytes_four_of_small {n : Nat} (small : n < 256) : leBytes 4 n = [byteOf n, 0, 0, 0] := by
  rw [leBytes, Nat.div_eq_of_lt small, leBytes_zero]
  rfl

theorem Grant.bytes_entry (g : Grant) : GrantEntry g g.bytes where
  length := g.bytes_length
  kind := by cases kind : g.kind <;> simp [Grant.bytes, kind, GrantKind.code]
  tag := ⟨fun census => by simp [Grant.bytes, census, byteOf], fun t other tag => by simp [Grant.bytes, other, tag]⟩
  start low high := by
    have fits : g.start.toNat % 2 ^ 20 = g.start.toNat := Nat.mod_eq_of_lt (by omega)
    simp only [Grant.bytes, fits]
    rfl
  standing := by
    by_cases standing : g.kind = .standing
    · simp only [Grant.bytes, standing, if_true]; rfl
    · simp only [Grant.bytes, standing, if_false]; rfl
  pattern := by
    by_cases census : g.kind = .census
    · simp only [Grant.bytes, census, if_true]; rfl
    · simp only [Grant.bytes, census, if_false]; rfl
  mask := by
    by_cases census : g.kind = .census
    · simp only [Grant.bytes, census, if_true]; rfl
    · simp only [Grant.bytes, census, if_false]; rfl

theorem NoticeBody.bytes_entry (n : NoticeBody) : NoticeEntry n n.bytes := by
  have tagBytes (t : Tag) : leBytes 4 (tagNum t) = [byteOf (tagNum t), 0, 0, 0] := leBytes_four_of_small (tagNum_lt t)
  match n with
  | .tagOffer serial t => simp [NoticeEntry, NoticeBody.bytes, tagBytes]
  | .holdoff t value => simp [NoticeEntry, NoticeBody.bytes, tagBytes]
  | .nudge t delta => simp [NoticeEntry, NoticeBody.bytes, tagBytes, leSigned]
  | .standDown (some t) reason =>
    have code : leBytes 4 reason.code.toNat = [reason.code, 0, 0, 0] := by
      rw [leBytes_four_of_small (by cases reason <;> decide), byteOf, BitVec.ofNat_toNat, BitVec.setWidth_eq]
    simp [NoticeEntry, NoticeBody.bytes, tagBytes, code]
  | .standDown none reason =>
    have code : leBytes 4 reason.code.toNat = [reason.code, 0, 0, 0] := by
      rw [leBytes_four_of_small (by cases reason <;> decide), byteOf, BitVec.ofNat_toNat, BitVec.setWidth_eq]
    have all : leBytes 4 255 = [255, 0, 0, 0] := leBytes_four_of_small (by decide)
    simp [NoticeEntry, NoticeBody.bytes, all, code]
  | .hush serial cycles => simp [NoticeEntry, NoticeBody.bytes]

/-- An entry among those of one size, found at its place behind what is before them. -/
theorem part_of_entries {α : Type} {f : α → List Byte} {n off : Nat} (length : ∀ x, (f x).length = n) {front : List Byte}
    (before : front.length = off) (rest : List Byte) {l : List α} {k : Nat} {x : α} (found : l[k]? = some x) :
    ((front ++ (l.flatMap f ++ rest)).drop (off + n * k)).take n = f x := by
  have inside : k < l.length := (List.getElem?_eq_some_iff.mp found).1
  have room : n * k + n ≤ (l.flatMap f).length := by
    rw [length_flatMap_of length, ← Nat.mul_succ]
    exact Nat.mul_le_mul_left n inside
  rw [← before, List.drop_length_add_append, List.drop_append_of_le_length (by omega), List.take_append_of_le_length,
    part_of_flatMap length found]
  rw [List.length_drop]
  omega

/-- The bytes of a head before its check. -/
def Head.counted (h : Head) : List Byte :=
  leBytes 2 h.cycle.toNat ++ [boolByte h.draining, byteOf h.grants.length, byteOf h.notices.length] ++
    (h.grants.flatMap Grant.bytes ++ h.notices.flatMap fun n => n.body.bytes)

theorem Head.bytes_eq (h : Head) : h.bytes = h.counted ++ leBytes 2 (crcOf h.counted).toNat := by
  simp only [Head.bytes, Head.counted, List.append_assoc]

theorem Head.counted_length (h : Head) : h.counted.length = 5 + 15 * h.grants.length + 9 * h.notices.length := by
  have grants := length_flatMap_of Grant.bytes_length h.grants
  have notices := length_flatMap_of (fun n : LineNotice => n.body.bytes_length) h.notices
  simp only [Head.counted, List.length_append, grants, notices, leBytes_length, List.length_cons, List.length_nil]
  omega

/-- The bytes of a head are laid out as 12.6 lists them. -/
theorem Head.bytes_layout (h : Head) : HeadLayout h h.bytes := by
  have counted := h.counted_length
  have five : (leBytes 2 h.cycle.toNat ++ [boolByte h.draining, byteOf h.grants.length, byteOf h.notices.length]).length = 5 := by
    simp
  have grantBytes := length_flatMap_of Grant.bytes_length h.grants
  have length : h.bytes.length = h.counted.length + 2 := by rw [Head.bytes_eq, List.length_append, leBytes_length]
  have atEnd : h.bytes.length - 2 = h.counted.length := by omega
  have parts : h.bytes = (leBytes 2 h.cycle.toNat ++ [boolByte h.draining, byteOf h.grants.length, byteOf h.notices.length]) ++
      (h.grants.flatMap Grant.bytes ++ ((h.notices.flatMap fun n => n.body.bytes) ++ leBytes 2 (crcOf h.counted).toNat)) := by
    rw [Head.bytes_eq, Head.counted]
    simp only [List.append_assoc]
  refine ⟨by omega, ?_, fun k g found => ?_, fun k n found => ?_, ?_⟩
  · rw [parts, List.take_left' five]
    rfl
  · rw [parts, part_of_entries Grant.bytes_length five _ found]
    exact g.bytes_entry
  · have before : ((leBytes 2 h.cycle.toNat ++ [boolByte h.draining, byteOf h.grants.length, byteOf h.notices.length]) ++
        h.grants.flatMap Grant.bytes).length = 5 + 15 * h.grants.length := by
      rw [List.length_append, five, grantBytes]
    rw [parts, ← List.append_assoc, part_of_entries (fun n : LineNotice => n.body.bytes_length) before _ found]
    exact n.body.bytes_entry
  · rw [atEnd, Head.bytes_eq, List.drop_left, List.take_left]

/-! ## Records that no window close touches (R36, R122, R141) -/

theorem State.book_censusClose (s : State) (garble : Bool) : (s.censusClose garble).book = s.book := by
  obtain ⟨c, kinds, run, -⟩ := s.censusClose_run garble
  rw [run]
  rfl

theorem State.page_of_book {s u : State} (h : u.book = s.book) (t : Tag) : u.page t = s.page t :=
  congrArg (fun b : Bank Record 128 × Bank Bool 128 => (b.1.get t, b.2.get t)) h

/-- The record of `t` is neither ENGAGED nor ACTIVE. -/
def State.atRest (s : State) (t : Tag) : Prop := ∀ h, s.term t = some h → h.lane = none ∧ ∀ svc, h.phase ≠ .active svc

theorem State.atRest_of_page {s u : State} {t : Tag} (page : u.page t = s.page t) (rest : s.atRest t) : u.atRest t := by
  unfold State.atRest
  rw [State.term_of_page page]
  exact rest

theorem State.engagedTo_of_atRest {s : State} {t : Tag} (rest : s.atRest t) (i : LaneNo) : s.engagedTo i t = none := by
  unfold State.engagedTo
  split
  · next h record =>
    split
    · next j trim engaged => exact absurd (rest h record).1 (by simp [Terminal.lane, engaged])
    · rfl
  · rfl

theorem State.book_postNudge (s : State) (t : Tag) (delta : Int) : (s.postNudge t delta).book = s.book := by
  rw [State.postNudge_eq]
  (repeat' split) <;> rfl

theorem State.page_standingClose {s : State} {g : Tag} (rest : s.atRest g) (t : Tag) (o : CloseOutcome) :
    (s.standingClose t o).page g = s.page g := by
  unfold State.standingClose
  dsimp only
  split
  · next h record =>
    split
    · next svc active =>
      have other : g ≠ t := by
        rintro rfl
        exact (rest h record).2 svc active
      have change (u : State) (k : Option Terminal) : (u.changeTerm t k).page g = u.page g := u.page_changeTerm_of_ne k other
      split
      · next r _ =>
        unfold State.standingClean
        dsimp only
        split
        · exact (State.page_of_book (State.book_postNudge _ t _) g).trans (change _ _)
        · exact change _ _
      all_goals exact change _ _
    · rfl
  · rfl

theorem State.page_deliverClose {s : State} {g : Tag} (rest : s.atRest g) (x : Grant) (cycle : CycleNo) (garble : Bool)
    (o : CloseOutcome) : (s.deliverClose x cycle garble o).page g = s.page g := by
  unfold State.deliverClose
  split
  · exact State.page_of_book (s.book_censusClose garble) g
  · next i t _ _ =>
    have acts := State.LaneActs.laneClose s i t cycle x.kind o
    by_cases own : g = t
    · subst own
      exact acts.stray (State.engagedTo_of_atRest rest i)
    · exact acts.pages g own
  · split
    · exact State.page_standingClose rest _ o
    · rfl
  · rfl

theorem State.page_closeNext {s : State} {g : Tag} (rest : s.atRest g) : s.closeNext.page g = s.page g := by
  unfold State.closeNext
  split
  · rfl
  · split
    · rfl
    · split
      · rfl
      · dsimp only
        apply State.page_deliverClose
        exact rest

theorem State.page_closeMany {s : State} {g : Tag} (rest : s.atRest g) (n : Nat) : (s.closeMany n).page g = s.page g := by
  induction n generalizing s with
  | zero => rfl
  | succ n ih => exact (ih (State.atRest_of_page (State.page_closeNext rest) rest)).trans (State.page_closeNext rest)

theorem State.book_calibFrameEnd (s : State) (cycle : CycleNo) : (s.calibFrameEnd cycle).book = s.book := by
  unfold State.calibFrameEnd
  (repeat' split) <;> rfl

theorem State.page_endFrame {s : State} {g : Tag} (rest : s.atRest g) : s.endFrame.page g = s.page g := by
  match store : s.intake.store with
  | [] | [_] => unfold State.endFrame; simp only [store]
  | a :: b :: l =>
    rw [State.endFrame_eq store]
    exact (State.page_of_book (State.book_calibFrameEnd _ _) g).trans (State.page_closeMany rest a.windows.length)

/-! ## What a cycle start leaves elsewhere -/

theorem State.elsewhere_laneDeparture (s : State) (carried : List LineNotice) (i : LaneNo) :
    (s.laneDeparture carried i).elsewhere = s.elsewhere := by
  unfold State.laneDeparture
  split
  · rfl
  · next w _ =>
    have posted (w' : LaneWork) (e : OneShot) : (s.lanePostShot i w' e).elsewhere = s.elsewhere :=
      (State.LaneActs.lanePostShot s i w.tag w' e).elsewhere
    split
    · dsimp only
      split
      · split
        · exact posted _ _
        · exact posted _ _
        · rfl
      · rfl
    · rfl

theorem State.elsewhere_nudgeDeparture (s : State) (cycle : CycleNo) (t : Tag) :
    (s.nudgeDeparture cycle t).elsewhere = s.elsewhere := by
  unfold State.nudgeDeparture
  (repeat' split) <;> rfl

theorem State.elsewhere_departures (s : State) (carried : List LineNotice) : (s.departures carried).elsewhere = s.elsewhere :=
  (foldl_proj State.elsewhere _ (fun u t => u.elsewhere_nudgeDeparture _ t) _ _).trans
    (foldl_proj State.elsewhere _ (fun u i => u.elsewhere_laneDeparture carried i) _ _)

theorem State.elsewhere_repostRoster (s : State) : s.repostRoster.elsewhere = s.elsewhere :=
  foldl_proj State.elsewhere _ (fun u (n : LineNotice) => u.elsewhere_rosterPost n.body) s.roster.waiting (s.setWaiting [])

theorem State.elsewhere_graceTick (s : State) (t : Tag) : (s.graceTick t).elsewhere = s.elsewhere := by
  unfold State.graceTick
  split
  · split
    · dsimp only
      split
      · exact (State.elsewhere_standDown _ t .lost).trans (State.elsewhere_parkRecord _ t _ _ _)
      · rfl
    · rfl
  · rfl

theorem State.elsewhere_laneRepostNotice (s : State) (i : LaneNo) : (s.laneRepostNotice i).elsewhere = s.elsewhere := by
  unfold State.laneRepostNotice
  split
  · rfl
  · next w _ =>
    split
    · exact (State.LaneActs.lanePostNotice s i w.tag w _).elsewhere
    · rfl

theorem State.elsewhere_repostNudge (s : State) (t : Tag) : (s.repostNudge t).elsewhere = s.elsewhere := by
  unfold State.repostNudge
  split
  · rfl
  · exact State.elsewhere_postNudge _ t _

theorem State.elsewhere_postReturn (s : State) (t : Tag) : (s.postReturn t).elsewhere = s.elsewhere := by
  rw [State.postReturn_eq]
  (repeat' split) <;> rfl

theorem State.elsewhere_returnDue (s : State) (t : Tag) : (s.returnDue t).elsewhere = s.elsewhere := by
  unfold State.returnDue
  split
  · split
    · split
      · exact State.elsewhere_postReturn _ t
      · rfl
    · rfl
  · rfl

theorem State.elsewhere_cycleStartPostings (s : State) : s.cycleStartPostings.elsewhere = s.elsewhere := by
  unfold State.cycleStartPostings
  exact (foldl_proj State.elsewhere _ State.elsewhere_returnDue _ _).trans
    ((foldl_proj State.elsewhere _ State.elsewhere_repostNudge _ _).trans
      ((foldl_proj State.elsewhere _ State.elsewhere_laneRepostNotice _ _).trans
        ((foldl_proj State.elsewhere _ State.elsewhere_graceTick _ _).trans s.elsewhere_repostRoster)))

/-- The calibration when the plan of `cycle` is issued at `start`: the attempt whose dark slot the plan carries is counted and
PLACED (R163). -/
def calibIssued (calib : Option Calibration) (ref : Nat) (cycle : CycleNo) (start : Tick) (slot : Option Slot) :
    Option Calibration :=
  match calib, slot with
  | some c, some span =>
    if c.phase = .waiting then
      some
        { c with
          attempts := c.attempts + 1
          phase := .placed { cycle := cycle, span := span, startTick := start + BitVec.ofNat 32 (ref + span.first) } }
    else calib
  | _, _ => calib

theorem State.issueSlot_eq (s : State) (cycle : CycleNo) (start : Tick) (slot : Option Slot) :
    s.issueSlot cycle start slot =
      { s with conv.calib := calibIssued s.conv.calib s.line.settings.ref cycle start slot } := by
  unfold State.issueSlot calibIssued
  cases calib : s.conv.calib with
  | none => simp only [← calib]
  | some c =>
    cases slot with
    | none => simp only [← calib]
    | some span =>
      dsimp only
      split
      · next waiting => simp only [waiting, if_true]; rfl
      · next other => rw [if_neg other, ← calib]

theorem State.issuePlan_eq (s : State) (p : Plan) (start : Tick) :
    s.issuePlan p start =
      { s with
        planner.built := none
        planner.framerPlan := some p
        intake.store := s.intake.store ++ [p.stored start]
        conv.calib := calibIssued s.conv.calib s.line.settings.ref p.cycle start p.slot } :=
  State.issueSlot_eq _ _ _ _

/-- The state at the start of the cycle behind `c` once its head is sent and its plan issued, before anything departs. -/
def State.issued (s : State) (c : Cycle) (len : Nat) (h : Head) (p : Plan) : State :=
  ((s.endFrame.advanceCycle c len).sendHead h).issuePlan p (c.start + BitVec.ofNat 32 c.len)

/-- The postings of a cycle start, in RUNNING. -/
def State.postIfRunning (s : State) : State := if s.running then s.cycleStartPostings else s

theorem State.nextCycle_eq {s : State} {c : Cycle} {len : Nat} {h : Head} {p : Plan} (lit : s.line.state ≠ .dark)
    (cycle : s.line.cycle = some c) (next : c.next = some len) (head : s.line.head = some h) (built : s.planner.built = some p) :
    s.nextCycle = some (c, len, h, p) := by
  simp only [State.nextCycle, (State.lit_iff s).mpr lit, cycle, head, built, next, if_true, Option.map_some]

theorem State.startCycle_stages {s : State} {c : Cycle} {len : Nat} {h : Head} {p : Plan}
    (next : s.nextCycle = some (c, len, h, p)) :
    s.startCycle = (((s.issued c len h p).departures h.notices).countdowns).postIfRunning := by
  simp only [State.startCycle, next]
  rfl

theorem State.elsewhere_startCycle {s : State} {c : Cycle} {len : Nat} {h : Head} {p : Plan}
    (next : s.nextCycle = some (c, len, h, p)) :
    s.startCycle.elsewhere = (s.issued c len h p).countdowns.elsewhere := by
  have posted (u : State) : u.postIfRunning.elsewhere = u.elsewhere := by
    unfold State.postIfRunning
    split
    · exact u.elsewhere_cycleStartPostings
    · rfl
  have counted {u v : State} (same : u.elsewhere = v.elsewhere) : u.countdowns.elsewhere = v.countdowns.elsewhere :=
    (congrArg (fun x : State => { x with census.wait := x.census.wait - 1 }) same :)
  rw [State.startCycle_stages next, posted]
  exact counted (State.elsewhere_departures _ _)

theorem State.issued_eq (s : State) (c : Cycle) (len : Nat) (h : Head) (p : Plan) {u : State}
    (advanced : u = s.endFrame.advanceCycle c len) :
    s.issued c len h p =
      { u with
        line.head := none
        line.headOut := h.bytes
        planner.built := none
        planner.framerPlan := some p
        intake.store := u.intake.store ++ [p.stored (c.start + BitVec.ofNat 32 c.len)]
        conv.calib :=
          calibIssued u.conv.calib u.line.settings.ref p.cycle (c.start + BitVec.ofNat 32 c.len) p.slot } := by
  rw [State.issued, State.issuePlan_eq, ← advanced]
  rfl

/-- What of the line a frame end leaves: all but its tick and its notices. -/
theorem State.lineCore_endFrame (s : State) : s.endFrame.lineCore = s.lineCore := s.evolves_endFrame.lineCore

/-! ## The ends of warm-up and draining (R3, R6) -/

theorem State.advanceCycle_of_last_warming {u : State} (warming : u.line.state = .warming) (last : u.line.warmup ≤ 1) (c : Cycle)
    (len : Nat) :
    u.advanceCycle c len =
      { u with
        line.tick := c.start + BitVec.ofNat 32 c.len
        line.cycle := some { num := c.num + 1, start := c.start + BitVec.ofNat 32 c.len, len := len, next := none }
        line.warmup := u.line.warmup - 1
        line.state := .running
        line.prev := u.line.state
        line.transitions := satInc 255 u.line.transitions
        link.kinds.line := true } := by
  unfold State.advanceCycle
  dsimp only
  split
  · rw [if_pos (by omega)]
    rfl
  · next draining => exact absurd (draining.symm.trans warming) nofun
  · next other _ => exact absurd warming other

/-- Settles O30. -/
theorem warmupAndDrainingEnd : Obligations.WarmupAndDrainingEnd := by
  refine ⟨fun s c len h p warming last cycle next head built => ?_, fun s other => ?_, fun s c draining marked last cycle => ?_,
    fun s other => ?_⟩
  · have some := State.nextCycle_eq (by simp [warming]) cycle next head built
    have core := s.lineCore_endFrame
    have ends : s.warmupEnds = true := by simp [State.warmupEnds, warming, last]
    have same := State.elsewhere_startCycle some
    rw [State.issued_eq s c len h p
      (State.advanceCycle_of_last_warming ((congrArg LineTimer.state core :).trans warming)
        ((congrArg LineTimer.warmup core :).trans last).le c len).symm] at same
    refine ⟨s.startCycle, ?_, rfl, (congrArg (·.line.state) same :), ?_, ?_, ?_,
      (congrArg (·.link.kinds.line) same :), ?_⟩
    · exact congrArg (fun u : State => Host.Outcome.next u.chooseAgain) (if_pos ends)
    · exact (congrArg (·.line.prev) same :).trans ((congrArg LineTimer.state core :).trans warming)
    · exact (congrArg (·.line.warmup) same :).trans ((congrArg (fun l : LineTimer => l.warmup - 1) core :).trans (by rw [show s.lineCore.warmup = 1 from last]))
    · exact (congrArg (·.line.transitions) same :).trans
        ((congrArg (fun l : LineTimer => satInc 255 l.transitions) core :).trans (satInc_eq_min _ _))
    · rw [show s.startCycle.line.cycle = _ from (congrArg (·.line.cycle) same :)]
      rfl
  · refine congrArg (fun u : State => Host.Outcome.next u.chooseAgain) (if_neg ?_)
    rcases other with state | left
    · simp [State.warmupEnds, state]
    · simp [State.warmupEnds, left]
  · have ends : s.lastDraining = true := by simp [State.lastDraining, draining, marked, last]
    refine congrArg (fun u : State => Host.Outcome.next u.chooseAgain) ?_
    simp only [State.endDraining, cycle, ends, if_true]
    rw [State.goDark_eq, satInc_eq_min, ← draining]
    rfl
  · refine congrArg (fun u : State => Host.Outcome.next u.chooseAgain) ?_
    have notLast : ¬s.lastDraining = true := by
      rcases other with state | left
      · simp [State.lastDraining, state]
      · simp [State.lastDraining, left]
    simp only [State.endDraining, notLast]
    split <;> rfl

/-! ## One record at a cycle start (R35, R63, R145, R147) -/

/-- What a step keeps whatever it is given, a walk keeps. -/
theorem foldl_keeps {α ι : Type} {P : α → Prop} {f : α → ι → α} (each : ∀ u x, P u → P (f u x)) (l : List ι) {s : α} (h : P s) :
    P (l.foldl f s) := by
  induction l generalizing s with
  | nil => exact h
  | cons x l ih => exact ih (each s x h)

theorem State.book_lanePostShot (s : State) (i : LaneNo) (w : LaneWork) (e : OneShot) : (s.lanePostShot i w e).book = s.book := by
  rw [State.lanePostShot_eq]
  (repeat' split) <;> rfl

theorem State.book_lanePostNotice (s : State) (i : LaneNo) (w : LaneWork) (body : NoticeBody) :
    (s.lanePostNotice i w body).book = s.book := by
  rw [State.lanePostNotice_eq]
  (repeat' split) <;> rfl

theorem State.book_laneDeparture (s : State) (carried : List LineNotice) (i : LaneNo) :
    (s.laneDeparture carried i).book = s.book := by
  unfold State.laneDeparture
  dsimp only
  (repeat' split) <;> first | rfl | exact s.book_lanePostShot i _ _

theorem State.page_nudgeDeparture_of_ne (s : State) (cycle : CycleNo) {t g : Tag} (ne : g ≠ t) :
    (s.nudgeDeparture cycle t).page g = s.page g := by
  have put (k : Option Terminal) : (s.putTerm t k).page g = s.page g := Prod.ext (Bank.get_update_of_ne _ _ ne) rfl
  unfold State.nudgeDeparture
  (repeat' split) <;> first | rfl | exact put _

theorem State.nudgeDeparture_of_unserved {s : State} {t : Tag} (unserved : ∀ h, s.term t = some h → h.service = none)
    (cycle : CycleNo) : s.nudgeDeparture cycle t = s := by
  unfold State.nudgeDeparture
  split
  · next h record =>
    have none := unserved h record
    unfold Terminal.service at none
    split <;> simp_all
  · rfl

/-- The departures leave a record alone that is not in service. -/
theorem State.page_departures {s : State} {g : Tag} (unserved : ∀ h, s.term g = some h → h.service = none)
    (carried : List LineNotice) : (s.departures carried).page g = s.page g := by
  unfold State.departures
  refine foldl_keeps (P := fun u : State => u.page g = s.page g) (fun u t same => ?_) _
    (foldl_keeps (P := fun u : State => u.page g = s.page g) (fun u i same => ?_) _ rfl)
  · by_cases own : g = t
    · subst own
      rw [State.nudgeDeparture_of_unserved (by rw [State.term_of_page same]; exact unserved), same]
    · rw [State.page_nudgeDeparture_of_ne _ _ own, same]
  · rw [State.page_of_book (u.book_laneDeparture carried i), same]

theorem State.page_countdowns (s : State) (t : Tag) : s.countdowns.page t = ((s.roster.records.get t).holdTick, s.link.recFlags.get t) :=
  Prod.ext (Bank.get_map _ _ _) rfl

theorem State.page_graceTick_of_ne (s : State) {t g : Tag} (ne : g ≠ t) : (s.graceTick t).page g = s.page g := by
  unfold State.graceTick
  split
  · split
    · dsimp only
      split
      · unfold State.parkLost State.parkRecord
        rw [State.page_of_book (State.book_standDown _ t .lost), State.page_changeTerm_of_ne _ _ ne]
        rfl
      · exact Prod.ext (Bank.get_update_of_ne _ _ ne) rfl
    · rfl
  · rfl

theorem State.graceTick_of_not_silent {s : State} {t : Tag} (other : ∀ h, s.term t = some h → h.silence = none) :
    s.graceTick t = s := by
  unfold State.graceTick
  split
  · next h record =>
    split
    · next silent => exact absurd (other h record) (by simp [Terminal.silence, silent])
    · rfl
  · rfl

theorem State.book_postReturn (s : State) (t : Tag) : (s.postReturn t).book = s.book := by
  rw [State.postReturn_eq]
  (repeat' split) <;> rfl

theorem State.page_returnDue_of_ne (s : State) {t g : Tag} (ne : g ≠ t) : (s.returnDue t).page g = s.page g := by
  unfold State.returnDue
  split
  · split
    · split
      · rw [State.page_of_book (State.book_postReturn _ t)]
        exact Prod.ext (Bank.get_update_of_ne _ _ ne) rfl
      · rfl
    · rfl
  · rfl

theorem State.returnDue_of_not_silent {s : State} {t : Tag} (other : ∀ h, s.term t = some h → h.silence = none) :
    s.returnDue t = s := by
  unfold State.returnDue
  split
  · next h record =>
    split
    · next silent => exact absurd (other h record) (by simp [Terminal.silence, silent])
    · rfl
  · rfl

theorem State.book_laneRepostNotice (s : State) (i : LaneNo) : (s.laneRepostNotice i).book = s.book := by
  unfold State.laneRepostNotice
  (repeat' split) <;> first | rfl | exact s.book_lanePostNotice i _ _

theorem State.book_repostNudge (s : State) (t : Tag) : (s.repostNudge t).book = s.book := by
  unfold State.repostNudge
  split
  · rfl
  · exact State.book_postNudge _ t _

theorem State.book_repostRoster (s : State) : s.repostRoster.book = s.book :=
  foldl_proj State.book _ (fun u (n : LineNotice) => u.book_rosterPost n.body) s.roster.waiting (s.setWaiting [])

/-- The postings of a cycle start leave a record alone that is not SILENT. -/
theorem State.page_cycleStartPostings {s : State} {g : Tag} (other : ∀ h, s.term g = some h → h.silence = none) :
    s.cycleStartPostings.page g = s.page g := by
  have step {f : State → Tag → State} (own : ∀ (u : State) (t : Tag), g ≠ t → (f u t).page g = u.page g)
      (still : ∀ u : State, (∀ h, u.term g = some h → h.silence = none) → f u g = u) {u : State} (same : u.page g = s.page g) :
      (allTags.foldl f u).page g = s.page g := by
    refine foldl_keeps (P := fun u : State => u.page g = s.page g) (fun u t same => ?_) _ same
    by_cases eq : g = t
    · subst eq
      rw [still u (by rw [State.term_of_page same]; exact other), same]
    · rw [own u t eq, same]
  unfold State.cycleStartPostings
  dsimp only
  refine step (fun u t ne => u.page_returnDue_of_ne ne) (fun u => State.returnDue_of_not_silent) ?_
  rw [State.page_of_book (foldl_proj State.book _ State.book_repostNudge _ _),
    State.page_of_book (foldl_proj State.book _ State.book_laneRepostNotice _ _)]
  exact step (fun u t ne => u.page_graceTick_of_ne ne) (fun u => State.graceTick_of_not_silent)
    (State.page_of_book s.book_repostRoster g)

end Sys2Proof.Machine


/-! PROOFS. What a cycle start issues, and whom it loses (chapters 1 to 5 and 8). -/

namespace Sys2Proof.Machine

/-! ## The issue (R9, R35, R86, R105, R163) -/

/-- A record at rest when its head departs, and whatever it holds then, at the countdowns. -/
theorem State.page_issued {s : State} {g : Tag} (rest : s.atRest g) (c : Cycle) (len : Nat) (h : Head) (p : Plan) :
    (s.issued c len h p).page g = s.page g := by
  obtain ⟨line, kinds, advanced, -⟩ := s.endFrame.advanceCycle_keeps c len
  rw [State.issued_eq s c len h p advanced.symm]
  exact State.page_endFrame rest

/-- A PARKED record at a cycle start: its hold counts down. -/
theorem State.term_startCycle_of_parked {s : State} {c : Cycle} {len : Nat} {h : Head} {p : Plan}
    (next : s.nextCycle = some (c, len, h, p)) {g : Tag} {k : Terminal} {reason : Reason} {hold : Nat} (record : s.term g = some k)
    (parked : k.phase = .parked reason hold) : s.startCycle.term g = some { k with phase := .parked reason (hold - 1) } := by
  have rest : s.atRest g := by
    intro h' held
    obtain rfl := Option.some.inj (record.symm.trans held)
    exact ⟨by simp [Terminal.lane, parked], by simp [parked]⟩
  obtain ⟨v, hv⟩ : ∃ v, v = (s.issued c len h p).departures h.notices := ⟨_, rfl⟩
  have issued : (s.issued c len h p).term g = some k := (State.term_of_page (State.page_issued rest c len h p)).trans record
  have departed : v.term g = some k := by
    rw [hv, State.term_of_page (State.page_departures (fun h' held => ?_) _), issued]
    obtain rfl := Option.some.inj (issued.symm.trans held)
    simp [Terminal.service, parked]
  have counted : v.countdowns.term g = some { k with phase := .parked reason (hold - 1) } := by
    have held : (v.roster.records.get g).term = some k := departed
    rw [show v.countdowns.term g = (v.countdowns.page g).1.term from rfl, State.page_countdowns, Record.holdTick, held]
    dsimp only
    rw [parked]
  rw [State.startCycle_stages next, ← hv, State.postIfRunning]
  split
  · rw [State.term_of_page (State.page_cycleStartPostings fun h' held => ?_), counted]
    obtain rfl := Option.some.inj (counted.symm.trans held)
    rfl
  · exact counted

theorem State.endFrame_of_few {s : State} (few : s.intake.store.length < 2) : s.endFrame = s := by
  match store : s.intake.store with
  | [] | [_] => unfold State.endFrame; simp only [store]
  | _ :: _ :: _ => rw [store, List.length_cons, List.length_cons] at few; omega

/-- What a frame end leaves of the store. -/
theorem State.endFrame_store (s : State) :
    s.endFrame.intake.store = if 2 ≤ s.intake.store.length then s.intake.store.tail else s.intake.store := by
  by_cases few : s.intake.store.length < 2
  · rw [State.endFrame_of_few few, if_neg (by omega)]
  · rw [if_pos (by omega)]
    match store : s.intake.store with
    | [] | [_] => rw [store] at few; simp at few
    | a :: b :: l => rw [State.endFrame_eq store]; rfl

/-- The line at the start of the cycle behind `c`. -/
theorem State.advanceCycle_line (u : State) (c : Cycle) (len : Nat) :
    (u.line.state = .warming → (u.advanceCycle c len).line.warmup = u.line.warmup - 1 ∧
        (u.advanceCycle c len).line.state = if u.line.warmup ≤ 1 then .running else .warming) ∧
      (u.line.state ≠ .warming → (u.advanceCycle c len).line.state = u.line.state) ∧
      (u.line.state = .draining → (u.advanceCycle c len).line.drainCycle = true ∧
        (u.advanceCycle c len).line.drainLeft = if u.line.drainCycle then u.line.drainLeft - 1 else u.line.drainLeft) ∧
      (u.advanceCycle c len).line.tick = c.start + BitVec.ofNat 32 c.len := by
  by_cases last : u.line.state = .warming ∧ u.line.warmup ≤ 1
  · rw [State.advanceCycle_of_last_warming last.1 last.2]
    exact ⟨fun _ => ⟨rfl, (if_pos last.2).symm⟩, fun other => absurd last.1 other, fun d => absurd (d.symm.trans last.1) nofun, rfl⟩
  · unfold State.advanceCycle
    dsimp only
    split
    · next warming =>
      have more : ¬u.line.warmup ≤ 1 := fun few => last ⟨warming, few⟩
      rw [if_neg (by omega)]
      exact ⟨fun _ => ⟨rfl, warming.trans (if_neg more).symm⟩, fun other => absurd warming other,
        fun d => absurd (d.symm.trans warming) nofun, rfl⟩
    · next draining => exact ⟨fun w => absurd (w.symm.trans draining) nofun, fun _ => rfl, fun _ => ⟨rfl, rfl⟩, rfl⟩
    · next other undrained => exact ⟨fun w => absurd w other, fun _ => rfl, fun d => absurd d undrained, rfl⟩

/-- Settles O28. -/
theorem cycleStartIssues : Obligations.CycleStartIssues := by
  intro s c len h p lit cycle next head built
  have some := State.nextCycle_eq lit cycle next head built
  have same := State.elsewhere_startCycle some
  obtain ⟨v, advanced⟩ : ∃ v, v = s.endFrame.advanceCycle c len := ⟨_, rfl⟩
  obtain ⟨warms, stays, drains, ticks⟩ := s.endFrame.advanceCycle_line c len
  obtain ⟨line, kinds, keeps, started, -⟩ := s.endFrame.advanceCycle_keeps c len
  have core := s.lineCore_endFrame
  have host : s.startCycle.hostSide = s.hostSide := by simp
  rw [State.issued_eq s c len h p advanced] at same
  rw [← advanced] at keeps warms stays drains ticks
  have cycleHere : s.startCycle.line.cycle =
      .some { num := c.num + 1, start := c.start + BitVec.ofNat 32 c.len, len := len, next := none } :=
    (congrArg (·.line.cycle) same :).trans ((congrArg (·.line.cycle) keeps :).trans started)
  have tickHere : s.startCycle.line.tick = c.start + BitVec.ofNat 32 c.len := (congrArg (·.line.tick) same :).trans ticks
  have headHere : s.startCycle.line.headOut = h.bytes := (congrArg (·.line.headOut) same :)
  refine ⟨s.startCycle, rfl, cycleHere, tickHere, ?_, headHere, headHere ▸ h.bytes_layout, (congrArg (·.line.head) same :),
    (congrArg (·.planner.built) same :), (congrArg (·.planner.framerPlan) same :), ?_,
    fun g k reason hold record parked => State.term_startCycle_of_parked some record parked, fun warming => ?_, fun other => ?_,
    fun draining => ?_, fun few => ?_, fun frame sending two => ?_, ?_, ?_, ?_, ?_, ?_, ?_⟩
  · rw [State.cycleMark, cycleHere, tickHere]
    dsimp only
    rw [tickDiff_self]
    rfl
  · rw [show s.startCycle.intake.store = _ from (congrArg (·.intake.store) same :), ← State.endFrame_store]
    exact congrArg (· ++ _) (congrArg (·.intake.store) keeps :)
  · obtain ⟨warmup, state⟩ := warms ((congrArg LineTimer.state core :).trans warming)
    rw [show s.endFrame.line.warmup = s.line.warmup from (congrArg LineTimer.warmup core :)] at warmup state
    exact ⟨(congrArg (·.line.warmup) same :).trans warmup, (congrArg (·.line.state) same :).trans state⟩
  · have before : s.endFrame.line.state = s.line.state := (congrArg LineTimer.state core :)
    exact (congrArg (·.line.state) same :).trans ((stays (before ▸ other)).trans before)
  · obtain ⟨marked, left⟩ := drains ((congrArg LineTimer.state core :).trans draining)
    rw [show s.endFrame.line.drainLeft = s.line.drainLeft from (congrArg LineTimer.drainLeft core :),
      show s.endFrame.line.drainCycle = s.line.drainCycle from (congrArg LineTimer.drainCycle core :)] at left
    exact ⟨(congrArg (·.line.drainCycle) same :).trans marked, (congrArg (·.line.drainLeft) same :).trans left⟩
  · rw [State.endFrame_of_few few] at keeps advanced
    have census : v.census = s.census := (congrArg State.census keeps :)
    have conv : v.conv = s.conv := (congrArg State.conv keeps :)
    have settings : v.line.settings = s.line.settings := by
      rw [advanced]
      exact (congrArg HostSide.settings (s.advanceCycle_hostSide c len) :)
    have calib : s.startCycle.conv.calib =
        calibIssued s.conv.calib s.line.settings.ref p.cycle (c.start + BitVec.ofNat 32 c.len) p.slot := by
      rw [← conv, ← settings]
      exact (congrArg (·.conv.calib) same :)
    refine ⟨?_, fun k span held waiting slot => ?_, fun idle => ?_⟩
    · rw [← census]
      exact (congrArg (·.census.wait) same :)
    · simp only [calib, calibIssued, held, slot, waiting, if_true]
    · rw [calib]
      rcases idle with none | none
      · simp only [none, calibIssued]
      · rw [none]
        unfold calibIssued
        split <;> simp_all
  · have tx : s.endFrame.link.tx = .sending frame := (congrArg HostSide.tx s.endFrame_hostSide).trans sending
    refine ⟨s.endFrame, congrArg Host.Outcome.next (State.chooseAgain_of_sending tx), ?_⟩
    have once : s.endFrame.endFrame = s.endFrame :=
      State.endFrame_of_few (by rw [State.endFrame_store, if_pos two.ge, List.length_tail, two]; decide)
    have again : s.endFrame.nextCycle = .some (c, len, h, p) :=
      State.nextCycle_eq (by rw [s.evolves_endFrame.line_state]; exact lit) ((congrArg LineTimer.cycle core :).trans cycle) next
        ((congrArg LineTimer.head core :).trans head) (s.evolves_endFrame.planner_built.trans built)
    refine congrArg (fun u : State => Host.Outcome.next u.chooseAgain) ?_
    rw [State.startCycle_stages some, State.startCycle_stages again, State.issued, State.issued, once]
  · exact (congrArg HostSide.settings host :)
  · exact (congrArg HostSide.pendingLen host :)
  · exact (congrArg HostSide.expected host :)
  · exact (congrArg HostSide.barred host :)
  · exact (congrArg HostSide.inbound host :)
  · exact (congrArg HostSide.outbound host :)

end Sys2Proof.Machine


/-! PROOFS. What becomes of a waiting entry that is not the Roster's own when the Roster posts it again (R13). -/

namespace Sys2Proof.Machine

/-! ## A waiting entry of another poster -/

/-- A SILENT record whose grace ends at the next cycle start. -/
def lastGrace : Terminal :=
  { serial := 1, listed := false, profile := 0, coarse := 8000, level := none, flags := .clear, heardCycle := 0,
    phase := .silent (.start ⟨8000, 0⟩ 0) 0 1 }

/-- An entry that waits as the Roster's does, but that names another poster; no run leaves one there. -/
def foreignEntry : LineNotice := { body := .hush 1 1, poster := .supervisor }

/-- The line runs, its next cycle start is due and ends the grace of tag 1, and the foreign entry waits with the Roster. -/
def foreignWaiting : State :=
  { State.reset with
    line.state := .running, line.cycle := some ⟨0, 0, 312500, some 312500⟩, line.head := some (warmingHead 1)
    planner.built := some (emptyPlan 1 312500)
    roster.records := State.reset.roster.records.update 0 fun r => { r with term := some lastGrace }
    roster.waiting := [foreignEntry] }

/-- The poster of the first line notice queued after an event. -/
def firstPoster (x : Host.Outcome State Fault Refusal) : Option Poster :=
  match x with
  | .next t => t.line.notices.head?.map LineNotice.poster
  | _ => none

/-- The Roster posts the entry again as its own. -/
theorem firstPoster_foreignWaiting : firstPoster (exec .cycleStart foreignWaiting) = some .roster := by decide +kernel

theorem firstPoster_of_chooseAgain {s t : State} (run : exec .cycleStart s = .next t.chooseAgain) :
    firstPoster (exec .cycleStart s) = t.line.notices.head?.map LineNotice.poster := by
  rw [run, firstPoster, State.chooseAgain_line_notices]

/-- Refutes O29: without the invariant that what waits with the Roster is the Roster's, an entry of another poster is queued
again with the Roster as its poster, and not as it waited. -/
theorem not_cycleStartPostsInOrder : ¬ Obligations.CycleStartPostsInOrder := by
  intro posts
  obtain ⟨t, run, notices, -⟩ := posts foreignWaiting ⟨0, 0, 312500, some 312500⟩ 312500 (warmingHead 1) (emptyPlan 1 312500) _ _ _
    rfl rfl rfl rfl rfl (by decide) (by decide) (by decide) rfl rfl rfl
  have poster := (firstPoster_of_chooseAgain run).symm.trans firstPoster_foreignWaiting
  rw [notices] at poster
  exact absurd (Option.some.inj poster) nofun

/-- Refutes O31: the last of its claims says that what waits is queued as it waited, which the foreign entry is not. -/
theorem not_graceExpiryParksLost : ¬ Obligations.GraceExpiryParksLost := by
  rintro ⟨expires, -⟩
  obtain ⟨t, -, run, -, -, -, -, -, queues⟩ := expires foreignWaiting ⟨0, 0, 312500, some 312500⟩ 312500 (warmingHead 1)
    (emptyPlan 1 312500) 0 lastGrace (.start ⟨8000, 0⟩ 0) 0 rfl rfl rfl rfl rfl
    (by rw [State.term, foreignWaiting, Bank.get_update_self]) rfl
  obtain ⟨-, ⟨rest, before⟩, -⟩ := queues (by decide) (by decide)
  have poster := (firstPoster_of_chooseAgain run).symm.trans firstPoster_foreignWaiting
  rw [← before] at poster
  exact absurd (Option.some.inj poster) nofun

end Sys2Proof.Machine


/-! PROOFS. Walks over lanes and tags in which each step writes its own cell and posts at most one entry into a queue of
bounded size (R13, R78, R79). -/

namespace Sys2Proof.Machine

/-! ## Walks that post -/

theorem take_append_take {β : Type} (n : Nat) (a b : List β) : (a.take n ++ b).take n = (a ++ b).take n := by
  rw [List.take_append, List.take_append, List.take_take, Nat.min_self, List.length_take]
  congr 2
  omega

/-- Each step of the walk `f` keeps `P`, writes its own cell and no other, and posts what `post` says at the tail of a queue of
`cap` entries while there is room; what a step posts and writes depends on its own cell, and on whether there is room. -/
structure Walks {σ ι α β : Type} (P : σ → Prop) (f : σ → ι → σ) (cell : σ → ι → α) (queue : σ → List β) (cap : Nat)
    (post : σ → ι → Option β) (next : σ → ι → Bool → α) : Prop where
  keeps : ∀ {s i}, P s → P (f s i)
  cells : ∀ {s i j}, P s → j ≠ i → cell (f s i) j = cell s j
  posts : ∀ {s i j}, P s → j ≠ i → post (f s i) j = post s j
  nexts : ∀ {s i j}, P s → j ≠ i → next (f s i) j = next s j
  queued : ∀ {s i}, P s → (queue s).length ≤ cap → queue (f s i) = (queue s ++ (post s i).toList).take cap
  writes : ∀ {s i}, P s → cell (f s i) i = next s i (decide ((queue s).length < cap))

namespace Walks

variable {σ ι α β : Type} {P : σ → Prop} {f : σ → ι → σ} {cell : σ → ι → α} {queue : σ → List β} {cap : Nat}
  {post : σ → ι → Option β} {next : σ → ι → Bool → α}

theorem run_keeps (w : Walks P f cell queue cap post next) (l : List ι) {s : σ} (h : P s) : P (l.foldl f s) :=
  foldl_keeps (fun _ _ => w.keeps) l h

/-- The cell of a step that the walk does not take. -/
theorem run_outside (w : Walks P f cell queue cap post next) (l : List ι) {s : σ} (h : P s) {j : ι} (outside : j ∉ l) :
    cell (l.foldl f s) j = cell s j := by
  induction l generalizing s with
  | nil => rfl
  | cons i l ih =>
    rw [List.mem_cons, not_or] at outside
    exact (ih (w.keeps h) outside.2).trans (w.cells h outside.1)

theorem posts_outside (w : Walks P f cell queue cap post next) {s : σ} (h : P s) {i : ι} {l : List ι} (outside : i ∉ l) :
    l.filterMap (post (f s i)) = l.filterMap (post s) :=
  List.filterMap_congr fun _ listed => w.posts h fun same => outside (same ▸ listed)

theorem length_queued (w : Walks P f cell queue cap post next) {s : σ} (h : P s) (fits : (queue s).length ≤ cap) (i : ι) :
    (queue (f s i)).length = min cap ((queue s).length + (post s i).toList.length) := by
  rw [w.queued h fits, List.length_take, List.length_append]

/-- What the walk posts joins the queue in the order of the steps, as far as there is room. -/
theorem run_queue (w : Walks P f cell queue cap post next) {l : List ι} (once : l.Nodup) {s : σ} (h : P s)
    (fits : (queue s).length ≤ cap) : queue (l.foldl f s) = (queue s ++ l.filterMap (post s)).take cap := by
  induction l generalizing s with
  | nil => rw [List.foldl_nil, List.filterMap_nil, List.append_nil, List.take_of_length_le fits]
  | cons i l ih =>
    obtain ⟨outside, rest⟩ := List.nodup_cons.mp once
    have short : (queue (f s i)).length ≤ cap := by rw [w.length_queued h fits]; exact Nat.min_le_left _ _
    have head : (post s i).toList ++ l.filterMap (post s) = (i :: l).filterMap (post s) := by
      cases found : post s i <;> simp [found]
    rw [List.foldl_cons, ih rest (w.keeps h) short, w.posts_outside h outside, w.queued h fits, take_append_take, ← head,
      List.append_assoc]

/-- A step of the walk finds room where the queue and what the steps before it post are fewer than `cap`. -/
theorem run_cell (w : Walks P f cell queue cap post next) {before after : List ι} {j : ι} (once : (before ++ j :: after).Nodup)
    {s : σ} (h : P s) (fits : (queue s).length ≤ cap) :
    cell ((before ++ j :: after).foldl f s) j =
      next s j (decide ((queue s).length + (before.filterMap (post s)).length < cap)) := by
  induction before generalizing s with
  | nil =>
    obtain ⟨outside, -⟩ := List.nodup_cons.mp once
    exact (w.run_outside after (w.keeps h) outside).trans (w.writes h)
  | cons i before ih =>
    obtain ⟨outside, rest⟩ := List.nodup_cons.mp once
    have short : (queue (f s i)).length ≤ cap := by rw [w.length_queued h fits]; exact Nat.min_le_left _ _
    have other : j ≠ i := fun same => outside (same ▸ List.mem_append_right _ List.mem_cons_self)
    have before_outside : i ∉ before := fun listed => outside (List.mem_append_left _ listed)
    have head : ((i :: before).filterMap (post s)).length = (post s i).toList.length + (before.filterMap (post s)).length := by
      cases found : post s i <;> simp [found, Nat.add_comm]
    rw [List.cons_append, List.foldl_cons, ih rest (w.keeps h) short, w.nexts h other, w.posts_outside h before_outside,
      w.length_queued h fits, head]
    congr 1
    exact decide_eq_decide.mpr (by omega)

end Walks

/-- What lies before an element of a list in ascending order is what is below it. -/
theorem before_eq_filter {n : Nat} {before after : List (Fin n)} {j : Fin n}
    (ascending : (before ++ j :: after).Pairwise (· < ·)) : before = (before ++ j :: after).filter (fun i => decide (i < j)) := by
  obtain ⟨-, tail, below⟩ := List.pairwise_append.mp ascending
  obtain ⟨above, -⟩ := List.pairwise_cons.mp tail
  rw [List.filter_append, List.filter_eq_self.mpr fun i listed => by simpa using below i listed j List.mem_cons_self,
    List.filter_eq_nil_iff.mpr fun i listed => ?_, List.append_nil]
  rcases List.mem_cons.mp listed with rfl | listed
  · simp
  · simpa using (above i listed).le

/-- The cell of a step in a walk over all indices in ascending order. -/
theorem Walks.run_all {n : Nat} {σ α β : Type} {P : σ → Prop} {f : σ → Fin n → σ} {cell : σ → Fin n → α} {queue : σ → List β}
    {cap : Nat} {post : σ → Fin n → Option β} {next : σ → Fin n → Bool → α} (w : Walks P f cell queue cap post next) {s : σ}
    (h : P s) (fits : (queue s).length ≤ cap) (j : Fin n) :
    cell ((List.finRange n).foldl f s) j =
      next s j (decide ((queue s).length + (((List.finRange n).filter fun i => decide (i < j)).filterMap (post s)).length < cap)) := by
  obtain ⟨before, after, split⟩ := List.append_of_mem (List.mem_finRange j)
  have ascending : (before ++ j :: after).Pairwise (· < ·) := split ▸ List.pairwise_lt_finRange n
  rw [split, w.run_cell (split ▸ List.nodup_finRange n) h fits, ← before_eq_filter ascending]

end Sys2Proof.Machine


/-! PROOFS. Placement (R68 to R75): where a plan's items begin, what is placed and what is not. -/

namespace Sys2Proof.Machine

/-! ## Where the next item begins (R68) -/

theorem le_foldl_max (l : List Nat) (init : Nat) : init ≤ l.foldl max init ∧ ∀ x ∈ l, x ≤ l.foldl max init := by
  induction l generalizing init with
  | nil => exact ⟨le_rfl, nofun⟩
  | cons y l ih =>
    obtain ⟨base, each⟩ := ih (max init y)
    refine ⟨(Nat.le_max_left init y).trans base, fun x listed => ?_⟩
    rcases List.mem_cons.mp listed with rfl | listed
    · exact (Nat.le_max_right init x).trans base
    · exact each x listed

theorem stop_le_nextStart {guard : Nat} (slot : Option Slot) {placed : List Grant} {g : Grant} (listed : g ∈ placed) :
    g.stop + guard ≤ nextStart guard slot placed :=
  (le_foldl_max _ 0).2 _ (List.mem_append_right _ (List.mem_map_of_mem listed))

theorem slot_le_nextStart {guard : Nat} {slot : Option Slot} (placed : List Grant) {d : Slot} (there : d ∈ slot) :
    d.stop + guard ≤ nextStart guard slot placed :=
  (le_foldl_max _ 0).2 _
    (List.mem_append_left _ (List.mem_map_of_mem (f := fun x : Slot => x.stop + guard) (Option.mem_toList.mpr there)))

theorem nextStart_append (guard : Nat) (slot : Option Slot) (placed : List Grant) (g : Grant) :
    nextStart guard slot (placed ++ [g]) = max (nextStart guard slot placed) (g.stop + guard) := by
  simp only [nextStart, List.map_append, List.map_cons, List.map_nil, ← List.append_assoc, List.foldl_append, List.foldl_cons,
    List.foldl_nil]

/-- The next start depends on where the items placed end. -/
theorem nextStart_congr {guard : Nat} {slot : Option Slot} {a b : List Grant} (stops : a.map Grant.stop = b.map Grant.stop) :
    nextStart guard slot a = nextStart guard slot b := by
  have behind (l : List Grant) : l.map (fun g => g.stop + guard) = (l.map Grant.stop).map (· + guard) := by
    rw [List.map_map]; rfl
  rw [nextStart, nextStart, behind, behind, stops]

/-- A dark slot that begins behind the grants placed: the next item begins behind it. -/
theorem nextStart_slot {guard : Nat} {placed : List Grant} {d : Slot} (behind : nextStart guard none placed ≤ d.stop) :
    nextStart guard (some d) placed = d.stop + guard := by
  have from_zero (l : List Nat) (n : Nat) : l.foldl max n = max n (l.foldl max 0) := by
    have := List.foldl_assoc (op := max) (l := l) (a₁ := n) (a₂ := 0)
    rwa [Nat.max_zero] at this
  have both : nextStart guard (some d) placed = max (max 0 (d.stop + guard)) (nextStart guard none placed) :=
    from_zero (placed.map fun g => g.stop + guard) (max 0 (d.stop + guard))
  rw [both]
  omega

/-! ## Plans whose items are apart -/

/-- The grants lie in the frame, in order and a guard apart, and each a guard apart from the dark slot, which is `size` long. -/
structure Spaced (guard len size : Nat) (slot : Option Slot) (grants : List Grant) : Prop where
  pairwise : grants.Pairwise fun a b => a.stop + guard ≤ b.first
  inside : ∀ g ∈ grants, g.first ≤ g.stop ∧ g.stop ≤ len
  slot : ∀ d ∈ slot, d.stop ≤ len ∧ d.stop = d.first + size ∧
    ∀ g ∈ grants, g.stop + guard ≤ d.first ∨ d.stop + guard ≤ g.first

theorem Spaced.add {guard len size : Nat} {slot : Option Slot} {grants : List Grant} (spaced : Spaced guard len size slot grants)
    {g : Grant} (first : g.first = nextStart guard slot grants) (order : g.first ≤ g.stop) (ends : g.stop ≤ len) :
    Spaced guard len size slot (grants ++ [g]) where
  pairwise := by
    refine List.pairwise_append.mpr ⟨spaced.pairwise, List.pairwise_singleton _ _, fun a placed b last => ?_⟩
    rw [List.mem_singleton.mp last, first]
    exact stop_le_nextStart slot placed
  inside x listed := by
    rcases List.mem_append.mp listed with placed | last
    · exact spaced.inside x placed
    · rw [List.mem_singleton.mp last]; exact ⟨order, ends⟩
  slot d there := by
    obtain ⟨fits, long, apart⟩ := spaced.slot d there
    refine ⟨fits, long, fun x listed => ?_⟩
    rcases List.mem_append.mp listed with placed | last
    · exact apart x placed
    · rw [List.mem_singleton.mp last, first]; exact .inr (slot_le_nextStart grants there)

/-! ## Placings (R68) -/

/-- The next item begins behind what is placed. -/
def Placing.Ready (guard : Nat) (slot : Option Slot) (p : Placing) : Prop := p.pos = nextStart guard slot p.grants

theorem Placing.Ready.add {guard : Nat} {slot : Option Slot} {p : Placing} (ready : p.Ready guard slot) {g : Grant}
    (order : p.pos ≤ g.stop) : (p.add guard g).Ready guard slot := by
  unfold Placing.Ready at *
  rw [Placing.add, nextStart_append]
  dsimp only
  omega

theorem Placing.fits_iff {p : Placing} {len size : Nat} : p.fits len size = true ↔ p.pos + size ≤ len ∧ p.grants.length < 64 := by
  simp [Placing.fits, Placing.room]

/-- What is placed behind `a` is apart from it and in the frame. -/
def KeepsSpaced (guard len : Nat) (slot : Option Slot) (a b : List Grant) : Prop :=
  ∀ size, Spaced guard len size slot a → Spaced guard len size slot b

/-! ## Standing grants (R71, R72) -/

/-- What is placed before the standing grant of `f`, with `front` first. -/
def beforeTag (front placed : List Grant) (f : Tag) : List Grant :=
  front ++ placed.filter fun g => g.tag.any fun x => decide (x < f)

/-- The grants of the tag among those placed. -/
def ofTag (placed : List Grant) (f : Tag) : List Grant := placed.filter fun g => g.tag == some f

/-- A grant of this size fits behind those placed. -/
def Fits (guard len : Nat) (slot : Option Slot) (placed : List Grant) (size : Nat) : Prop :=
  nextStart guard slot placed + size ≤ len ∧ placed.length < 64

/-- The standing grants placed behind `front` for the due records `due`, in ascending tag order: each record's at the next start
behind those before it, or none where it does not fit. -/
structure StandingPlaced (ls : LineSettings) (len : Nat) (slot : Option Slot) (front : List Grant) (due : List (Tag × Nat))
    (placed : List Grant) : Prop where
  owned : ∀ g ∈ placed, ∃ x ∈ due, ∃ first, g = standingGrant ls x.1 x.2 first
  fitting : ∀ x ∈ due, Fits ls.guard len slot (beforeTag front placed x.1) (x.2 + 2 * ls.wt) →
    ofTag placed x.1 = [standingGrant ls x.1 x.2 (nextStart ls.guard slot (beforeTag front placed x.1))]
  skipped : ∀ x ∈ due, ¬Fits ls.guard len slot (beforeTag front placed x.1) (x.2 + 2 * ls.wt) → ofTag placed x.1 = []

theorem tags_of_owned {ls : LineSettings} {due : List (Tag × Nat)} {placed : List Grant}
    (owned : ∀ g ∈ placed, ∃ x ∈ due, ∃ first, g = standingGrant ls x.1 x.2 first) {P : Tag → Prop} (each : ∀ x ∈ due, P x.1) :
    ∀ g ∈ placed, ∃ f, g.tag = some f ∧ P f := by
  intro g listed
  obtain ⟨x, asked, first, rfl⟩ := owned g listed
  exact ⟨x.1, rfl, each x asked⟩

theorem beforeTag_of_above {front placed : List Grant} {t : Tag} (above : ∀ g ∈ placed, ∃ f, g.tag = some f ∧ t < f) :
    beforeTag front placed t = front := by
  rw [beforeTag, List.filter_eq_nil_iff.mpr fun g listed => ?_, List.append_nil]
  obtain ⟨f, tag, higher⟩ := above g listed
  simpa [tag] using higher.le

theorem ofTag_of_above {placed : List Grant} {t : Tag} (above : ∀ g ∈ placed, ∃ f, g.tag = some f ∧ t < f) : ofTag placed t = [] := by
  refine List.filter_eq_nil_iff.mpr fun g listed => ?_
  obtain ⟨f, tag, higher⟩ := above g listed
  simpa [tag] using higher.ne'

theorem beforeTag_cons {front placed : List Grant} {g : Grant} {t f : Tag} (tag : g.tag = some t) (below : t < f) :
    beforeTag front (g :: placed) f = beforeTag (front ++ [g]) placed f := by
  simp [beforeTag, tag, below]

theorem ofTag_cons_of_ne {placed : List Grant} {g : Grant} {t f : Tag} (tag : g.tag = some t) (ne : t ≠ f) :
    ofTag (g :: placed) f = ofTag placed f := by
  simp [ofTag, tag, ne]

theorem placeStanding_placed {ls : LineSettings} {len : Nat} {slot : Option Slot} {due : List (Tag × Nat)}
    (ascending : due.Pairwise fun a b => a.1 < b.1) {p : Placing} (ready : p.Ready ls.guard slot) :
    ∃ placed, (placeStanding ls len due p).1.grants = p.grants ++ placed ∧ (placeStanding ls len due p).1.Ready ls.guard slot ∧
      StandingPlaced ls len slot p.grants due placed ∧
      KeepsSpaced ls.guard len slot p.grants (placeStanding ls len due p).1.grants ∧
      ((placeStanding ls len due p).2 = true ↔ ∃ x ∈ due, ofTag placed x.1 = []) := by
  induction due generalizing p with
  | nil => exact ⟨[], (List.append_nil _).symm, ready, ⟨nofun, nofun, nofun⟩, fun _ => id, by simp [placeStanding]⟩
  | cons x due ih =>
    obtain ⟨t, n⟩ := x
    obtain ⟨above, rest⟩ := List.pairwise_cons.mp ascending
    have pos : p.pos = nextStart ls.guard slot p.grants := ready
    have here : p.fits len (n + 2 * ls.wt) = true ↔ Fits ls.guard len slot p.grants (n + 2 * ls.wt) := by
      rw [Placing.fits_iff, pos, Fits]
    unfold placeStanding
    split
    · next fits =>
      obtain ⟨room, few⟩ := Placing.fits_iff.mp fits
      obtain ⟨placed, grants, ready', ⟨owned, fitting, skipped⟩, spaced, flag⟩ :=
        ih rest (ready.add (g := standingGrant ls t n p.pos) (by simp only [standingGrant]; omega))
      have higher := tags_of_owned owned above
      obtain ⟨g, hg⟩ : ∃ g, g = standingGrant ls t n p.pos := ⟨_, rfl⟩
      have tag : g.tag = some t := by rw [hg]; rfl
      have own : ofTag (g :: placed) t = [g] := by
        rw [show ofTag (g :: placed) t = g :: ofTag placed t by simp [ofTag, tag], ofTag_of_above higher]
      have before : beforeTag p.grants (g :: placed) t = p.grants := by
        rw [show beforeTag p.grants (g :: placed) t = beforeTag p.grants placed t by simp [beforeTag, tag],
          beforeTag_of_above higher]
      rw [← hg] at grants ready' fitting skipped spaced flag ⊢
      refine ⟨g :: placed, ?_, ready', ⟨?_, ?_, ?_⟩, fun size start => ?_, ?_⟩
      · rw [grants, Placing.add, List.append_assoc]; rfl
      · intro v listed
        rcases List.mem_cons.mp listed with rfl | listed
        · exact ⟨(t, n), List.mem_cons_self, p.pos, hg⟩
        · obtain ⟨y, asked, made⟩ := owned v listed
          exact ⟨y, List.mem_cons_of_mem _ asked, made⟩
      · intro y asked fits'
        rcases List.mem_cons.mp asked with rfl | asked
        · rw [own, before, ← pos, hg]
        · rw [beforeTag_cons tag (above y asked)] at fits' ⊢
          rw [ofTag_cons_of_ne tag (above y asked).ne]
          exact fitting y asked fits'
      · intro y asked full
        rcases List.mem_cons.mp asked with rfl | asked
        · rw [before] at full; exact absurd (here.mp fits) full
        · rw [beforeTag_cons tag (above y asked)] at full
          rw [ofTag_cons_of_ne tag (above y asked).ne]
          exact skipped y asked full
      · refine spaced size (start.add ?_ ?_ ?_) <;> rw [hg] <;> simp only [standingGrant] <;> omega
      · rw [flag]
        constructor
        · rintro ⟨y, asked, none⟩
          exact ⟨y, List.mem_cons_of_mem _ asked, by rw [ofTag_cons_of_ne tag (above y asked).ne, none]⟩
        · rintro ⟨y, asked, none⟩
          rcases List.mem_cons.mp asked with rfl | asked
          · rw [own] at none; cases none
          · exact ⟨y, asked, by rw [ofTag_cons_of_ne tag (above y asked).ne] at none; exact none⟩
    · next full =>
      obtain ⟨placed, grants, ready', ⟨owned, fitting, skipped⟩, spaced, flag⟩ := ih rest ready
      have higher := tags_of_owned owned above
      refine ⟨placed, grants, ready', ⟨?_, ?_, ?_⟩, spaced, ?_⟩
      · intro v listed
        obtain ⟨y, asked, made⟩ := owned v listed
        exact ⟨y, List.mem_cons_of_mem _ asked, made⟩
      · intro y asked fits
        rcases List.mem_cons.mp asked with rfl | asked
        · rw [beforeTag_of_above higher] at fits; exact absurd (here.mpr fits) full
        · exact fitting y asked fits
      · intro y asked no
        rcases List.mem_cons.mp asked with rfl | asked
        · exact ofTag_of_above higher
        · exact skipped y asked no
      · exact ⟨fun _ => ⟨(t, n), List.mem_cons_self, ofTag_of_above higher⟩, fun _ => rfl⟩

/-! ## One-shot grants (R74) -/

/-- The one-shot grants placed behind `front` for the entries of `queue`, from its head on: each at the next start behind those
before it, until one does not fit. -/
structure ShotsPlaced (ls : LineSettings) (len : Nat) (slot : Option Slot) (front : List Grant) (queue : List OneShot)
    (placed : List Grant) : Prop where
  fewer : placed.length ≤ queue.length
  each : ∀ (k : Nat) e g, queue[k]? = some e → placed[k]? = some g →
    g = shotGrant ls e (nextStart ls.guard slot (front ++ placed.take k)) ∧ g.stop ≤ len
  ends : ∀ e, queue[placed.length]? = some e → ¬Fits ls.guard len slot (front ++ placed) (shotOccupancy ls e.kind)

theorem shotGrant_stop (ls : LineSettings) (e : OneShot) (o : Nat) : (shotGrant ls e o).stop = o + shotOccupancy ls e.kind := rfl

theorem placeShots_placed {ls : LineSettings} {len : Nat} {slot : Option Slot} (queue : List OneShot) {p : Placing}
    (ready : p.Ready ls.guard slot) :
    ∃ placed, (placeShots ls len queue p).1.grants = p.grants ++ placed ∧ ShotsPlaced ls len slot p.grants queue placed ∧
      KeepsSpaced ls.guard len slot p.grants (placeShots ls len queue p).1.grants ∧
      (placeShots ls len queue p).2 = queue.drop placed.length := by
  induction queue generalizing p with
  | nil => exact ⟨[], (List.append_nil _).symm, ⟨Nat.le_refl _, by simp, by simp⟩, fun _ => id, rfl⟩
  | cons e queue ih =>
    have pos : p.pos = nextStart ls.guard slot p.grants := ready
    unfold placeShots
    split
    · next fits =>
      obtain ⟨room, few⟩ := Placing.fits_iff.mp fits
      have order : p.pos ≤ (shotGrant ls e p.pos).stop := Nat.le_add_right _ _
      obtain ⟨placed, grants, ⟨fewer, each, ends⟩, spaced, left⟩ := ih (ready.add order)
      have front : (p.add ls.guard (shotGrant ls e p.pos)).grants = p.grants ++ [shotGrant ls e p.pos] := rfl
      rw [front] at grants each ends spaced
      refine ⟨shotGrant ls e p.pos :: placed, ?_, ⟨Nat.succ_le_succ fewer, ?_, ?_⟩, fun size start => ?_, left⟩
      · rw [grants, List.append_assoc]; rfl
      · intro k f g asked given
        cases k with
        | zero =>
          obtain rfl := Option.some.inj asked
          obtain rfl := Option.some.inj given
          rw [List.take_zero, List.append_nil, ← pos]
          exact ⟨rfl, room⟩
        | succ k =>
          have := each k f g asked given
          rwa [List.append_assoc] at this
      · intro f asked
        have := ends f asked
        rwa [List.append_assoc] at this
      · exact spaced size (start.add pos order room)
    · next full =>
      refine ⟨[], (List.append_nil _).symm, ⟨Nat.zero_le _, by simp, ?_⟩, fun _ => id, rfl⟩
      rintro f ⟨⟩
      rw [List.append_nil, Fits, ← pos]
      exact fun fits => full (Placing.fits_iff.mpr fits)

/-! ## The level sweep (R75) -/

theorem tagNum_lt_iff {f g : Tag} : tagNum f < tagNum g ↔ f < g := by simp [tagNum]

/-- What the sweep marks of a grant. -/
def sweepMark (target : Option Nat) (g : Grant) : Grant :=
  if g.kind = .standing ∧ target.isSome ∧ g.tag.map tagNum = target then { g with capture := true } else g

theorem markSweep_eq (grants : List Grant) (target : Option Nat) : markSweep grants target = grants.map (sweepMark target) := rfl

theorem sweepMark_of_other {g : Grant} (other : g.kind ≠ .standing) (target : Option Nat) : sweepMark target g = g :=
  if_neg fun standing => other standing.1

theorem sweepMark_eq (target : Option Nat) (g : Grant) : ∃ mark, sweepMark target g = { g with capture := mark } := by
  unfold sweepMark
  split
  · exact ⟨true, rfl⟩
  · exact ⟨g.capture, rfl⟩

theorem min?_filter_eq_some_iff {l : List Nat} {p : Nat → Bool} {n : Nat} :
    (l.filter p).min? = some n ↔ (n ∈ l ∧ p n = true) ∧ ∀ m ∈ l, p m = true → n ≤ m := by
  rw [List.min?_eq_some_iff, List.mem_filter]
  simp only [List.mem_filter, and_imp]

/-- The tag that the sweep marks: the lowest above the pointer, else the lowest. -/
theorem sweepTarget_eq_some_iff {grants : List Grant} {pointer n : Nat} :
    sweepTarget grants pointer = some n ↔
      n ∈ standingTags grants ∧
        ((pointer < n ∧ ∀ m ∈ standingTags grants, m < n → m ≤ pointer) ∨
          ∀ m ∈ standingTags grants, m ≤ pointer ∧ n ≤ m) := by
  unfold sweepTarget
  dsimp only
  split
  · next m above =>
    obtain ⟨⟨listed, higher⟩, least⟩ := min?_filter_eq_some_iff.mp above
    simp only [decide_eq_true_eq] at higher least
    rw [Option.some.injEq]
    constructor
    · rintro rfl
      exact ⟨listed, .inl ⟨higher, fun x there below => Nat.not_lt.mp fun up => absurd (least x there up) (Nat.not_le.mpr below)⟩⟩
    · rintro ⟨there, ⟨up, first⟩ | low⟩
      · refine le_antisymm (least n there up) (Nat.not_lt.mp fun below => ?_)
        exact absurd (first m listed below) (Nat.not_le.mpr higher)
      · exact absurd (low m listed).1 (Nat.not_le.mpr higher)
  · next none =>
    have low : ∀ m ∈ standingTags grants, m ≤ pointer := by
      intro m listed
      have empty := List.min?_eq_none_iff.mp none
      simpa using List.filter_eq_nil_iff.mp empty m listed
    rw [List.min?_eq_some_iff]
    constructor
    · rintro ⟨there, least⟩
      exact ⟨there, .inr fun m listed => ⟨low m listed, least m listed⟩⟩
    · rintro ⟨there, ⟨up, -⟩ | least⟩
      · exact absurd (low n there) (Nat.not_le.mpr up)
      · exact ⟨there, fun m listed => (least m listed).2⟩

end Sys2Proof.Machine


/-! PROOFS. The plan that a plan close in RUNNING builds (R66 to R75). -/

namespace Sys2Proof.Machine

/-! ## The parts of the placement (R66) -/

/-- The placement of the census gap. -/
def State.withGap (s : State) (cycle : CycleNo) (len : Nat) : State × Placing := s.placeGap cycle len { grants := [], pos := 0 }

/-- The placement of the dark slot behind it. -/
def State.withSlot (s : State) (cycle : CycleNo) (len : Nat) : State × Placing × Option Slot :=
  (s.withGap cycle len).1.placeSlot len (s.withGap cycle len).2

/-- The placement of the standing grants, and whether one was skipped. -/
def State.withStanding (s : State) (cycle : CycleNo) (len : Nat) : Placing × Bool :=
  placeStanding s.line.settings len ((s.withSlot cycle len).1.dueList cycle) (s.withSlot cycle len).2.1

/-- The placement of the one-shot grants, and the entries that stay. -/
def State.withShots (s : State) (cycle : CycleNo) (len : Nat) : Placing × List OneShot :=
  placeShots s.line.settings len (s.withSlot cycle len).1.planner.shots (s.withStanding cycle len).1

/-- The tag whose standing grant is marked. -/
def State.sweepTag (s : State) (cycle : CycleNo) (len : Nat) : Option Nat :=
  sweepTarget (s.withShots cycle len).1.grants (s.withSlot cycle len).1.planner.sweep

/-- The plan built. -/
def State.planFor (s : State) (cycle : CycleNo) (len : Nat) : Plan :=
  { cycle := cycle, len := len, slot := (s.withSlot cycle len).2.2,
    grants := markSweep (s.withShots cycle len).1.grants (s.sweepTag cycle len) }

/-- The entries placed. -/
def State.placedShots (s : State) (cycle : CycleNo) (len : Nat) : List OneShot :=
  (s.withSlot cycle len).1.planner.shots.take ((s.withSlot cycle len).1.planner.shots.length - (s.withShots cycle len).2.length)

/-- The state once the entries placed are out of their queue, and an overrun is counted. -/
def State.withoutPlaced (s : State) (cycle : CycleNo) (len : Nat) : State :=
  ((s.withSlot cycle len).1.setShots (s.withShots cycle len).2).countOverrun cycle (s.withStanding cycle len).2

/-- The state once the owners of the entries placed are told. -/
def State.withTold (s : State) (cycle : CycleNo) (len : Nat) : State :=
  (s.placedShots cycle len).foldl (State.tellPlaced cycle) (s.withoutPlaced cycle len)

theorem State.buildPlan_eq (s : State) (cycle : CycleNo) (len : Nat) :
    s.buildPlan cycle len =
      (((s.withTold cycle len).setSweep ((s.sweepTag cycle len).getD (s.withTold cycle len).planner.sweep)).setBuilt
        (some (s.planFor cycle len))).repostShots := rfl

/-! ## What the postings of a plan close leave elsewhere -/

theorem State.planner_of_elsewhere {s u : State} (same : u.elsewhere = s.elsewhere) :
    u.planner.built = s.planner.built ∧ u.planner.sweep = s.planner.sweep ∧ u.planner.slotWanted = s.planner.slotWanted ∧
      u.planner.overruns = s.planner.overruns ∧ u.planner.lastOverrun = s.planner.lastOverrun :=
  ⟨congrArg (·.planner.built) same, congrArg (·.planner.sweep) same, congrArg (·.planner.slotWanted) same,
    congrArg (·.planner.overruns) same, congrArg (·.planner.lastOverrun) same⟩

theorem State.line_of_elsewhere {s u : State} (same : u.elsewhere = s.elsewhere) :
    u.line.state = s.line.state ∧ u.line.cycle = s.line.cycle ∧ u.line.settings = s.line.settings :=
  ⟨congrArg (·.line.state) same, congrArg (·.line.cycle) same, congrArg (·.line.settings) same⟩

theorem State.conv_of_elsewhere {s u : State} (same : u.elsewhere = s.elsewhere) : u.conv = s.conv :=
  (congrArg State.conv same :)

theorem State.census_of_elsewhere {s u : State} (same : u.elsewhere = s.elsewhere) : u.census = s.census :=
  (congrArg State.census same :)

theorem State.kinds_of_elsewhere {s u : State} (same : u.elsewhere = s.elsewhere) : u.link.kinds = s.link.kinds :=
  (congrArg (·.link.kinds) same :)

theorem State.profiles_of_elsewhere {s u : State} (same : u.elsewhere = s.elsewhere) : u.roster.profiles = s.roster.profiles :=
  (congrArg (·.roster.profiles) same :)

theorem State.elsewhere_lanePlaced (s : State) (i : LaneNo) (cycle : CycleNo) (kind : GrantKind) :
    (s.lanePlaced i cycle kind).elsewhere = s.elsewhere := by
  unfold State.lanePlaced
  (repeat' split) <;> rfl

theorem State.elsewhere_returnPlaced (s : State) (t : Tag) : (s.returnPlaced t).elsewhere = s.elsewhere := by
  unfold State.returnPlaced
  (repeat' split) <;> rfl

theorem State.elsewhere_tellPlaced (cycle : CycleNo) (s : State) (e : OneShot) : (s.tellPlaced cycle e).elsewhere = s.elsewhere := by
  unfold State.tellPlaced
  split
  · exact s.elsewhere_lanePlaced _ cycle e.kind
  · exact s.elsewhere_returnPlaced e.tag
  · rfl

theorem State.elsewhere_laneRepostShot (s : State) (i : LaneNo) : (s.laneRepostShot i).elsewhere = s.elsewhere := by
  unfold State.laneRepostShot
  split
  · rfl
  · next w _ =>
    split
    · exact (State.LaneActs.lanePostShot s i w.tag w _).elsewhere
    · rfl

theorem State.elsewhere_repostReturn (s : State) (t : Tag) : (s.repostReturn t).elsewhere = s.elsewhere := by
  unfold State.repostReturn
  split
  · exact State.elsewhere_postReturn _ t
  · rfl

theorem State.elsewhere_repostShots (s : State) : s.repostShots.elsewhere = s.elsewhere :=
  (foldl_proj State.elsewhere _ State.elsewhere_repostReturn _ _).trans
    (foldl_proj State.elsewhere _ State.elsewhere_laneRepostShot _ _)

theorem State.elsewhere_seize (s : State) (i : LaneNo) : (s.seize i).elsewhere = s.elsewhere := by
  unfold State.seize
  split
  · next t rest _ _ =>
    dsimp only
    split
    · rfl
    · exact ((State.LaneActs.lanePostNotice _ i t _ _).elsewhere).trans (State.elsewhere_changeTerm _ t _)
  · rfl

theorem State.elsewhere_seizeAll (s : State) : s.seizeAll.elsewhere = s.elsewhere :=
  foldl_proj State.elsewhere _ State.elsewhere_seize _ _

theorem State.elsewhere_buildPlan (s : State) (cycle : CycleNo) (len : Nat) :
    (s.buildPlan cycle len).elsewhere =
      (((s.withoutPlaced cycle len).setSweep ((s.sweepTag cycle len).getD (s.withoutPlaced cycle len).planner.sweep)).setBuilt
        (some (s.planFor cycle len))).elsewhere := by
  have told : (s.withTold cycle len).elsewhere = (s.withoutPlaced cycle len).elsewhere :=
    foldl_proj State.elsewhere _ (State.elsewhere_tellPlaced cycle) _ _
  rw [State.buildPlan_eq, State.elsewhere_repostShots,
    show (s.withTold cycle len).planner.sweep = (s.withoutPlaced cycle len).planner.sweep from
      (State.planner_of_elsewhere told).2.1]
  exact (congrArg (fun u : State => (u.setSweep ((s.sweepTag cycle len).getD (s.withoutPlaced cycle len).planner.sweep)).setBuilt
    (some (s.planFor cycle len))) told :)

/-! ## The census gap and the dark slot (R69, R70) -/

/-- The census gap is due, and it fits. -/
def State.gapGoes (s : State) (len : Nat) : Prop := s.census.gapDue = true ∧ gapLength s.line.settings ≤ len

theorem Census.gapDue_stack {c : Census} (due : c.gapDue = true) : ∃ n rest, c.stack = n :: rest := by
  unfold Census.gapDue at due
  cases stack : c.stack with
  | nil => simp [stack] at due
  | cons n rest => exact ⟨n, rest, rfl⟩

theorem State.withGap_goes {s : State} (cycle : CycleNo) {len : Nat} (goes : s.gapGoes len) {n : Node} {rest : List Node}
    (stack : s.census.stack = n :: rest) :
    s.withGap cycle len =
      (s.setCensus
        { s.census with
          stack := rest
          outstanding := some { node := n, gapStart := 0, cycle := cycle }
          counters.gaps := passInc s.census.counters.gaps },
        { grants := [gapGrant s.line.settings n 0], pos := (gapGrant s.line.settings n 0).stop + s.line.settings.guard }) := by
  obtain ⟨due, room⟩ := goes
  have fits : Placing.fits { grants := [], pos := 0 } len (gapLength s.line.settings) = true :=
    Placing.fits_iff.mpr ⟨by simpa using room, by simp⟩
  simp only [State.withGap, State.placeGap, due, stack, fits, if_true]
  rfl

theorem State.withGap_stays {s : State} (cycle : CycleNo) {len : Nat} (stays : ¬s.gapGoes len) :
    s.withGap cycle len = (s, { grants := [], pos := 0 }) := by
  unfold State.withGap State.placeGap
  dsimp only
  split
  · next n rest due _ =>
    have full : ¬Placing.fits { grants := [], pos := 0 } len (gapLength s.line.settings) = true := fun fits =>
      stays ⟨due, by simpa using (Placing.fits_iff.mp fits).1⟩
    rw [if_neg full]
  · rfl

/-- What the placement of the gap leaves for the items behind it. -/
theorem State.withGap_placed (s : State) (cycle : CycleNo) (len : Nat) :
    ∃ census, (s.withGap cycle len).1 = s.setCensus census ∧ (s.withGap cycle len).2.Ready s.line.settings.guard none ∧
      (∀ size, Spaced s.line.settings.guard len size none (s.withGap cycle len).2.grants) ∧
      (∀ g ∈ (s.withGap cycle len).2.grants, g.kind = .census) ∧ (s.withGap cycle len).2.grants.length ≤ 1 := by
  have empty (size : Nat) : Spaced s.line.settings.guard len size none [] := ⟨List.Pairwise.nil, nofun, nofun⟩
  by_cases goes : s.gapGoes len
  · obtain ⟨n, rest, stack⟩ := Census.gapDue_stack goes.1
    rw [State.withGap_goes cycle goes stack]
    have stop : (gapGrant s.line.settings n 0).stop = 0 + gapLength s.line.settings := rfl
    refine ⟨_, rfl, ?_, fun size => ?_, ?_, le_rfl⟩
    · simp [Placing.Ready, nextStart]
    · exact (empty size).add (g := gapGrant s.line.settings n 0) rfl (Nat.zero_le _) (by rw [stop, Nat.zero_add]; exact goes.2)
    · intro g listed
      rw [List.mem_singleton.mp listed]
      rfl
  · rw [State.withGap_stays cycle goes]
    exact ⟨s.census, rfl, rfl, empty, nofun, Nat.zero_le _⟩

/-- The dark slot is wanted, and it fits behind the gap. -/
def State.slotGoes (s : State) (cycle : CycleNo) (len : Nat) : Prop :=
  s.planner.slotWanted = true ∧ (s.withGap cycle len).2.pos + sampleWindow s.conv.windowCode ≤ len

theorem State.withSlot_goes {s : State} {cycle : CycleNo} {len : Nat} (goes : s.slotGoes cycle len) :
    s.withSlot cycle len =
      ((s.withGap cycle len).1.setSlotWanted false,
        { (s.withGap cycle len).2 with
          pos := (s.withGap cycle len).2.pos + sampleWindow s.conv.windowCode + s.line.settings.guard },
        some { first := (s.withGap cycle len).2.pos, stop := (s.withGap cycle len).2.pos + sampleWindow s.conv.windowCode }) := by
  obtain ⟨census, state, -⟩ := s.withGap_placed cycle len
  have yes : (s.planner.slotWanted && (s.withGap cycle len).2.room len (sampleWindow s.conv.windowCode)) = true :=
    Bool.and_eq_true_iff.mpr ⟨goes.1, decide_eq_true goes.2⟩
  unfold State.withSlot State.placeSlot
  rw [state]
  exact if_pos yes

theorem State.withSlot_stays {s : State} {cycle : CycleNo} {len : Nat} (stays : ¬s.slotGoes cycle len) :
    s.withSlot cycle len = ((s.withGap cycle len).1, (s.withGap cycle len).2, none) := by
  obtain ⟨census, state, -⟩ := s.withGap_placed cycle len
  have no : ¬(s.planner.slotWanted && (s.withGap cycle len).2.room len (sampleWindow s.conv.windowCode)) = true := by
    rw [Bool.and_eq_true]
    exact fun both => stays ⟨both.1, of_decide_eq_true both.2⟩
  unfold State.withSlot State.placeSlot
  rw [state]
  exact if_neg no

/-- What the placement of the dark slot leaves for the items behind it. -/
theorem State.withSlot_placed (s : State) (cycle : CycleNo) (len : Nat) :
    (∃ census wanted, (s.withSlot cycle len).1 = { s with census := census, planner.slotWanted := wanted }) ∧
      (s.withSlot cycle len).2.1.grants = (s.withGap cycle len).2.grants ∧
      (s.withSlot cycle len).2.1.Ready s.line.settings.guard (s.withSlot cycle len).2.2 ∧
      Spaced s.line.settings.guard len (sampleWindow s.conv.windowCode) (s.withSlot cycle len).2.2
        (s.withSlot cycle len).2.1.grants := by
  obtain ⟨census, state, ready, spaced, -⟩ := s.withGap_placed cycle len
  have pos : (s.withGap cycle len).2.pos = nextStart s.line.settings.guard none (s.withGap cycle len).2.grants := ready
  by_cases goes : s.slotGoes cycle len
  · rw [State.withSlot_goes goes, state]
    refine ⟨⟨census, false, rfl⟩, rfl, ?_, ?_⟩
    · have behind : nextStart s.line.settings.guard none (s.withGap cycle len).2.grants ≤
          (s.withGap cycle len).2.pos + sampleWindow s.conv.windowCode := by rw [← pos]; exact Nat.le_add_right _ _
      exact (nextStart_slot (d := ⟨_, _⟩) behind).symm
    · obtain ⟨pairwise, inside, -⟩ := spaced 0
      refine ⟨pairwise, inside, ?_⟩
      rintro d ⟨⟩
      exact ⟨goes.2, rfl, fun g placed => .inl (pos ▸ stop_le_nextStart none placed)⟩
  · rw [State.withSlot_stays goes, state]
    obtain ⟨pairwise, inside, -⟩ := spaced 0
    exact ⟨⟨census, s.planner.slotWanted, rfl⟩, rfl, ready, pairwise, inside, nofun⟩

end Sys2Proof.Machine


/-! PROOFS. What is apart in a plan, and what of the due is placed (R68, R71 to R75). -/

namespace Sys2Proof.Machine

/-! ## The due records (R71, R72) -/

theorem State.dueLength_eq_some_iff {s : State} {cycle : CycleNo} {t : Tag} {n : Nat} :
    s.dueLength cycle t = some n ↔ s.Due cycle t n := by
  unfold State.dueLength State.Due
  split
  · next h record =>
    split
    · next svc active =>
      dsimp only
      by_cases due : standingDue cycle t (s.profileOf h).period = true
      · have same : cycle.toNat % (s.roster.profiles.get h.profile).period = tagNum t % (s.roster.profiles.get h.profile).period :=
          of_decide_eq_true due
        rw [if_pos due, Option.some.injEq]
        constructor
        · rintro rfl; exact ⟨h, svc, record, active, same, rfl⟩
        · rintro ⟨h', svc', held, -, -, rfl⟩
          obtain rfl := Option.some.inj (record.symm.trans held)
          rfl
      · rw [if_neg due]
        refine ⟨nofun, ?_⟩
        rintro ⟨h', svc', held, -, same, -⟩
        obtain rfl := Option.some.inj (record.symm.trans held)
        exact absurd (decide_eq_true same) due
    · next other =>
      refine ⟨nofun, ?_⟩
      rintro ⟨h', svc', held, active, -⟩
      obtain rfl := Option.some.inj (record.symm.trans held)
      exact absurd active (other svc')
  · next none =>
    refine ⟨nofun, ?_⟩
    rintro ⟨h', -, held, -⟩
    exact absurd (none.symm.trans held) nofun

theorem State.mem_dueList {s : State} {cycle : CycleNo} {x : Tag × Nat} : x ∈ s.dueList cycle ↔ s.Due cycle x.1 x.2 := by
  unfold State.dueList
  rw [List.mem_filterMap]
  constructor
  · rintro ⟨t, -, found⟩
    obtain ⟨n, due, rfl⟩ := Option.map_eq_some_iff.mp found
    exact State.dueLength_eq_some_iff.mp due
  · intro due
    exact ⟨x.1, mem_allTags x.1, by rw [State.dueLength_eq_some_iff.mpr due]; rfl⟩

theorem State.dueList_ascending (s : State) (cycle : CycleNo) : (s.dueList cycle).Pairwise fun a b => a.1 < b.1 := by
  refine List.Pairwise.filterMap _ (fun a b below x found y found' => ?_) (List.pairwise_lt_finRange 128)
  obtain ⟨n, -, rfl⟩ := Option.map_eq_some_iff.mp found
  obtain ⟨m, -, rfl⟩ := Option.map_eq_some_iff.mp found'
  exact below

/-! ## The groups of a plan, in order (R68) -/

/-- The groups of the plan that `s` builds: the census grant, the standing grants and the one-shot grants, before the sweep
marks one. -/
structure State.Groups (s : State) (cycle : CycleNo) (len : Nat) (census standing shots : List Grant) : Prop where
  gap : census = (s.withGap cycle len).2.grants
  due : StandingPlaced s.line.settings len (s.withSlot cycle len).2.2 census (s.dueList cycle) standing
  queue : ShotsPlaced s.line.settings len (s.withSlot cycle len).2.2 (census ++ standing) s.planner.shots shots
  grants : (s.withShots cycle len).1.grants = census ++ standing ++ shots
  spaced : Spaced s.line.settings.guard len (sampleWindow s.conv.windowCode) (s.withSlot cycle len).2.2 (census ++ standing ++ shots)
  left : (s.withShots cycle len).2 = s.planner.shots.drop shots.length
  skips : (s.withStanding cycle len).2 = true ↔ ∃ x ∈ s.dueList cycle, ofTag standing x.1 = []

theorem State.groups (s : State) (cycle : CycleNo) (len : Nat) : ∃ census standing shots, s.Groups cycle len census standing shots := by
  obtain ⟨⟨c, wanted, state⟩, front, ready, spaced⟩ := s.withSlot_placed cycle len
  have due : (s.withSlot cycle len).1.dueList cycle = s.dueList cycle := by rw [state]; rfl
  have queue : (s.withSlot cycle len).1.planner.shots = s.planner.shots := by rw [state]
  obtain ⟨standing, standingGrants, standingReady, standingPlaced, standingSpaced, skips⟩ :=
    placeStanding_placed (len := len) (s.dueList_ascending cycle) ready
  obtain ⟨shots, shotGrants, shotsPlaced, shotsSpaced, left⟩ :=
    placeShots_placed (len := len) s.planner.shots standingReady
  have here : s.withStanding cycle len = placeStanding s.line.settings len (s.dueList cycle) (s.withSlot cycle len).2.1 := by
    rw [State.withStanding, due]
  have shotsHere : s.withShots cycle len = placeShots s.line.settings len s.planner.shots (s.withStanding cycle len).1 := by
    rw [State.withShots, queue]
  rw [← here] at standingGrants standingSpaced skips shotGrants shotsPlaced shotsSpaced left
  rw [← shotsHere] at shotGrants shotsSpaced left
  rw [front] at standingGrants standingPlaced
  rw [standingGrants] at shotGrants shotsPlaced
  exact ⟨_, standing, shots, rfl, standingPlaced, shotsPlaced, shotGrants, shotGrants ▸ shotsSpaced _ (standingSpaced _ spaced), left,
    skips⟩

theorem Spaced.map {guard len size : Nat} {slot : Option Slot} {grants : List Grant} (spaced : Spaced guard len size slot grants)
    {f : Grant → Grant} (places : ∀ g, (f g).first = g.first ∧ (f g).stop = g.stop) :
    Spaced guard len size slot (grants.map f) where
  pairwise := by
    refine List.pairwise_map.mpr (spaced.pairwise.imp fun {a b} apart => ?_)
    rw [(places a).2, (places b).1]
    exact apart
  inside g listed := by
    obtain ⟨x, placed, rfl⟩ := List.mem_map.mp listed
    rw [(places x).1, (places x).2]
    exact spaced.inside x placed
  slot d there := by
    obtain ⟨fits, long, apart⟩ := spaced.slot d there
    refine ⟨fits, long, fun g listed => ?_⟩
    obtain ⟨x, placed, rfl⟩ := List.mem_map.mp listed
    rw [(places x).1, (places x).2]
    exact apart x placed

theorem sweepMark_places (target : Option Nat) (g : Grant) : (sweepMark target g).first = g.first ∧ (sweepMark target g).stop = g.stop := by
  obtain ⟨mark, eq⟩ := sweepMark_eq target g
  rw [eq]
  exact ⟨rfl, rfl⟩

/-! ## The plan close (R12, R14, R65) -/

/-- The state in which the plan is built: the head's notices are out of their queue, and the lanes have seized. -/
def State.seated (s : State) (c : Cycle) : State := ((s.latched c).setNotices (s.line.notices.drop 8)).seizeAll

theorem State.closePlan_running {s : State} {c : Cycle} (running : s.line.state = .running) (cycle : s.line.cycle = some c)
    (next : c.next = none) :
    s.closePlan =
      ((s.seated c).buildPlan (c.num + 1) s.line.pendingLen).setHead (some
        { cycle := c.num + 1, draining := false,
          grants := ((((s.seated c).buildPlan (c.num + 1) s.line.pendingLen).planner.built).map Plan.grants).getD [],
          notices := s.line.notices.take 8 }) := by
  have notices : (s.latched c).line.notices = s.line.notices := rfl
  rw [State.closePlan_eq cycle next, running]
  simp only [State.closeRunning, State.seated, notices]

theorem State.elsewhere_setNotices (s : State) (l : List LineNotice) : (s.setNotices l).elsewhere = s.elsewhere := rfl

theorem State.elsewhere_seated (s : State) (c : Cycle) : (s.seated c).elsewhere = (s.latched c).elsewhere := by
  rw [State.seated, State.elsewhere_seizeAll, State.elsewhere_setNotices]

theorem State.built_buildPlan (s : State) (cycle : CycleNo) (len : Nat) :
    (s.buildPlan cycle len).planner.built = some (s.planFor cycle len) :=
  (State.planner_of_elsewhere (s.elsewhere_buildPlan cycle len)).1

/-- The state once the entries placed are out of their queue, written out. -/
theorem State.withoutPlaced_eq (s : State) (cycle : CycleNo) (len : Nat) :
    s.withoutPlaced cycle len =
      { s with
        census := (s.withGap cycle len).1.census
        planner.slotWanted := (s.withSlot cycle len).1.planner.slotWanted
        planner.shots := (s.withShots cycle len).2
        planner.overruns :=
          if (s.withStanding cycle len).2 then satInc 65535 s.planner.overruns else s.planner.overruns
        planner.lastOverrun := if (s.withStanding cycle len).2 then some cycle else s.planner.lastOverrun
        link.kinds.plan := (s.withStanding cycle len).2 || s.link.kinds.plan } := by
  obtain ⟨⟨census, wanted, state⟩, -⟩ := s.withSlot_placed cycle len
  have same : (s.withGap cycle len).1.census = (s.withSlot cycle len).1.census := by
    unfold State.withSlot State.placeSlot
    dsimp only
    split <;> rfl
  rw [same, State.withoutPlaced, State.countOverrun, state]
  cases (s.withStanding cycle len).2 <;> rfl

/-- What a plan close in RUNNING leaves of the line. -/
theorem State.line_buildPlan (s : State) (cycle : CycleNo) (len : Nat) :
    (s.buildPlan cycle len).line.state = s.line.state ∧ (s.buildPlan cycle len).line.cycle = s.line.cycle ∧
      (s.buildPlan cycle len).line.settings = s.line.settings := by
  obtain ⟨state, cycleHere, settings⟩ := State.line_of_elsewhere (s.elsewhere_buildPlan cycle len)
  rw [state, cycleHere, settings, State.withoutPlaced_eq]
  exact ⟨rfl, rfl, rfl⟩

/-- What the building of a plan finds of the line and the converter: the next length is latched. -/
theorem State.seated_line (s : State) (c : Cycle) :
    (s.seated c).line.state = s.line.state ∧ (s.seated c).line.cycle = some { c with next := some s.line.pendingLen } ∧
      (s.seated c).line.settings = s.line.settings ∧ (s.seated c).conv = s.conv ∧ (s.seated c).census = s.census ∧
      (s.seated c).link.kinds = s.link.kinds := by
  have same := s.elsewhere_seated c
  obtain ⟨state, cycle, settings⟩ := State.line_of_elsewhere same
  exact ⟨state, cycle, settings, (State.conv_of_elsewhere same : _), (State.census_of_elsewhere same : _),
    (State.kinds_of_elsewhere same : _)⟩

theorem State.planFor_slot (s : State) (cycle : CycleNo) (len : Nat) : (s.planFor cycle len).slot = (s.withSlot cycle len).2.2 := rfl

theorem State.planFor_cycle (s : State) (cycle : CycleNo) (len : Nat) : (s.planFor cycle len).cycle = cycle := rfl

theorem State.planFor_len (s : State) (cycle : CycleNo) (len : Nat) : (s.planFor cycle len).len = len := rfl

theorem State.planFor_grants (s : State) (cycle : CycleNo) (len : Nat) :
    (s.planFor cycle len).grants = (s.withShots cycle len).1.grants.map (sweepMark (s.sweepTag cycle len)) := rfl

/-- A plan holds 64 grants at most. -/
theorem State.planFor_few (s : State) (cycle : CycleNo) (len : Nat) : (s.planFor cycle len).grants.length ≤ 64 := by
  obtain ⟨-, front, -⟩ := s.withSlot_placed cycle len
  obtain ⟨-, -, -, -, -, few⟩ := s.withGap_placed cycle len
  rw [State.planFor_grants, List.length_map]
  exact placeShots_grants _ (placeStanding_grants _ (by rw [front]; omega))

/-- Settles O33. -/
theorem planIsSpacedByGuard : Obligations.PlanIsSpacedByGuard := by
  intro s c running cycle next
  obtain ⟨-, latched, settings, conv, -⟩ := s.seated_line c
  have built := (s.seated c).built_buildPlan (c.num + 1) s.line.pendingLen
  obtain ⟨-, cycleHere, -⟩ := (s.seated c).line_buildPlan (c.num + 1) s.line.pendingLen
  obtain ⟨census, standing, shots, groups⟩ := (s.seated c).groups (c.num + 1) s.line.pendingLen
  have spaced := groups.spaced.map (sweepMark_places ((s.seated c).sweepTag (c.num + 1) s.line.pendingLen))
  have few := (s.seated c).planFor_few (c.num + 1) s.line.pendingLen
  have numbered := (s.seated c).planFor_cycle (c.num + 1) s.line.pendingLen
  have long := (s.seated c).planFor_len (c.num + 1) s.line.pendingLen
  rw [← groups.grants, ← State.planFor_grants, ← State.planFor_slot, settings, conv] at spaced
  have run := State.closePlan_running running cycle next
  rw [built] at run
  generalize (s.seated c).buildPlan (c.num + 1) s.line.pendingLen = b at run built cycleHere
  generalize (s.seated c).planFor (c.num + 1) s.line.pendingLen = p at run built spaced few numbered long
  exact ⟨_, p, congrArg (fun u : State => Host.Outcome.next u.chooseAgain) run, built, numbered, long, cycleHere.trans latched, rfl,
    few, spaced.pairwise, by rw [long]; exact spaced.inside, by rw [long]; exact spaced.slot⟩

end Sys2Proof.Machine


/-! PROOFS. Seizure (R30, R120): which lanes take which tags at a plan close. -/

namespace Sys2Proof.Machine

/-! ## One seizure -/

/-- The lane that has seized `t`, whose record held `h`. -/
def Lane.seized (l : Lane) (t : Tag) (h : Terminal) : Lane :=
  { seizure := l.seizure + 1
    work := some
      { tag := t, stage := .offer 3, lastFailure := none, notice := .queued (.tagOffer h.serial t), shot := .absent,
        held := .empty } }

/-- The TAG OFFER of a lane that has seized. -/
def Lane.offer (l : Lane) (i : LaneNo) (t : Tag) (h : Terminal) : LineNotice := ⟨.tagOffer h.serial t, .lane i (l.seizure + 1)⟩

theorem State.page_changeTerm_congr {s u : State} {t : Tag} (page : u.page t = s.page t) (h : Option Terminal) :
    (u.changeTerm t h).page t = (s.changeTerm t h).page t := by
  obtain ⟨record, flag⟩ := Prod.mk.inj page
  have term : u.term t = s.term t := State.term_of_page page
  unfold State.changeTerm
  rw [term]
  split
  · exact Prod.ext (by simp [State.page, State.putTerm, record]) flag
  · exact Prod.ext (by simp [State.page, State.putTerm, State.noteChange, record]) (by simp [State.page, State.noteChange])

theorem State.changeTerm_setAdmissionQueue (s : State) (l : List Tag) (t : Tag) (h : Option Terminal) :
    (s.setAdmissionQueue l).changeTerm t h = (s.changeTerm t h).setAdmissionQueue l := by
  have term : (s.setAdmissionQueue l).term t = s.term t := rfl
  unfold State.changeTerm
  rw [term]
  split <;> rfl

/-- A lane is given its seizure number and its work in one write. -/
theorem seized_lanes (b : Bank Lane 8) (i : LaneNo) (w : Option LaneWork) :
    (b.update i fun l => { l with seizure := l.seizure + 1 }).update i (fun l => { l with work := w }) =
      b.set i { seizure := (b.get i).seizure + 1, work := w } := by
  refine Bank.ext_get fun j => ?_
  by_cases own : j = i
  · subst own; simp
  · simp [Bank.get_update_of_ne _ _ own, Bank.get_set_of_ne _ _ own]

/-- A FREE lane takes the head of the admission queue, whose record is there, and posts its TAG OFFER into a queue with room. -/
theorem State.seize_eq {s : State} (running : s.line.state = .running) (room : s.line.notices.length < 16) {i : LaneNo}
    (free : s.work i = none) {t : Tag} {rest : List Tag} (head : s.roster.admission = t :: rest) {h : Terminal}
    (record : s.term t = some h) {v : State} (hv : v = s.changeTerm t (some { h with phase := .engaged i none })) :
    s.seize i =
      { v with
        roster.admission := rest
        line.notices := s.line.notices ++ [(s.lanes.get i).offer i t h]
        lanes := s.lanes.set i ((s.lanes.get i).seized t h) } := by
  have line : v.line = s.line := by rw [hv]; exact (congrArg State.line (s.changeTerm_rest t _) :)
  have lanes : v.lanes = s.lanes := by rw [hv]; exact s.changeTerm_lanes t _
  have seizes : s.seize i = ((v.setAdmissionQueue rest).bumpSeizure i).lanePostNotice i
      { tag := t, stage := .offer 3, lastFailure := none, notice := .absent, shot := .absent, held := .empty }
      (.tagOffer h.serial t) := by
    have recordHere : (s.setAdmissionQueue rest).term t = some h := record
    simp only [State.seize, free, head, recordHere]
    rw [State.changeTerm_setAdmissionQueue, ← hv]
  have runs : ¬((v.setAdmissionQueue rest).bumpSeizure i).line.state ≠ .running := by
    simp only [State.bumpSeizure, State.setAdmissionQueue, line, running, ne_eq, not_true_eq_false, not_false_eq_true]
  have fits : ((v.setAdmissionQueue rest).bumpSeizure i).line.notices.length < 16 := by
    simpa only [State.bumpSeizure, State.setAdmissionQueue, line] using room
  rw [seizes, State.lanePostNotice_eq, if_neg runs, if_pos fits]
  have written := seized_lanes v.lanes i
    (some { tag := t, stage := .offer 3, lastFailure := none, notice := .queued (.tagOffer h.serial t), shot := .absent,
            held := .empty })
  unfold State.bumpSeizure State.setWork
  dsimp only [State.setNotices, State.setAdmissionQueue]
  rw [written, lanes, line, Bank.get_update_self]
  rfl

/-! ## The seizures of a plan close -/

/-- From `s` to `u` lanes have seized tags from the head of the admission queue, as listed, and nothing else has changed of the
lanes, the records and the two queues. -/
structure State.SeizesAll (s u : State) (seized : List (LaneNo × Tag)) : Prop where
  admission : u.roster.admission = s.roster.admission.drop seized.length
  notices : u.line.notices =
    s.line.notices ++ seized.filterMap fun x => (s.term x.2).map fun h => (s.lanes.get x.1).offer x.1 x.2 h
  taken : ∀ x ∈ seized, ∃ h, s.term x.2 = some h ∧
    u.page x.2 = (s.changeTerm x.2 (some { h with phase := .engaged x.1 none })).page x.2 ∧
    u.lanes.get x.1 = (s.lanes.get x.1).seized x.2 h
  lanes : ∀ i, (∀ x ∈ seized, x.1 ≠ i) → u.lanes.get i = s.lanes.get i
  pages : ∀ g, (∀ x ∈ seized, x.2 ≠ g) → u.page g = s.page g
  waiting : u.roster.waiting = s.roster.waiting
  shots : u.planner.shots = s.planner.shots

theorem State.SeizesAll.none (s : State) : s.SeizesAll s [] :=
  ⟨rfl, (List.append_nil _).symm, nofun, fun _ _ => rfl, fun _ _ => rfl, rfl, rfl⟩

/-- One seizure before the others. -/
theorem State.SeizesAll.cons {s u v : State} (running : s.line.state = .running) (room : s.line.notices.length < 16) {i : LaneNo}
    (free : s.work i = .none) {t : Tag} {tags : List Tag} (head : s.roster.admission = t :: tags) {h : Terminal}
    (record : s.term t = some h) (first : u = s.seize i) {seized : List (LaneNo × Tag)} (rest : u.SeizesAll v seized)
    (others : ∀ x ∈ seized, x.1 ≠ i ∧ x.2 ≠ t) : s.SeizesAll v ((i, t) :: seized) := by
  obtain ⟨c, hc⟩ : ∃ c, c = s.changeTerm t (some { h with phase := .engaged i .none }) := ⟨_, rfl⟩
  have eq := first.trans (State.seize_eq running room free head record hc)
  have cwaiting : c.roster.waiting = s.roster.waiting := by rw [hc]; exact (congrArg (·.roster.waiting) (s.changeTerm_rest t _) :)
  have cshots : c.planner.shots = s.planner.shots := by rw [hc]; exact (congrArg (·.planner.shots) (s.changeTerm_rest t _) :)
  have admission : u.roster.admission = tags := by rw [eq]
  have notices : u.line.notices = s.line.notices ++ [(s.lanes.get i).offer i t h] := by rw [eq]
  have own : u.lanes.get i = (s.lanes.get i).seized t h := by rw [eq]; exact Bank.get_set_self _ _ _
  have lanes (j : LaneNo) (ne : j ≠ i) : u.lanes.get j = s.lanes.get j := by rw [eq]; exact Bank.get_set_of_ne _ _ ne
  have page : u.page t = (s.changeTerm t (some { h with phase := .engaged i .none })).page t := by rw [eq, ← hc]; rfl
  have pages (g : Tag) (ne : g ≠ t) : u.page g = s.page g := by
    have same : u.page g = c.page g := by rw [eq]; rfl
    rw [same, hc, State.page_changeTerm_of_ne _ _ ne]
  refine ⟨?_, ?_, fun x listed => ?_, fun j apart => ?_, fun g apart => ?_, ?_, ?_⟩
  · rw [rest.admission, admission, head]; rfl
  · have same : (seized.filterMap fun x => (u.term x.2).map fun h => (u.lanes.get x.1).offer x.1 x.2 h) =
        seized.filterMap fun x => (s.term x.2).map fun h => (s.lanes.get x.1).offer x.1 x.2 h := by
      refine List.filterMap_congr fun x listed => ?_
      rw [lanes x.1 (others x listed).1, State.term_of_page (pages x.2 (others x listed).2)]
    rw [rest.notices, notices, same, List.filterMap_cons]
    simp only [record, Option.map_some, List.append_assoc, List.cons_append, List.nil_append]
  · rcases List.mem_cons.mp listed with rfl | listed
    · refine ⟨h, record, ?_, ?_⟩
      · rw [rest.pages t fun x listed => (others x listed).2, page]
      · rw [rest.lanes i fun x listed => (others x listed).1, own]
    · obtain ⟨k, held, taken, lane⟩ := rest.taken x listed
      obtain ⟨neLane, neTag⟩ := others x listed
      refine ⟨k, (State.term_of_page (pages x.2 neTag)).symm.trans held, ?_, ?_⟩
      · rw [taken, State.page_changeTerm_congr (pages x.2 neTag)]
      · rw [lane, lanes x.1 neLane]
  · rw [rest.lanes j fun x listed => apart x (List.mem_cons_of_mem _ listed), lanes j (apart (i, t) List.mem_cons_self).symm]
  · rw [rest.pages g fun x listed => apart x (List.mem_cons_of_mem _ listed), pages g (apart (i, t) List.mem_cons_self).symm]
  · rw [rest.waiting, eq, ← cwaiting]
  · rw [rest.shots, eq, ← cshots]

theorem State.seizesAll_foldl {l : List LaneNo} (once : l.Nodup) {s : State} (running : s.line.state = .running)
    (tagsOnce : s.roster.admission.Nodup) (there : ∀ t ∈ s.roster.admission, ∃ h, s.term t = some h)
    (room : s.line.notices.length + l.length ≤ 16) :
    s.SeizesAll (l.foldl State.seize s) ((l.filter fun i => (s.work i).isNone).zip s.roster.admission) := by
  induction l generalizing s with
  | nil => exact .none s
  | cons i l ih =>
    obtain ⟨outside, rest⟩ := List.nodup_cons.mp once
    rw [List.length_cons] at room
    rw [List.foldl_cons]
    cases work : s.work i with
    | some w =>
      have stays : s.seize i = s := by simp only [State.seize, work]
      rw [stays, List.filter_cons_of_neg (by simp [work])]
      exact ih rest running tagsOnce there (by omega)
    | none =>
      rw [List.filter_cons_of_pos (by simp [work])]
      cases head : s.roster.admission with
      | nil =>
        have stays : s.seize i = s := by simp only [State.seize, work, head]
        have := ih rest running tagsOnce there (by omega)
        rw [stays]
        rwa [head, List.zip_nil_right] at this
      | cons t tags =>
        obtain ⟨h, record⟩ := there t (by rw [head]; exact List.mem_cons_self)
        rw [head] at tagsOnce
        obtain ⟨tagOutside, tagsRest⟩ := List.nodup_cons.mp tagsOnce
        have eq := State.seize_eq running (by omega) work head record rfl
        obtain ⟨u, first⟩ : ∃ u, u = s.seize i := ⟨_, rfl⟩
        rw [← first] at eq ⊢
        have lanes (j : LaneNo) (ne : j ≠ i) : u.lanes.get j = s.lanes.get j := by rw [eq]; exact Bank.get_set_of_ne _ _ ne
        have free : (l.filter fun j => (u.work j).isNone) = l.filter fun j => (s.work j).isNone := by
          refine List.filter_congr fun j listed => ?_
          rw [State.work, lanes j (fun same => outside (same ▸ listed)), State.work]
        have admission : u.roster.admission = tags := by rw [eq]
        have lineState : u.line.state = .running := by
          rw [eq]
          exact (congrArg (·.line.state) (s.changeTerm_rest t _) : _ = _).trans running
        have terms (g : Tag) (ne : g ≠ t) : u.term g = s.term g := by
          rw [eq]
          exact State.term_of_page (s.page_changeTerm_of_ne _ ne)
        have after := ih rest lineState (admission ▸ tagsRest)
          (fun g listed => by
            rw [admission] at listed
            rw [terms g fun same => tagOutside (same ▸ listed)]
            exact there g (by rw [head]; exact List.mem_cons_of_mem _ listed))
          (by rw [eq, List.length_append]; simp only [List.length_cons, List.length_nil]; omega)
        rw [free, admission] at after
        refine .cons running (by omega) work head record first after fun x listed => ?_
        obtain ⟨lane, tag⟩ := List.of_mem_zip listed
        exact ⟨fun same => outside (same ▸ List.mem_of_mem_filter lane), fun same => tagOutside (same ▸ tag)⟩

/-! ## Records that are due (R30, R71) -/

/-- A seizure touches no record but one that it makes ENGAGED, of a tag in the admission queue. -/
theorem State.seize_page (s : State) (i : LaneNo) (g : Tag) :
    (s.seize i).page g = s.page g ∨
      (g ∈ s.roster.admission ∧ ∃ h, (s.seize i).term g = some h ∧ h.lane = some i) := by
  unfold State.seize
  split
  · next t rest free head =>
    dsimp only
    split
    · exact .inl rfl
    · next h record =>
      have posted (u : State) (w : LaneWork) (body : NoticeBody) : (u.lanePostNotice i w body).page g = u.page g :=
        State.page_of_book (u.book_lanePostNotice i w body) g
      by_cases own : g = t
      · subst own
        refine .inr ⟨by rw [head]; exact List.mem_cons_self, { h with phase := .engaged i none }, ?_, rfl⟩
        rw [State.term_of_page (posted _ _ _)]
        exact State.term_changeTerm_self _ _ _
      · refine .inl ((posted _ _ _).trans ?_)
        exact State.page_changeTerm_of_ne (s.setAdmissionQueue rest) _ own
  · exact .inl rfl

theorem State.seize_admission (s : State) (i : LaneNo) : (s.seize i).roster.admission ⊆ s.roster.admission := by
  unfold State.seize
  split
  · next t rest free head =>
    have fewer : rest ⊆ s.roster.admission := by rw [head]; exact List.subset_cons_self t rest
    dsimp only
    split
    · exact fewer
    · next h record =>
      have posted (u : State) (w : LaneWork) (body : NoticeBody) : (u.lanePostNotice i w body).roster.admission = u.roster.admission :=
        (State.LaneActs.lanePostNotice u i t w body).admission
      have changed : ((s.setAdmissionQueue rest).changeTerm t (some { h with phase := .engaged i none })).roster.admission = rest :=
        (congrArg (·.roster.admission) ((s.setAdmissionQueue rest).changeTerm_rest t _) :)
      rw [posted]
      exact changed.symm ▸ fewer
  · exact List.Subset.refl _

theorem State.seizeAll_page (s : State) (g : Tag) :
    s.seizeAll.page g = s.page g ∨
      (g ∈ s.roster.admission ∧ ∃ h, s.seizeAll.term g = some h ∧ h.lane.isSome = true) := by
  refine (foldl_keeps (P := fun u : State => u.roster.admission ⊆ s.roster.admission ∧ (u.page g = s.page g ∨
    (g ∈ s.roster.admission ∧ ∃ h, u.term g = some h ∧ h.lane.isSome = true))) (fun u i before => ?_) allLanes
    ⟨List.Subset.refl _, .inl rfl⟩).2
  obtain ⟨fewer, held⟩ := before
  refine ⟨List.Subset.trans (u.seize_admission i) fewer, ?_⟩
  rcases u.seize_page i g with same | ⟨listed, h, record, lane⟩
  · rw [State.term_of_page same, same]
    exact held
  · exact .inr ⟨fewer listed, h, record, by rw [lane]; rfl⟩

/-- The records that are due, and their lengths, are those before the seizures, where the admission queue names HEARD records
alone. -/
theorem State.due_seated {s : State} (shape : s.RosterShape) (c : Cycle) (cycle : CycleNo) (f : Tag) (n : Nat) :
    (s.seated c).Due cycle f n ↔ s.Due cycle f n := by
  have profiles : (s.seated c).roster.profiles = s.roster.profiles :=
    (State.profiles_of_elsewhere (s.elsewhere_seated c)).trans (rfl : (s.latched c).roster.profiles = s.roster.profiles)
  have page := State.seizeAll_page ((s.latched c).setNotices (s.line.notices.drop 8)) f
  rw [← State.seated] at page
  unfold State.Due
  rw [profiles]
  rcases page with same | ⟨listed, h, record, engaged⟩
  · rw [show (s.seated c).term f = s.term f from State.term_of_page same]
  · obtain ⟨k, held, heard⟩ := (shape.admissionHeard f).mp listed
    constructor
    · rintro ⟨h', svc, there, active, -⟩
      obtain rfl := Option.some.inj (record.symm.trans there)
      simp [Terminal.lane, active] at engaged
    · rintro ⟨h', svc, there, active, -⟩
      have held' : s.term f = some k := held
      obtain rfl := Option.some.inj (held'.symm.trans there)
      exact absurd (heard.symm.trans active) nofun

end Sys2Proof.Machine


/-! PROOFS. What a plan close in RUNNING places, and where (R50, R67 to R75). -/

namespace Sys2Proof.Machine

/-! ## What the building of a plan finds -/

theorem State.seize_shots (s : State) (i : LaneNo) : (s.seize i).planner.shots = s.planner.shots := by
  unfold State.seize
  split
  · next t rest _ _ =>
    dsimp only
    split
    · rfl
    · next h _ =>
      have posted (u : State) (w : LaneWork) (body : NoticeBody) : (u.lanePostNotice i w body).planner.shots = u.planner.shots := by
        rw [State.lanePostNotice_eq]
        (repeat' split) <;> rfl
      rw [posted]
      exact (congrArg (·.planner.shots) ((s.setAdmissionQueue rest).changeTerm_rest t (some { h with phase := .engaged i none })) :)
  · rfl

theorem State.seizeAll_shots (s : State) : s.seizeAll.planner.shots = s.planner.shots := by
  unfold State.seizeAll
  exact foldl_keeps (P := fun u : State => u.planner.shots = s.planner.shots) (fun u i same => (u.seize_shots i).trans same) allLanes rfl

theorem State.seated_shots (s : State) (c : Cycle) : (s.seated c).planner.shots = s.planner.shots := by
  rw [State.seated, State.seizeAll_shots, State.setNotices_planner]
  rfl

theorem State.seated_planner (s : State) (c : Cycle) :
    (s.seated c).planner.sweep = s.planner.sweep ∧ (s.seated c).planner.slotWanted = s.planner.slotWanted ∧
      (s.seated c).planner.overruns = s.planner.overruns ∧ (s.seated c).planner.lastOverrun = s.planner.lastOverrun := by
  obtain ⟨-, sweep, slotWanted, overruns, lastOverrun⟩ := State.planner_of_elsewhere (s.elsewhere_seated c)
  exact ⟨sweep, slotWanted, overruns, lastOverrun⟩

/-- What the building of a plan leaves of the census and the Planner. -/
theorem State.buildPlan_planner (s : State) (cycle : CycleNo) (len : Nat) :
    (s.buildPlan cycle len).census = (s.withGap cycle len).1.census ∧
      (s.buildPlan cycle len).planner.slotWanted = (s.withSlot cycle len).1.planner.slotWanted ∧
      (s.buildPlan cycle len).planner.sweep = (s.sweepTag cycle len).getD s.planner.sweep ∧
      (s.buildPlan cycle len).planner.overruns =
        (if (s.withStanding cycle len).2 then satInc 65535 s.planner.overruns else s.planner.overruns) ∧
      (s.buildPlan cycle len).planner.lastOverrun =
        (if (s.withStanding cycle len).2 then some cycle else s.planner.lastOverrun) ∧
      (s.buildPlan cycle len).link.kinds = { s.link.kinds with plan := (s.withStanding cycle len).2 || s.link.kinds.plan } := by
  have same := s.elsewhere_buildPlan cycle len
  obtain ⟨-, sweep, slotWanted, overruns, lastOverrun⟩ := State.planner_of_elsewhere same
  have census := State.census_of_elsewhere same
  have kinds := State.kinds_of_elsewhere same
  rw [State.withoutPlaced_eq] at sweep slotWanted overruns lastOverrun census kinds
  exact ⟨census, slotWanted, sweep, overruns, lastOverrun, kinds⟩

/-! ## The gap and the slot -/

theorem Census.gapDue_iff {c : Census} :
    c.gapDue = true ↔ c.state = .searching ∧ c.stack ≠ [] ∧ c.outstanding = none ∧ c.wait = 0 := by
  simp [Census.gapDue, and_assoc]

/-! ## The marks of the sweep -/

theorem mem_standingTags {census standing shots : List Grant} {ls : LineSettings} {due : List (Tag × Nat)} {target : Option Nat}
    (gaps : ∀ g ∈ census, g.kind = .census) (owned : ∀ g ∈ standing, ∃ x ∈ due, ∃ first, g = standingGrant ls x.1 x.2 first)
    (others : ∀ g ∈ shots, g.kind ≠ .standing) {n : Nat} :
    n ∈ standingTags (census ++ standing ++ shots) ↔ ∃ x ∈ standing.map (sweepMark target), ∃ y, x.tag = some y ∧ n = tagNum y := by
  unfold standingTags
  rw [List.mem_filterMap]
  constructor
  · rintro ⟨g, listed, found⟩
    split at found
    · next standingKind =>
      obtain ⟨y, tag, rfl⟩ := Option.map_eq_some_iff.mp found
      have here : g ∈ standing := by
        rcases List.mem_append.mp listed with listed | listed
        · rcases List.mem_append.mp listed with listed | listed
          · exact absurd (gaps g listed) (by simp [standingKind])
          · exact listed
        · exact absurd standingKind (others g listed)
      obtain ⟨mark, eq⟩ := sweepMark_eq target g
      exact ⟨sweepMark target g, List.mem_map_of_mem here, y, by rw [eq]; exact tag, rfl⟩
    · cases found
  · rintro ⟨x, listed, y, tag, rfl⟩
    obtain ⟨g, here, rfl⟩ := List.mem_map.mp listed
    obtain ⟨mark, eq⟩ := sweepMark_eq target g
    obtain ⟨z, -, first, made⟩ := owned g here
    rw [eq] at tag
    refine ⟨g, List.mem_append_left _ (List.mem_append_right _ here), ?_⟩
    rw [if_pos (by rw [made]; rfl)]
    exact congrArg (Option.map tagNum) tag

theorem sweepMark_standing {ls : LineSettings} {f : Tag} {n first : Nat} {target : Option Nat} :
    (sweepMark target (standingGrant ls f n first)).capture = true ↔ target = some (tagNum f) := by
  unfold sweepMark
  split
  · next marked => exact ⟨fun _ => marked.2.2.symm, fun _ => rfl⟩
  · next unmarked =>
    refine ⟨nofun, fun same => absurd ⟨rfl, by rw [same]; rfl, by rw [same]; rfl⟩ unmarked⟩

theorem stops_sweepMark (target : Option Nat) (l : List Grant) : (l.map (sweepMark target)).map Grant.stop = l.map Grant.stop := by
  rw [List.map_map]
  exact List.map_congr_left fun g _ => (sweepMark_places target g).2

theorem tag_sweepMark (target : Option Nat) (g : Grant) : (sweepMark target g).tag = g.tag := by
  obtain ⟨mark, eq⟩ := sweepMark_eq target g
  rw [eq]

theorem beforeTag_marked (front placed : List Grant) (target : Option Nat) (f : Tag) :
    beforeTag front (placed.map (sweepMark target)) f =
      front ++ (placed.filter fun g => g.tag.any fun x => decide (x < f)).map (sweepMark target) := by
  rw [beforeTag, List.filter_map]
  congr 2
  refine List.filter_congr fun g _ => ?_
  rw [Function.comp_apply, tag_sweepMark]

theorem ofTag_marked (placed : List Grant) (target : Option Nat) (f : Tag) :
    ofTag (placed.map (sweepMark target)) f = (ofTag placed f).map (sweepMark target) := by
  rw [ofTag, List.filter_map]
  congr 1
  refine List.filter_congr fun g _ => ?_
  rw [Function.comp_apply, tag_sweepMark]

/-- Marks do not change what fits behind the grants of lower tags, nor where. -/
theorem fits_marked {guard len : Nat} {slot : Option Slot} (front placed : List Grant) (target : Option Nat) (f : Tag) (size : Nat) :
    (Fits guard len slot (beforeTag front (placed.map (sweepMark target)) f) size ↔ Fits guard len slot (beforeTag front placed f) size) ∧
      nextStart guard slot (beforeTag front (placed.map (sweepMark target)) f) = nextStart guard slot (beforeTag front placed f) := by
  have start : nextStart guard slot (beforeTag front (placed.map (sweepMark target)) f) = nextStart guard slot (beforeTag front placed f) := by
    refine nextStart_congr ?_
    rw [beforeTag_marked, beforeTag, List.map_append, List.map_append, stops_sweepMark]
  have length : (beforeTag front (placed.map (sweepMark target)) f).length = (beforeTag front placed f).length := by
    rw [beforeTag_marked, beforeTag, List.length_append, List.length_append, List.length_map]
  exact ⟨by rw [Fits, Fits, start, length], start⟩

/-! ## The plan close -/

/-- The grants of one-shot entries of the kinds that are posted are no gap and no standing grants. -/
theorem ShotsPlaced.kinds {ls : LineSettings} {len : Nat} {slot : Option Slot} {front : List Grant} {queue : List OneShot}
    {placed : List Grant} (shots : ShotsPlaced ls len slot front queue placed)
    (posted : ∀ e ∈ queue, e.kind ≠ .census ∧ e.kind ≠ .standing) : ∀ g ∈ placed, g.kind ≠ .census ∧ g.kind ≠ .standing := by
  intro g listed
  obtain ⟨k, inside, rfl⟩ := List.getElem_of_mem listed
  have room : k < queue.length := Nat.lt_of_lt_of_le inside shots.fewer
  obtain ⟨made, -⟩ := shots.each k queue[k] placed[k] (List.getElem?_eq_getElem room) (List.getElem?_eq_getElem inside)
  rw [made]
  exact posted _ (List.getElem_mem room)

theorem shotGrant_placed (ls : LineSettings) (e : OneShot) (pos : Nat) : PlacedShot ls e pos (shotGrant ls e pos) where
  entry := ⟨rfl, rfl, rfl, rfl, rfl, rfl, rfl, rfl, rfl, rfl⟩
  untrimmed kind := by
    have size : shotOccupancy ls e.kind = 192 + 2 * ls.wu := by rcases kind with k | k <;> rw [k] <;> rfl
    refine ⟨?_, by simp [shotGrant, kind], fun c coarse => ?_⟩
    · rw [shotGrant_stop, size]; omega
    · simp [shotGrant, kind, coarse]
  trimmed kind := by
    have size : shotOccupancy ls e.kind = 192 + 2 * ls.wt := by rcases kind with k | k <;> rw [k] <;> rfl
    have other : ¬(e.kind = .offerReply ∨ e.kind = .probe) := by rcases kind with k | k <;> simp [k]
    refine ⟨?_, by simp [shotGrant, other], by simp [shotGrant, other]⟩
    rw [shotGrant_stop, size]; omega

theorem entrySize_eq (ls : LineSettings) (e : OneShot) : entrySize ls e = shotOccupancy ls e.kind := by
  unfold entrySize shotOccupancy
  cases e.kind <;> rfl

theorem map_own {α : Type} {f : α → α} {l : List α} (own : ∀ g ∈ l, f g = g) : l.map f = l :=
  (List.map_congr_left own).trans l.map_id

/-- The grants of a plan in their groups, where the one-shot entries are of the kinds that are posted. -/
theorem State.Groups.plan_grants {s : State} {cycle : CycleNo} {len : Nat} {census standing shots : List Grant}
    (groups : s.Groups cycle len census standing shots) (posted : ∀ e ∈ s.planner.shots, e.kind ≠ .census ∧ e.kind ≠ .standing) :
    (s.planFor cycle len).grants = census ++ standing.map (sweepMark (s.sweepTag cycle len)) ++ shots ∧
      (∀ g ∈ census, g.kind = .census) ∧ ∀ g ∈ shots, g.kind ≠ .census ∧ g.kind ≠ .standing := by
  obtain ⟨-, -, -, -, gaps, -⟩ := s.withGap_placed cycle len
  rw [← groups.gap] at gaps
  have others := groups.queue.kinds posted
  refine ⟨?_, gaps, others⟩
  rw [State.planFor_grants, groups.grants, List.map_append, List.map_append,
    map_own (fun g listed => sweepMark_of_other (by rw [gaps g listed]; nofun) (s.sweepTag cycle len)),
    map_own (fun g listed => sweepMark_of_other (others g listed).2 (s.sweepTag cycle len))]

/-- The gap of a plan, as 0 placed items lie before it. -/
theorem gapGrant_at_start (ls : LineSettings) (n : Node) :
    gapGrant ls n 0 =
      { kind := .census, owner := .census, tag := none, pattern := n.pattern, mask := n.mask, first := 0,
        stop := (ls.ref - ls.eMin) + 256 + ls.wu, point := none, start := (ls.ref : Int) - ls.eMin, length := 256, seq := false,
        capture := false, coarse := none } := by
  simp [gapGrant, gapLength]

/-- Settles O34. -/
theorem planPlacesWhatIsDue : Obligations.PlanPlacesWhatIsDue := by
  intro s c len gap ls shape running cycle next hlen hls hgap posted
  subst hlen
  obtain ⟨v, hv⟩ : ∃ v, v = s.seated c := ⟨_, rfl⟩
  obtain ⟨-, -, settings, conv, censusHere, -⟩ := s.seated_line c
  obtain ⟨sweepHere, wantedHere, -⟩ := s.seated_planner c
  have shotsHere := s.seated_shots c
  have due (f : Tag) (n : Nat) := State.due_seated shape c (c.num + 1) f n
  have run := State.closePlan_running running cycle next
  have built := v.built_buildPlan (c.num + 1) s.line.pendingLen
  rw [← hv] at settings conv censusHere sweepHere wantedHere shotsHere run
  rw [← hv] at due
  rw [← hls] at settings
  rw [built] at run
  obtain ⟨censusAfter, wantedAfter, sweepAfter, -⟩ := v.buildPlan_planner (c.num + 1) s.line.pendingLen
  obtain ⟨census, standing, shots, groups⟩ := v.groups (c.num + 1) s.line.pendingLen
  obtain ⟨-, -, ready, -⟩ := v.withGap_placed (c.num + 1) s.line.pendingLen
  obtain ⟨grants, gaps, shotKinds⟩ := groups.plan_grants (by rw [shotsHere]; exact posted)
  have queue := groups.queue
  rw [shotsHere, settings] at queue
  have standingPlaced := groups.due
  rw [settings] at standingPlaced
  obtain ⟨target, htarget⟩ : ∃ target, target = v.sweepTag (c.num + 1) s.line.pendingLen := ⟨_, rfl⟩
  rw [← htarget] at grants
  have slotPlan := v.planFor_slot (c.num + 1) s.line.pendingLen
  have numbered := v.planFor_cycle (c.num + 1) s.line.pendingLen
  have long := v.planFor_len (c.num + 1) s.line.pendingLen
  rw [← slotPlan] at queue standingPlaced
  have gapGoes : v.gapGoes s.line.pendingLen ↔ s.census.state = .searching ∧ s.census.stack ≠ [] ∧ s.census.outstanding = none ∧
      s.census.wait = 0 ∧ gap ≤ s.line.pendingLen := by
    rw [State.gapGoes, Census.gapDue_iff, censusHere, settings, hgap]
    simp only [gapLength, and_assoc]
  rw [← htarget, sweepHere] at sweepAfter
  have tags (n : Nat) := mem_standingTags (target := target) (n := n) gaps groups.due.owned fun g listed => (shotKinds g listed).2
  have sweepSame : (v.withSlot (c.num + 1) s.line.pendingLen).1.planner.sweep = s.planner.sweep := by
    obtain ⟨⟨census', wanted, state⟩, -⟩ := v.withSlot_placed (c.num + 1) s.line.pendingLen
    rw [state]
    exact sweepHere
  generalize v.buildPlan (c.num + 1) s.line.pendingLen = b at run built censusAfter wantedAfter sweepAfter
  generalize v.planFor (c.num + 1) s.line.pendingLen = p at run built grants slotPlan numbered long queue standingPlaced
  refine ⟨_, p, census, standing.map (sweepMark target), shots, congrArg (fun u : State => Host.Outcome.next u.chooseAgain) run,
    built, numbered, long, grants, ?_, ?_, ?_, ?_, ?_, queue.fewer, ?_, ?_, ?_, ?_⟩
  · rintro n rest ⟨searching, stack, free, wait, fits⟩
    have goes := gapGoes.mpr ⟨searching, by rw [stack]; nofun, free, wait, fits⟩
    rw [← censusHere] at stack
    rw [State.withGap_goes (c.num + 1) goes stack] at censusAfter
    refine ⟨?_, censusAfter.trans ?_⟩
    · rw [groups.gap, State.withGap_goes (c.num + 1) goes stack, settings, gapGrant_at_start, hgap]
    · rw [← censusHere, ← satInc_eq_min]
      rfl
  · intro no
    have stays : ¬v.gapGoes s.line.pendingLen := by
      rw [gapGoes]
      rintro ⟨searching, stack, free, wait, fits⟩
      rcases no with a | a | a | a | a
      · exact a searching
      · exact stack a
      · exact a free
      · exact a wait
      · omega
    rw [State.withGap_stays (c.num + 1) stays] at censusAfter
    refine ⟨?_, censusAfter.trans censusHere⟩
    rw [groups.gap, State.withGap_stays (c.num + 1) stays]
  · intro first size hfirst hsize
    rw [← sampleWindow_eq, ← conv] at hsize
    have pos : (v.withGap (c.num + 1) s.line.pendingLen).2.pos = first := by
      rw [hfirst, groups.gap, ← settings]
      exact ready
    have goes : v.slotGoes (c.num + 1) s.line.pendingLen ↔ s.planner.slotWanted = true ∧ first + size ≤ s.line.pendingLen := by
      rw [State.slotGoes, wantedHere, pos, hsize]
    refine ⟨fun fits => ?_, fun no => ?_⟩
    · rw [State.withSlot_goes (goes.mpr fits)] at wantedAfter slotPlan
      rw [slotPlan, pos, hsize]
      exact ⟨rfl, wantedAfter⟩
    · have stays : ¬v.slotGoes (c.num + 1) s.line.pendingLen := by
        rw [goes]
        rintro ⟨wanted, fits⟩
        rcases no with unwanted | full
        · rw [unwanted] at wanted; cases wanted
        · omega
      obtain ⟨census', state, -⟩ := v.withGap_placed (c.num + 1) s.line.pendingLen
      rw [State.withSlot_stays stays] at wantedAfter slotPlan
      rw [state] at wantedAfter
      exact ⟨slotPlan, wantedAfter.trans wantedHere⟩
  · intro g listed
    obtain ⟨g0, here, rfl⟩ := List.mem_map.mp listed
    obtain ⟨x, asked, first, made⟩ := standingPlaced.owned g0 here
    exact ⟨x.1, x.2, by rw [tag_sweepMark, made]; rfl, (due x.1 x.2).mp (State.mem_dueList.mp asked)⟩
  · intro f n before first isDue hbefore hfirst
    obtain ⟨fits, start⟩ := fits_marked (guard := ls.guard) (len := s.line.pendingLen) (slot := p.slot) census standing target f
      (n + 2 * ls.wt)
    have asked : (f, n) ∈ v.dueList (c.num + 1) := State.mem_dueList.mpr ((due f n).mpr isDue)
    have here : before = beforeTag census (standing.map (sweepMark target)) f := hbefore
    have fitsHere : (first + n + 2 * ls.wt ≤ s.line.pendingLen ∧ before.length < 64) ↔
        Fits ls.guard s.line.pendingLen p.slot (beforeTag census standing f) (n + 2 * ls.wt) := by
      rw [← fits, ← here, Fits, ← hfirst, Nat.add_assoc]
    refine ⟨fun room => ?_, fun no => ?_⟩
    · have placed := standingPlaced.fitting (f, n) asked (fitsHere.mp room)
      rw [← start, ← here, ← hfirst] at placed
      obtain ⟨mark, eq⟩ := sweepMark_eq target (standingGrant ls f n first)
      refine ⟨mark, ?_⟩
      have := ofTag_marked standing target f
      rw [placed, List.map_singleton, eq] at this
      exact this
    · have none := standingPlaced.skipped (f, n) asked (fun room => by have := fitsHere.mpr room; omega)
      have := ofTag_marked standing target f
      rw [none] at this
      exact this
  · intro k e g asked given
    obtain ⟨made, fits⟩ := queue.each k e g asked given
    have start : nextStart ls.guard p.slot (census ++ standing.map (sweepMark target) ++ shots.take k) =
        nextStart ls.guard p.slot (census ++ standing ++ shots.take k) :=
      nextStart_congr (by simp only [List.map_append, stops_sweepMark])
    rw [start]
    exact ⟨made ▸ shotGrant_placed ls e _, fits⟩
  · intro e asked
    have full := queue.ends e asked
    have start : nextStart ls.guard p.slot p.grants = nextStart ls.guard p.slot (census ++ standing ++ shots) :=
      nextStart_congr (by rw [grants]; simp only [List.map_append, stops_sweepMark])
    have length : p.grants.length = (census ++ standing ++ shots).length := by rw [grants]; simp
    rw [start, length, entrySize_eq]
    unfold Fits at full
    omega
  · intro empty
    refine sweepAfter.trans ?_
    cases found : target with
    | none => rfl
    | some n =>
      rw [htarget, State.sweepTag, groups.grants] at found
      obtain ⟨listed, -⟩ := sweepTarget_eq_some_iff.mp found
      obtain ⟨x, there, -⟩ := (tags n).mp listed
      rw [empty] at there
      cases there
  · intro g listed f tag
    obtain ⟨g0, here, rfl⟩ := List.mem_map.mp listed
    obtain ⟨x, asked, first, made⟩ := standingPlaced.owned g0 here
    have own : x.1 = f := by
      rw [tag_sweepMark, made] at tag
      exact Option.some.inj tag
    have marked : (sweepMark target g0).capture = true ↔ target = some (tagNum f) := by rw [made, ← own]; exact sweepMark_standing
    refine ⟨?_, fun mark => ?_⟩
    · have aim : target = sweepTarget (census ++ standing ++ shots) s.planner.sweep := by
        rw [htarget, State.sweepTag, groups.grants, sweepSame]
      have aims := sweepTarget_eq_some_iff (grants := census ++ standing ++ shots) (pointer := s.planner.sweep) (n := tagNum f)
      rw [← aim] at aims
      have there : tagNum f ∈ standingTags (census ++ standing ++ shots) := (tags _).mpr ⟨_, listed, f, tag, rfl⟩
      have each {P : Nat → Prop} : (∀ m ∈ standingTags (census ++ standing ++ shots), P m) ↔
          ∀ x ∈ standing.map (sweepMark target), ∀ y, x.tag = some y → P (tagNum y) := by
        constructor
        · exact fun all x held y tag => all _ ((tags _).mpr ⟨x, held, y, tag, rfl⟩)
        · intro all m held
          obtain ⟨x, here, y, tag, rfl⟩ := (tags m).mp held
          exact all x here y tag
      have order (y : Tag) : tagNum f ≤ tagNum y ↔ f ≤ y := by rw [← not_lt, tagNum_lt_iff, not_lt]
      rw [marked, aims, each, each]
      simp only [there, true_and, tagNum_lt_iff, order]
    · exact sweepAfter.trans (by rw [marked.mp mark]; rfl)

end Sys2Proof.Machine


/-! PROOFS. Placed entries and entries posted again (R74, R78, R79, R121, R139, R145). -/

namespace Sys2Proof.Machine

/-! ## Owners that are told (R74, R121, R139) -/

/-- The lane once it is told that its entry is placed in the plan of `cycle`. -/
def Lane.told (cycle : CycleNo) (kind : GrantKind) (l : Lane) : Lane :=
  match l.work with
  | some w => if w.shot = .queued then { l with work := some { w with shot := .placed cycle kind, held := .empty } } else l
  | none => l

/-- The record once its RETURN entry is placed. -/
def Terminal.returned (h : Terminal) : Terminal :=
  match h.phase with
  | .silent svc since grace => { h with phase := .silent { svc with returnOut := false } since grace }
  | _ => h

theorem Terminal.returned_returned (h : Terminal) : h.returned.returned = h.returned := by
  cases phase : h.phase <;> simp [Terminal.returned, phase]

theorem Terminal.returned_of_not_silent {h : Terminal} (other : h.silence = none) : h.returned = h := by
  unfold Terminal.returned
  split
  · next silent => simp [Terminal.silence, silent] at other
  · rfl

theorem State.putTerm_own {s : State} {t : Tag} {x : Option Terminal} (record : s.term t = x) : s.putTerm t x = s := by
  have held : (s.roster.records.get t).term = x := record
  unfold State.putTerm Bank.update
  rw [← held]
  exact congrArg (fun b => ({ s with roster.records := b } : State)) (s.roster.records.set_get_self t)

theorem State.lanePlaced_eq (s : State) (i : LaneNo) (cycle : CycleNo) (kind : GrantKind) :
    s.lanePlaced i cycle kind = { s with lanes := s.lanes.update i (Lane.told cycle kind) } := by
  have own (same : Lane.told cycle kind (s.lanes.get i) = s.lanes.get i) :
      s = { s with lanes := s.lanes.update i (Lane.told cycle kind) } := by
    unfold Bank.update
    rw [same, Bank.set_get_self]
  unfold State.lanePlaced
  split
  · next work => exact own (by rw [Lane.told, show (s.lanes.get i).work = none from work])
  · next w work =>
    have held : (s.lanes.get i).work = some w := work
    split
    · next queued =>
      unfold State.setWork Bank.update
      rw [Lane.told, held]
      dsimp only
      rw [if_pos queued]
    · next other => exact own (by rw [Lane.told, held]; exact if_neg other)

theorem State.returnPlaced_eq (s : State) (t : Tag) :
    s.returnPlaced t = s.putTerm t ((s.term t).map Terminal.returned) := by
  unfold State.returnPlaced
  split
  · next h record =>
    rw [record, Option.map_some]
    split
    · next svc since grace silent =>
      have value : h.returned = { h with phase := .silent { svc with returnOut := false } since grace } := by
        rw [Terminal.returned, silent]
      split
      · rw [value]
      · next no =>
        have same : h.returned = h := by
          have none : svc.returnOut = false := by simpa using no
          have service : { svc with returnOut := false } = svc := by rw [← none]
          rw [value, service, ← silent]
        rw [same, State.putTerm_own record]
    · next other =>
      have none : h.silence = none := by
        unfold Terminal.silence
        split
        · next silent => exact absurd silent (other _ _ _)
        · rfl
      rw [Terminal.returned_of_not_silent none, State.putTerm_own record]
  · next record => rw [record, Option.map_none, State.putTerm_own record]

theorem State.tellPlaced_eq (cycle : CycleNo) (s : State) (e : OneShot) :
    s.tellPlaced cycle e =
      match e.owner with
      | .lane i => { s with lanes := s.lanes.update i (Lane.told cycle e.kind) }
      | .supervisor => s.putTerm e.tag ((s.term e.tag).map Terminal.returned)
      | .census => s := by
  unfold State.tellPlaced
  cases e.owner with
  | lane i => exact s.lanePlaced_eq i cycle e.kind
  | supervisor => exact s.returnPlaced_eq e.tag
  | census => rfl

/-- A lane that does not wait for a queued entry is not told anything. -/
theorem Lane.told_of_not_queued {cycle : CycleNo} {kind : GrantKind} {l : Lane} (other : ∀ w, l.work = some w → w.shot ≠ .queued) :
    l.told cycle kind = l := by
  unfold Lane.told
  split
  · next w work => exact if_neg (other w work)
  · rfl

theorem Lane.told_seizure (cycle : CycleNo) (kind : GrantKind) (l : Lane) : (l.told cycle kind).seizure = l.seizure := by
  unfold Lane.told
  split
  · split <;> rfl
  · rfl

/-- The lane after one owner is told. -/
theorem State.tellPlaced_lane (cycle : CycleNo) (s : State) (e : OneShot) (i : LaneNo) :
    (s.tellPlaced cycle e).lanes.get i = if e.owner = .lane i then (s.lanes.get i).told cycle e.kind else s.lanes.get i := by
  rw [State.tellPlaced_eq]
  cases owner : e.owner with
  | lane j =>
    by_cases own : i = j
    · subst own; simp
    · rw [if_neg (by simpa using fun same => own same.symm)]
      exact Bank.get_update_of_ne _ _ own
  | supervisor => rfl
  | census => rfl

/-- The record after one owner is told. -/
theorem State.tellPlaced_term (cycle : CycleNo) (s : State) (e : OneShot) (g : Tag) :
    (s.tellPlaced cycle e).term g =
      if e.owner = .supervisor ∧ e.tag = g then (s.term g).map Terminal.returned else s.term g := by
  rw [State.tellPlaced_eq]
  cases owner : e.owner with
  | lane j => rfl
  | supervisor =>
    dsimp only
    rw [State.term_putTerm]
    by_cases own : g = e.tag
    · subst own; simp
    · rw [if_neg own, if_neg (by simpa using fun same => own same.symm)]
  | census => rfl

theorem State.tellPlaced_notNoted (cycle : CycleNo) (s : State) (e : OneShot) (g : Tag) : notNoted s (s.tellPlaced cycle e) g := by
  rw [State.tellPlaced_eq]
  split
  · exact ⟨rfl, rfl⟩
  · refine ⟨rfl, ?_⟩
    by_cases own : g = e.tag
    · subst own; simp [State.putTerm]
    · simp [State.putTerm, Bank.get_update_of_ne _ _ own]
  · exact ⟨rfl, rfl⟩

/-- `s` without the records and the lanes. -/
def State.offOwners (s : State) : State := { s with roster.records := State.reset.roster.records, lanes := State.reset.lanes }

theorem State.tellPlaced_rest (cycle : CycleNo) (s : State) (e : OneShot) : (s.tellPlaced cycle e).offOwners = s.offOwners := by
  rw [State.tellPlaced_eq]
  split <;> rfl

/-- The owners of placed entries, told one after the other. -/
def State.tellAll (cycle : CycleNo) (s : State) (l : List OneShot) : State := l.foldl (State.tellPlaced cycle) s

theorem State.tellAll_rest (cycle : CycleNo) (s : State) (l : List OneShot) : (s.tellAll cycle l).offOwners = s.offOwners :=
  foldl_proj State.offOwners _ (State.tellPlaced_rest cycle) l s

theorem State.tellAll_notNoted (cycle : CycleNo) (s : State) (l : List OneShot) (g : Tag) : notNoted s (s.tellAll cycle l) g :=
  foldl_keeps (P := fun u => notNoted s u g) (fun u e same => notNoted_trans same (u.tellPlaced_notNoted cycle e g)) l ⟨rfl, rfl⟩

/-- A lane with no queued entry, or none among those placed, is left alone. -/
theorem State.tellAll_lane_of_idle (cycle : CycleNo) {s : State} {l : List OneShot} {i : LaneNo}
    (idle : (∀ w, s.work i = some w → w.shot ≠ .queued) ∨ ∀ e ∈ l, e.owner ≠ .lane i) :
    (s.tellAll cycle l).lanes.get i = s.lanes.get i := by
  induction l generalizing s with
  | nil => rfl
  | cons e l ih =>
    have first : (s.tellPlaced cycle e).lanes.get i = s.lanes.get i := by
      rw [State.tellPlaced_lane]
      rcases idle with idle | none
      · rw [Lane.told_of_not_queued idle, ite_self]
      · rw [if_neg (none e List.mem_cons_self)]
    refine Eq.trans (ih (s := s.tellPlaced cycle e) ?_) first
    rcases idle with idle | none
    · refine .inl fun w work => idle w ?_
      rw [State.work, ← first]
      exact work
    · exact .inr fun x listed => none x (List.mem_cons_of_mem _ listed)

/-- A lane is told of its first entry among those placed. -/
theorem State.tellAll_lane {cycle : CycleNo} {s : State} {before after : List OneShot} {e : OneShot} {i : LaneNo} {w : LaneWork}
    (owner : e.owner = .lane i) (none : ∀ x ∈ before, x.owner ≠ .lane i) (work : s.work i = some w) (queued : w.shot = .queued) :
    (s.tellAll cycle (before ++ e :: after)).work i = some { w with shot := .placed cycle e.kind, held := .empty } := by
  have reached : (s.tellAll cycle before).lanes.get i = s.lanes.get i := State.tellAll_lane_of_idle cycle (.inr none)
  have told : ((s.tellAll cycle before).tellPlaced cycle e).work i = some { w with shot := .placed cycle e.kind, held := .empty } := by
    have held : (s.lanes.get i).work = some w := work
    rw [State.work, State.tellPlaced_lane, if_pos owner, reached, Lane.told, held]
    dsimp only
    rw [if_pos queued]
  have split : s.tellAll cycle (before ++ e :: after) = ((s.tellAll cycle before).tellPlaced cycle e).tellAll cycle after := by
    rw [State.tellAll, List.foldl_append]
    rfl
  rw [split, State.work, State.tellAll_lane_of_idle cycle (.inl fun w' work' => ?_)]
  · exact told
  · obtain rfl := Option.some.inj (told.symm.trans work')
    exact nofun

theorem State.tellAll_term (cycle : CycleNo) (s : State) (l : List OneShot) (g : Tag) :
    (s.tellAll cycle l).term g =
      if ∃ e ∈ l, e.owner = .supervisor ∧ e.tag = g then (s.term g).map Terminal.returned else s.term g := by
  induction l generalizing s with
  | nil => simp [State.tellAll]
  | cons e l ih =>
    have twice : Terminal.returned ∘ Terminal.returned = Terminal.returned := funext Terminal.returned_returned
    refine (ih (s.tellPlaced cycle e)).trans ?_
    rw [State.tellPlaced_term]
    by_cases own : e.owner = .supervisor ∧ e.tag = g
    · simp [own, twice]
    · simp [own]

end Sys2Proof.Machine


/-! PROOFS. What a plan close leaves of its queues and their owners (R13, R14, R30, R73, R74, R79, R120). -/

namespace Sys2Proof.Machine

/-! ## Entries that are posted again (R79) -/

/-- A queue of `cap` entries after a posting. -/
def push {β : Type} (cap : Nat) (queue : List β) (x : Option β) : List β := if queue.length < cap then queue ++ x.toList else queue

theorem push_eq_take {β : Type} {cap : Nat} {queue : List β} (fits : queue.length ≤ cap) (x : Option β) :
    push cap queue x = (queue ++ x.toList).take cap := by
  unfold push
  split
  · next room => rw [List.take_of_length_le]; cases x <;> simp <;> omega
  · next full => rw [List.take_append_of_le_length (by omega), List.take_of_length_le fits]

@[simp] theorem push_none {β : Type} (cap : Nat) (queue : List β) : push cap queue none = queue := by
  unfold push
  split
  · exact List.append_nil queue
  · rfl

theorem update_own {α : Type} {n : Nat} {b : Bank α n} {i : Fin n} {f : α → α} (own : f (b.get i) = b.get i) : b.update i f = b := by
  unfold Bank.update
  rw [own, Bank.set_get_self]

/-- The one-shot entry of a lane that waits. -/
def Lane.waitingShot (l : Lane) : Option OneShot :=
  l.work.bind fun w => match w.shot with | .waiting e => some e | _ => none

/-- The lane once its waiting entry is posted again, as there is room or not. -/
def Lane.reposted (l : Lane) (room : Bool) : Lane :=
  if room then
    match l.waitingShot with
    | some _ => { l with work := l.work.map fun w => { w with shot := .queued } }
    | none => l
  else l

theorem Lane.waitingShot_eq_some_iff {l : Lane} {e : OneShot} :
    l.waitingShot = some e ↔ ∃ w, l.work = some w ∧ w.shot = .waiting e := by
  unfold Lane.waitingShot
  rw [Option.bind_eq_some_iff]
  refine exists_congr fun w => and_congr_right fun _ => ?_
  split
  · next f waits => rw [waits, Option.some.injEq, LaneShot.waiting.injEq]
  · next other => exact ⟨nofun, fun waits => absurd waits (other e)⟩

theorem Lane.reposted_of_waiting {l : Lane} {w : LaneWork} {e : OneShot} (work : l.work = some w) (waiting : w.shot = .waiting e)
    (room : Bool) : l.reposted room = { l with work := some { w with shot := if room then .queued else .waiting e } } := by
  obtain ⟨seizure, held⟩ := l
  obtain rfl : held = some w := work
  unfold Lane.reposted
  rw [Lane.waitingShot_eq_some_iff.mpr ⟨w, rfl, waiting⟩]
  cases room with
  | true => rfl
  | false =>
    show Lane.mk seizure (some w) = Lane.mk seizure (some { w with shot := .waiting e })
    rw [← waiting]

theorem State.laneRepostShot_eq {s : State} (running : s.line.state = .running) (i : LaneNo) :
    s.laneRepostShot i =
      { s with
        planner.shots := push 8 s.planner.shots (s.lanes.get i).waitingShot
        lanes := s.lanes.update i fun l => l.reposted (decide (s.planner.shots.length < 8)) } := by
  cases waits : (s.lanes.get i).waitingShot with
  | none =>
    have stays : s.laneRepostShot i = s := by
      unfold State.laneRepostShot
      split
      · rfl
      · next w work =>
        split
        · next e waiting => rw [Lane.waitingShot_eq_some_iff.mpr ⟨w, work, waiting⟩] at waits; cases waits
        · rfl
    rw [stays, push_none, update_own]
    unfold Lane.reposted
    rw [waits]
    split <;> rfl
  | some e =>
    obtain ⟨w, work, waiting⟩ := Lane.waitingShot_eq_some_iff.mp waits
    have held : s.work i = some w := work
    have posts : s.laneRepostShot i = s.lanePostShot i w e := by
      simp only [State.laneRepostShot, held, waiting]
    rw [posts, State.lanePostShot_eq, if_neg (by simp [running])]
    have value (room : Bool) : s.lanes.update i (fun l => l.reposted room) =
        s.lanes.update i fun l => { l with work := some { w with shot := if room then .queued else .waiting e } } := 
      congrArg (s.lanes.set i) (Lane.reposted_of_waiting work waiting room)
    unfold push
    rw [value]
    by_cases room : s.planner.shots.length < 8
    · rw [if_pos room, if_pos room, decide_eq_true room]; rfl
    · rw [if_neg room, if_neg room, decide_eq_false room]; rfl

/-- The lanes post again one after the other. -/
theorem walks_laneRepostShot :
    Walks (fun u : State => u.line.state = .running) State.laneRepostShot (fun u i => u.lanes.get i) (fun u => u.planner.shots) 8
      (fun u i => (u.lanes.get i).waitingShot) (fun u i => (u.lanes.get i).reposted) where
  keeps {u i} running := by rw [State.laneRepostShot_eq running]; exact running
  cells {u i j} running ne := by rw [State.laneRepostShot_eq running]; exact Bank.get_update_of_ne _ _ ne
  posts {u i j} running ne := by
    rw [State.laneRepostShot_eq running]
    exact congrArg Lane.waitingShot (Bank.get_update_of_ne u.lanes _ ne)
  nexts {u i j} running ne := by
    rw [State.laneRepostShot_eq running]
    exact congrArg Lane.reposted (Bank.get_update_of_ne u.lanes _ ne)
  queued {u i} running fits := by rw [State.laneRepostShot_eq running]; exact push_eq_take fits _
  writes {u i} running := by rw [State.laneRepostShot_eq running]; exact Bank.get_update_self _ _ _

/-- The RETURN entry of a record that waits. -/
def waitingReturn (t : Tag) (x : SupEntry) : Option OneShot := if x.waitReturn then some (returnEntry t) else none

/-- The Supervisor's entry once its waiting RETURN is posted again, as there is room or not. -/
def SupEntry.reposted (x : SupEntry) (room : Bool) : SupEntry := if room then { x with waitReturn := false } else x

theorem State.repostReturn_eq {s : State} (running : s.line.state = .running) (t : Tag) :
    s.repostReturn t =
      { s with
        planner.shots := push 8 s.planner.shots (waitingReturn t (s.sup.get t))
        sup := s.sup.update t fun x => x.reposted (decide (s.planner.shots.length < 8)) } := by
  unfold State.repostReturn waitingReturn
  by_cases waits : (s.sup.get t).waitReturn = true
  · have runs : ¬(s.updSup t fun x => { x with waitReturn := false }).line.state ≠ .running := by simp [State.updSup, running]
    rw [if_pos waits, if_pos waits, State.postReturn_eq, if_neg runs]
    unfold push SupEntry.reposted
    by_cases room : s.planner.shots.length < 8
    · have here : (s.updSup t fun x => { x with waitReturn := false }).planner.shots.length < 8 := room
      rw [if_pos here, if_pos room]
      simp only [room, decide_true, if_true]
      rfl
    · have here : ¬(s.updSup t fun x => { x with waitReturn := false }).planner.shots.length < 8 := room
      rw [if_neg here, if_neg room, decide_eq_false room]
      have twice : (s.sup.update t fun x => { x with waitReturn := false }).update t (fun x => { x with waitReturn := true }) = s.sup := by
        refine Bank.ext_get fun g => ?_
        by_cases own : g = t
        · subst own; simp [← waits]
        · simp [Bank.get_update_of_ne _ _ own]
      have same : s.sup.update t (fun x => if false = true then { x with waitReturn := false } else x) = s.sup :=
        update_own (if_neg nofun)
      rw [same]
      exact congrArg (fun b => ({ s with sup := b } : State)) twice
  · rw [if_neg waits, if_neg waits, push_none, update_own]
    unfold SupEntry.reposted
    have none : (s.sup.get t).waitReturn = false := by simpa using waits
    split
    · rw [← none]
    · rfl

/-- The RETURNs are posted again one after the other. -/
theorem walks_repostReturn :
    Walks (fun u : State => u.line.state = .running) State.repostReturn (fun u t => u.sup.get t) (fun u => u.planner.shots) 8
      (fun u t => waitingReturn t (u.sup.get t)) (fun u t => (u.sup.get t).reposted) where
  keeps {u i} running := by rw [State.repostReturn_eq running]; exact running
  cells {u i j} running ne := by rw [State.repostReturn_eq running]; exact Bank.get_update_of_ne _ _ ne
  posts {u i j} running ne := by
    rw [State.repostReturn_eq running]
    exact congrArg (waitingReturn j) (Bank.get_update_of_ne u.sup _ ne)
  nexts {u i j} running ne := by
    rw [State.repostReturn_eq running]
    exact congrArg SupEntry.reposted (Bank.get_update_of_ne u.sup _ ne)
  queued {u i} running fits := by rw [State.repostReturn_eq running]; exact push_eq_take fits _
  writes {u i} running := by rw [State.repostReturn_eq running]; exact Bank.get_update_self _ _ _

end Sys2Proof.Machine


/-! PROOFS. The lanes, the records and the queues behind a plan close (R14, R30, R73, R74, R79, R120). -/

namespace Sys2Proof.Machine

/-! ## What the building of a plan leaves alone -/

/-- `s` without what is posted again and its owners. -/
def State.offReposts (s : State) : State :=
  { s with planner.shots := [], lanes := State.reset.lanes, sup := State.reset.sup }

theorem State.laneRepostShot_rest (s : State) (i : LaneNo) : (s.laneRepostShot i).offReposts = s.offReposts := by
  unfold State.laneRepostShot
  split
  · rfl
  · split
    · rw [State.lanePostShot_eq]
      (repeat' split) <;> rfl
    · rfl

theorem State.repostReturn_rest (s : State) (t : Tag) : (s.repostReturn t).offReposts = s.offReposts := by
  unfold State.repostReturn
  split
  · rw [State.postReturn_eq]
    (repeat' split) <;> rfl
  · rfl

theorem State.repostShots_rest (s : State) : s.repostShots.offReposts = s.offReposts :=
  (foldl_proj State.offReposts _ State.repostReturn_rest _ _).trans (foldl_proj State.offReposts _ State.laneRepostShot_rest _ _)

theorem State.roster_of_offReposts {s u : State} (same : u.offReposts = s.offReposts) :
    u.roster = s.roster ∧ u.link = s.link ∧ u.line = s.line :=
  ⟨(congrArg State.roster same :), (congrArg State.link same :), (congrArg State.line same :)⟩

theorem State.notices_of_offOwners {s u : State} (same : u.offOwners = s.offOwners) :
    u.line.notices = s.line.notices ∧ u.roster.admission = s.roster.admission ∧ u.roster.waiting = s.roster.waiting :=
  ⟨congrArg (·.line.notices) same, congrArg (·.roster.admission) same, congrArg (·.roster.waiting) same⟩

theorem State.queues_of_offOwners {s u : State} (same : u.offOwners = s.offOwners) :
    u.planner.shots = s.planner.shots ∧ u.sup = s.sup ∧ u.line.state = s.line.state :=
  ⟨congrArg (·.planner.shots) same, congrArg (·.sup) same, congrArg (·.line.state) same⟩

/-- The state in which the waiting entries are posted again. -/
def State.withPlan (s : State) (cycle : CycleNo) (len : Nat) : State :=
  ((s.withTold cycle len).setSweep ((s.sweepTag cycle len).getD (s.withTold cycle len).planner.sweep)).setBuilt
    (some (s.planFor cycle len))

theorem State.buildPlan_eq_repostShots (s : State) (cycle : CycleNo) (len : Nat) :
    s.buildPlan cycle len = (s.withPlan cycle len).repostShots := rfl

theorem State.withTold_eq (s : State) (cycle : CycleNo) (len : Nat) :
    s.withTold cycle len = (s.withoutPlaced cycle len).tellAll cycle (s.placedShots cycle len) := rfl

theorem State.withoutPlaced_keeps (s : State) (cycle : CycleNo) (len : Nat) :
    (s.withoutPlaced cycle len).roster = s.roster ∧ (s.withoutPlaced cycle len).link.recFlags = s.link.recFlags ∧
      (s.withoutPlaced cycle len).line = s.line ∧ (s.withoutPlaced cycle len).lanes = s.lanes ∧
      (s.withoutPlaced cycle len).sup = s.sup ∧ (s.withoutPlaced cycle len).planner.shots = (s.withShots cycle len).2 := by
  rw [State.withoutPlaced_eq]
  exact ⟨rfl, rfl, rfl, rfl, rfl, rfl⟩

/-- A plan close takes no notice and no tag out of their queues once the head has its notices and the lanes have seized. -/
theorem State.buildPlan_notices (s : State) (cycle : CycleNo) (len : Nat) :
    (s.buildPlan cycle len).line.notices = s.line.notices ∧ (s.buildPlan cycle len).roster.admission = s.roster.admission ∧
      (s.buildPlan cycle len).roster.waiting = s.roster.waiting := by
  obtain ⟨roster, -, line⟩ := State.roster_of_offReposts (s.withPlan cycle len).repostShots_rest
  obtain ⟨notices, admission, waiting⟩ :=
    State.notices_of_offOwners ((s.withoutPlaced cycle len).tellAll_rest cycle (s.placedShots cycle len))
  obtain ⟨rosterHere, -, lineHere, -⟩ := s.withoutPlaced_keeps cycle len
  rw [← State.withTold_eq] at notices admission waiting
  rw [State.buildPlan_eq_repostShots, roster, line]
  rw [rosterHere] at admission waiting
  rw [lineHere] at notices
  exact ⟨notices, admission, waiting⟩

/-- The record behind a plan close: a SILENT one whose RETURN entry is placed has none outstanding. -/
theorem State.buildPlan_term (s : State) (cycle : CycleNo) (len : Nat) (g : Tag) :
    (s.buildPlan cycle len).term g =
        (if ∃ e ∈ s.placedShots cycle len, e.owner = .supervisor ∧ e.tag = g then (s.term g).map Terminal.returned else s.term g) ∧
      notNoted s (s.buildPlan cycle len) g := by
  obtain ⟨roster, link, -⟩ := State.roster_of_offReposts (s.withPlan cycle len).repostShots_rest
  obtain ⟨rosterHere, flags, -⟩ := s.withoutPlaced_keeps cycle len
  have book : (s.withoutPlaced cycle len).book = s.book := by unfold State.book; rw [rosterHere, flags]
  have after : (s.buildPlan cycle len).book = (s.withTold cycle len).book := by
    rw [State.buildPlan_eq_repostShots]
    unfold State.book
    rw [roster, link]
    rfl
  have term := (s.withoutPlaced cycle len).tellAll_term cycle (s.placedShots cycle len) g
  have noted := (s.withoutPlaced cycle len).tellAll_notNoted cycle (s.placedShots cycle len) g
  rw [← State.withTold_eq] at term noted
  rw [State.term_of_book book] at term
  exact ⟨(State.term_of_book after g).trans term, notNoted_of_book book after noted⟩

/-! ## The lanes and the queue of one-shot entries behind a plan close -/

theorem Lane.told_waitingShot (cycle : CycleNo) (kind : GrantKind) (l : Lane) : (l.told cycle kind).waitingShot = l.waitingShot := by
  unfold Lane.told
  split
  · next w work =>
    split
    · next queued => rw [Lane.waitingShot, Lane.waitingShot, work, Option.bind_some, Option.bind_some, queued]
    · rfl
  · rfl

theorem Lane.reposted_of_not_waiting {l : Lane} (none : l.waitingShot = none) (room : Bool) : l.reposted room = l := by
  unfold Lane.reposted
  rw [none]
  split <;> rfl

theorem Lane.reposted_seizure (l : Lane) (room : Bool) : (l.reposted room).seizure = l.seizure := by
  unfold Lane.reposted
  split
  · split <;> rfl
  · rfl

/-- The owners that are told wait for no less, and keep their seizure numbers. -/
theorem State.tellAll_waiting (cycle : CycleNo) (s : State) (l : List OneShot) (i : LaneNo) :
    ((s.tellAll cycle l).lanes.get i).waitingShot = (s.lanes.get i).waitingShot ∧
      ((s.tellAll cycle l).lanes.get i).seizure = (s.lanes.get i).seizure := by
  refine foldl_keeps (P := fun u : State => (u.lanes.get i).waitingShot = (s.lanes.get i).waitingShot ∧
    (u.lanes.get i).seizure = (s.lanes.get i).seizure) (fun u e before => ?_) l ⟨rfl, rfl⟩
  rw [State.tellPlaced_lane]
  split
  · rw [Lane.told_waitingShot, Lane.told_seizure]; exact before
  · exact before

/-- The entries that the lanes post again at a plan close, in lane order. -/
def State.laneEntries (s : State) (l : List LaneNo) : List OneShot := l.filterMap fun i => (s.lanes.get i).waitingShot

/-- The RETURN entries posted again, in ascending tag order. -/
def State.returnEntries (s : State) (l : List Tag) : List OneShot := l.filterMap fun t => waitingReturn t (s.sup.get t)

/-- What the building of a plan leaves of its one-shot queue, the lanes and the Supervisor. -/
theorem State.buildPlan_queue {s : State} (running : s.line.state = .running) (cycle : CycleNo) (len : Nat)
    (fits : (s.withShots cycle len).2.length ≤ 8) :
    (s.buildPlan cycle len).planner.shots =
        ((s.withShots cycle len).2 ++ s.laneEntries (List.finRange 8) ++ s.returnEntries (List.finRange 128)).take 8 ∧
      (∀ i, (s.buildPlan cycle len).lanes.get i = ((s.withTold cycle len).lanes.get i).reposted
        (decide ((s.withShots cycle len).2.length +
          (s.laneEntries ((List.finRange 8).filter fun j => decide (j < i))).length < 8))) ∧
      ∀ g, (s.buildPlan cycle len).sup.get g = (s.sup.get g).reposted
        (decide (((s.withShots cycle len).2 ++ s.laneEntries (List.finRange 8)).length +
          (s.returnEntries ((List.finRange 128).filter fun f => decide (f < g))).length < 8)) := by
  obtain ⟨shots, sup, state⟩ :=
    State.queues_of_offOwners ((s.withoutPlaced cycle len).tellAll_rest cycle (s.placedShots cycle len))
  obtain ⟨-, -, lineHere, lanesHere, supHere, shotsHere⟩ := s.withoutPlaced_keeps cycle len
  have waits (i : LaneNo) := ((s.withoutPlaced cycle len).tellAll_waiting cycle (s.placedShots cycle len) i).1
  rw [← State.withTold_eq] at shots sup state waits
  rw [shotsHere] at shots
  rw [supHere] at sup
  rw [lineHere, running] at state
  rw [lanesHere] at waits
  obtain ⟨x, hx⟩ : ∃ x, x = s.withPlan cycle len := ⟨_, rfl⟩
  have xshots : x.planner.shots = (s.withShots cycle len).2 := by rw [hx]; exact shots
  have xsup : x.sup = s.sup := by rw [hx]; exact sup
  have xstate : x.line.state = .running := by rw [hx]; exact state
  have xlanes : x.lanes = (s.withTold cycle len).lanes := by rw [hx]; rfl
  have entries (l : List LaneNo) : l.filterMap (fun i => (x.lanes.get i).waitingShot) = s.laneEntries l :=
    List.filterMap_congr fun i _ => by rw [xlanes]; exact waits i
  have xfits : x.planner.shots.length ≤ 8 := by rw [xshots]; exact fits
  obtain ⟨y, hy⟩ : ∃ y, y = (List.finRange 8).foldl State.laneRepostShot x := ⟨_, rfl⟩
  have yshots : y.planner.shots = (x.planner.shots ++ s.laneEntries (List.finRange 8)).take 8 := by
    rw [hy, ← entries]
    exact walks_laneRepostShot.run_queue (List.nodup_finRange 8) xstate xfits
  have ystate : y.line.state = .running := by rw [hy]; exact walks_laneRepostShot.run_keeps _ xstate
  have ysup : y.sup = x.sup := by rw [hy]; exact foldl_proj State.sup _ State.laneRepostShot_sup _ _
  have yfits : y.planner.shots.length ≤ 8 := by rw [yshots]; exact List.length_take_le _ _
  have built : s.buildPlan cycle len = (List.finRange 128).foldl State.repostReturn y := by
    rw [State.buildPlan_eq_repostShots, ← hx, hy]
    rfl
  have returns (l : List Tag) : l.filterMap (fun t => waitingReturn t (y.sup.get t)) = s.returnEntries l := by
    rw [ysup, xsup]
    rfl
  generalize s.buildPlan cycle len = z at built ⊢
  refine ⟨?_, fun i => ?_, fun g => ?_⟩
  · have run := walks_repostReturn.run_queue (List.nodup_finRange 128) ystate yfits
    rw [returns, yshots, take_append_take, xshots] at run
    rw [built]
    exact run
  · have lanes : z.lanes = y.lanes := by
      rw [built]
      exact foldl_proj State.lanes _ State.repostReturn_lanes _ _
    have run := walks_laneRepostShot.run_all xstate xfits i
    rw [entries, xshots, ← hy, xlanes] at run
    rw [lanes]
    exact run
  · have run := walks_repostReturn.run_all ystate yfits g
    rw [returns, ← built, ysup, xsup, yshots, xshots, List.length_take] at run
    rw [run]
    congr 1
    refine decide_eq_decide.mpr ?_
    change _ + (s.returnEntries ((List.finRange 128).filter fun f => decide (f < g))).length < 8 ↔ _
    omega

end Sys2Proof.Machine


/-! PROOFS. The seizures of a plan close (R14, R30, R120). -/

namespace Sys2Proof.Machine

/-! ## The seizures, from the state before the plan close -/

/-- The FREE lanes and the tags that they take, in lane order. -/
def State.seizures (s : State) : List (LaneNo × Tag) := (lanesInOrder.filter fun i => (s.work i).isNone).zip s.roster.admission

/-- The head's notices leave the queue first, so that every TAG OFFER finds room. -/
theorem State.seated_seizes {s : State} (capacities : s.Capacities) (shape : s.RosterShape) (running : s.line.state = .running)
    (c : Cycle) : ((s.latched c).setNotices (s.line.notices.drop 8)).SeizesAll (s.seated c) s.seizures := by
  have room : (s.line.notices.drop 8).length + (List.finRange 8).length ≤ 16 := by
    have := capacities.notices
    rw [List.length_drop, List.length_finRange]
    omega
  have there (t : Tag) (listed : t ∈ s.roster.admission) : ∃ h, s.term t = some h := by
    obtain ⟨h, record, -⟩ := (shape.admissionHeard t).mp listed
    exact ⟨h, record⟩
  have base : ∀ u : State, u.line.state = s.line.state → u.roster = s.roster → u.lanes = s.lanes →
      u.line.notices = s.line.notices.drop 8 → u.SeizesAll u.seizeAll s.seizures := by
    intro u state roster lanes notices
    have same : s.seizures = (lanesInOrder.filter fun i => (u.work i).isNone).zip u.roster.admission := by
      unfold State.seizures State.work
      rw [roster, lanes]
    rw [same]
    refine State.seizesAll_foldl (List.nodup_finRange 8) (state.trans running) (by rw [roster]; exact shape.admissionOnce) ?_
      (by rw [notices]; exact room)
    intro t listed
    rw [roster] at listed
    unfold State.term
    rw [roster]
    exact there t listed
  exact base _ rfl rfl rfl rfl

/-! ## The lanes behind a plan close -/

/-- What is left of the one-shot queue when a plan is built fits it. -/
theorem State.withShots_fits {s : State} (fits : s.planner.shots.length ≤ 8) (cycle : CycleNo) (len : Nat) :
    (s.withShots cycle len).2.length ≤ 8 := by
  obtain ⟨_, _, shots, groups⟩ := s.groups cycle len
  rw [groups.left, List.length_drop]
  omega

theorem State.withTold_waiting (s : State) (cycle : CycleNo) (len : Nat) (i : LaneNo) :
    ((s.withTold cycle len).lanes.get i).waitingShot = (s.lanes.get i).waitingShot ∧
      ((s.withTold cycle len).lanes.get i).seizure = (s.lanes.get i).seizure := by
  obtain ⟨-, -, -, lanes, -⟩ := s.withoutPlaced_keeps cycle len
  have told := (s.withoutPlaced cycle len).tellAll_waiting cycle (s.placedShots cycle len) i
  rw [lanes] at told
  exact told

theorem State.withTold_lane_of_idle {s : State} {i : LaneNo} (idle : ∀ w, s.work i = some w → w.shot ≠ .queued) (cycle : CycleNo)
    (len : Nat) : (s.withTold cycle len).lanes.get i = s.lanes.get i := by
  obtain ⟨-, -, -, lanes, -⟩ := s.withoutPlaced_keeps cycle len
  have told := (s.withoutPlaced cycle len).tellAll_lane_of_idle cycle (l := s.placedShots cycle len) (i := i)
    (.inl (by unfold State.work; rw [lanes]; exact idle))
  rw [lanes] at told
  exact told

/-- The building of a plan leaves a lane alone that has no one-shot entry. -/
theorem State.buildPlan_lane_of_absent {s : State} (running : s.line.state = .running) (fits : s.planner.shots.length ≤ 8) {i : LaneNo}
    (absent : ∀ w, s.work i = some w → w.shot = .absent) (cycle : CycleNo) (len : Nat) :
    (s.buildPlan cycle len).lanes.get i = s.lanes.get i := by
  have noEntry : (s.lanes.get i).waitingShot = none := by
    cases found : (s.lanes.get i).waitingShot with
    | none => rfl
    | some e =>
      obtain ⟨w, work, waiting⟩ := Lane.waitingShot_eq_some_iff.mp found
      exact absurd ((absent w work).symm.trans waiting) nofun
  obtain ⟨-, lanes, -⟩ := State.buildPlan_queue running cycle len (State.withShots_fits fits cycle len)
  rw [lanes, State.withTold_lane_of_idle (fun w work queued => absurd ((absent w work).symm.trans queued) nofun),
    Lane.reposted_of_not_waiting noEntry]

theorem State.buildPlan_seizure {s : State} (running : s.line.state = .running) (fits : s.planner.shots.length ≤ 8) (cycle : CycleNo)
    (len : Nat) (i : LaneNo) : ((s.buildPlan cycle len).lanes.get i).seizure = (s.lanes.get i).seizure := by
  obtain ⟨-, lanes, -⟩ := State.buildPlan_queue running cycle len (State.withShots_fits fits cycle len)
  rw [lanes, Lane.reposted_seizure]
  exact (s.withTold_waiting cycle len i).2

/-- A record that is not SILENT is left alone. -/
theorem State.buildPlan_term_of_not_silent {s : State} {g : Tag} (other : ∀ h, s.term g = some h → h.silence = none) (cycle : CycleNo)
    (len : Nat) : (s.buildPlan cycle len).term g = s.term g := by
  have same : (s.term g).map Terminal.returned = s.term g := by
    cases record : s.term g with
    | none => rfl
    | some h => exact congrArg some (Terminal.returned_of_not_silent (other h record))
  rw [(s.buildPlan_term cycle len g).1, same, ite_self]

theorem notedOnce_then_notNoted {s v u : State} {t : Tag} (noted : notedOnce s v t) (same : notNoted v u t) : notedOnce s u t :=
  ⟨same.1.trans noted.1, same.2.trans noted.2⟩

/-- Settles O36. -/
theorem planCloseSeizes : Obligations.PlanCloseSeizes := by
  intro s c seized capacities shape running cycle next hseized
  have seizes := State.seated_seizes capacities shape running c
  rw [State.seizures, ← hseized] at seizes
  obtain ⟨u, hu⟩ : ∃ u, u = (s.latched c).setNotices (s.line.notices.drop 8) := ⟨_, rfl⟩
  have notices : u.line.notices = s.line.notices.drop 8 := by rw [hu]; rfl
  have roster : u.roster = s.roster := by rw [hu]; rfl
  have lanes : u.lanes = s.lanes := by rw [hu]; rfl
  have page (g : Tag) : u.page g = s.page g := by rw [hu]; rfl
  have terms (g : Tag) : u.term g = s.term g := State.term_of_page (page g)
  rw [← hu] at seizes
  obtain ⟨v, hv⟩ : ∃ v, v = s.seated c := ⟨_, rfl⟩
  have vrunning : v.line.state = .running := by rw [hv]; exact (s.seated_line c).1.trans running
  have vshots : v.planner.shots.length ≤ 8 := by rw [hv, State.seated_shots]; exact capacities.shots
  have run := State.closePlan_running running cycle next
  rw [← hv] at run seizes
  have queuesAfter := v.buildPlan_notices (c.num + 1) s.line.pendingLen
  have termAfter (g : Tag) := State.buildPlan_term_of_not_silent (s := v) (g := g) (cycle := c.num + 1) (len := s.line.pendingLen)
  have notedAfter (g : Tag) := (v.buildPlan_term (c.num + 1) s.line.pendingLen g).2
  have laneAfter (i : LaneNo) :=
    State.buildPlan_lane_of_absent (i := i) vrunning vshots (cycle := c.num + 1) (len := s.line.pendingLen)
  have seizureAfter := State.buildPlan_seizure vrunning vshots (c.num + 1) s.line.pendingLen
  generalize v.buildPlan (c.num + 1) s.line.pendingLen = b at run queuesAfter termAfter notedAfter laneAfter seizureAfter
  obtain ⟨noticesAfter, admissionAfter, waitingAfter⟩ := queuesAfter
  refine ⟨_, congrArg (fun u : State => Host.Outcome.next u.chooseAgain) run, ?_, ?_, ?_, fun x listed => ?_, fun i apart => ?_,
    fun g apart => ?_⟩
  · exact admissionAfter.trans (seizes.admission.trans (by rw [roster]))
  · exact waitingAfter.trans (seizes.waiting.trans (by rw [roster]))
  · refine noticesAfter.trans (seizes.notices.trans ?_)
    rw [notices, lanes]
    congr 1
    exact List.filterMap_congr fun x _ => by rw [terms]; rfl
  · obtain ⟨h, record, taken, lane⟩ := seizes.taken x listed
    have recordHere : s.term x.2 = some h := (terms x.2).symm.trans record
    have heard : h.phase = .heard := by
      rw [hseized] at listed
      obtain ⟨k, held, heard⟩ := (shape.admissionHeard x.2).mp (List.of_mem_zip listed).2
      obtain rfl := Option.some.inj (recordHere.symm.trans held)
      exact heard
    have engaged : v.term x.2 = some { h with phase := .engaged x.1 none } :=
      (State.term_of_page taken).trans (State.term_changeTerm_self _ _ _)
    have noted : notedOnce s v x.2 :=
      notedOnce_of_page (page x.2) taken (notedOnce_changeTerm_self record fun same => by
        have codes := congrArg Visible.state same
        simp [visibleOf, recordStateCode, heard] at codes)
    refine ⟨h, recordHere, ?_, notedOnce_then_notNoted noted (notedAfter x.2), ?_⟩
    · refine (termAfter x.2 fun k held => ?_).trans engaged
      obtain rfl := Option.some.inj (engaged.symm.trans held)
      rfl
    · refine (laneAfter x.1 fun w work => ?_).trans (lane.trans (by rw [lanes]; rfl))
      have held : (v.lanes.get x.1).work = some w := work
      rw [lane] at held
      obtain rfl := Option.some.inj held
      rfl
  · have same : v.lanes.get i = s.lanes.get i := (seizes.lanes i apart).trans (by rw [lanes])
    refine ⟨(seizureAfter i).trans (by rw [same]), fun free => ?_⟩
    have none : v.work i = none := by rw [State.work, same]; exact free
    have own := laneAfter i fun w work => absurd (none.symm.trans work) nofun
    exact (congrArg Lane.work own).trans none
  · have same : v.page g = s.page g := (seizes.pages g apart).trans (page g)
    have term : v.term g = s.term g := State.term_of_page same
    exact ⟨notNoted_trans (notNoted_of_page_eq same) (notedAfter g), fun other => (termAfter g (by rw [term]; exact other)).trans term⟩

end Sys2Proof.Machine


/-! PROOFS. What a plan close leaves of its queues (R73, R74, R79). -/

namespace Sys2Proof.Machine

/-! ## What the seizures leave -/

theorem State.seizures_free {s : State} {x : LaneNo × Tag} (listed : x ∈ s.seizures) : s.work x.1 = none := by
  have free := (List.mem_filter.mp (List.of_mem_zip listed).1).2
  exact Option.isNone_iff_eq_none.mp free

theorem State.seizures_heard {s : State} (shape : s.RosterShape) {x : LaneNo × Tag} (listed : x ∈ s.seizures) :
    ∃ h, s.term x.2 = some h ∧ h.phase = .heard := by
  obtain ⟨h, record, heard⟩ := (shape.admissionHeard x.2).mp (List.of_mem_zip listed).2
  exact ⟨h, record, heard⟩

/-- A lane that works does not seize. -/
theorem State.seated_lane {s : State} (capacities : s.Capacities) (shape : s.RosterShape) (running : s.line.state = .running)
    (c : Cycle) {i : LaneNo} {w : LaneWork} (work : s.work i = some w) : (s.seated c).lanes.get i = s.lanes.get i :=
  (State.seated_seizes capacities shape running c).lanes i fun x listed same => by
    have free := State.seizures_free listed
    rw [same, work] at free
    cases free

/-- A seizure gives no lane a waiting entry. -/
theorem State.seated_waitingShot {s : State} (capacities : s.Capacities) (shape : s.RosterShape) (running : s.line.state = .running)
    (c : Cycle) (i : LaneNo) : ((s.seated c).lanes.get i).waitingShot = (s.lanes.get i).waitingShot := by
  have seizes := State.seated_seizes capacities shape running c
  by_cases seized : ∃ x ∈ s.seizures, x.1 = i
  · obtain ⟨x, listed, rfl⟩ := seized
    obtain ⟨h, -, -, lane⟩ := seizes.taken x listed
    have free : (s.lanes.get x.1).work = none := State.seizures_free listed
    rw [lane]
    simp [Lane.waitingShot, Lane.seized, free]
  · exact congrArg Lane.waitingShot (seizes.lanes i fun x listed same => seized ⟨x, listed, same⟩)

/-- A record that is not HEARD is not seized. -/
theorem State.seated_page {s : State} (capacities : s.Capacities) (shape : s.RosterShape) (running : s.line.state = .running)
    (c : Cycle) {g : Tag} {h : Terminal} (record : s.term g = some h) (other : h.phase ≠ .heard) :
    (s.seated c).page g = s.page g :=
  (State.seated_seizes capacities shape running c).pages g fun x listed same => by
    obtain ⟨k, held, heard⟩ := State.seizures_heard shape listed
    rw [same] at held
    obtain rfl := Option.some.inj (record.symm.trans held)
    exact other heard

/-! ## The grants of a plan, by kind (R68) -/

/-- The one-shot grants of a plan are those that are neither a gap nor standing. -/
theorem State.Groups.plan_shots {s : State} {cycle : CycleNo} {len : Nat} {census standing shots : List Grant}
    (groups : s.Groups cycle len census standing shots) (posted : ∀ e ∈ s.planner.shots, e.kind ≠ .census ∧ e.kind ≠ .standing) :
    (s.planFor cycle len).grants.filter (fun g => g.kind != .census && g.kind != .standing) = shots := by
  obtain ⟨grants, gaps, others⟩ := groups.plan_grants posted
  have gapsOut : census.filter (fun g => g.kind != .census && g.kind != .standing) = [] :=
    List.filter_eq_nil_iff.mpr fun g listed => by simp [gaps g listed]
  have standingOut : (standing.map (sweepMark (s.sweepTag cycle len))).filter (fun g => g.kind != .census && g.kind != .standing) = [] := by
    refine List.filter_eq_nil_iff.mpr fun g listed => ?_
    obtain ⟨g0, here, rfl⟩ := List.mem_map.mp listed
    obtain ⟨mark, eq⟩ := sweepMark_eq (s.sweepTag cycle len) g0
    obtain ⟨x, -, first, made⟩ := groups.due.owned g0 here
    rw [eq, made]
    simp [standingGrant]
  have shotsStay : shots.filter (fun g => g.kind != .census && g.kind != .standing) = shots :=
    List.filter_eq_self.mpr fun g listed => by simp [others g listed]
  rw [grants, List.filter_append, List.filter_append, gapsOut, standingOut, shotsStay, List.nil_append, List.nil_append]

/-- A record has a standing grant in the plan where one is placed for it. -/
theorem State.Groups.plan_standing {s : State} {cycle : CycleNo} {len : Nat} {census standing shots : List Grant}
    (groups : s.Groups cycle len census standing shots) (posted : ∀ e ∈ s.planner.shots, e.kind ≠ .census ∧ e.kind ≠ .standing)
    (f : Tag) : (∃ x ∈ (s.planFor cycle len).grants, x.kind = .standing ∧ x.tag = some f) ↔ ofTag standing f ≠ [] := by
  obtain ⟨grants, gaps, others⟩ := groups.plan_grants posted
  rw [grants]
  constructor
  · rintro ⟨x, listed, kind, tag⟩
    rcases List.mem_append.mp listed with listed | listed
    · rcases List.mem_append.mp listed with listed | listed
      · exact absurd ((gaps x listed).symm.trans kind) nofun
      · obtain ⟨g, here, rfl⟩ := List.mem_map.mp listed
        rw [tag_sweepMark] at tag
        exact List.ne_nil_of_mem (List.mem_filter.mpr ⟨here, by simp [tag]⟩)
    · exact absurd kind (others x listed).2
  · intro some
    obtain ⟨g, here⟩ := List.exists_mem_of_ne_nil _ some
    obtain ⟨here, tag⟩ := List.mem_filter.mp here
    obtain ⟨mark, eq⟩ := sweepMark_eq (s.sweepTag cycle len) g
    obtain ⟨x, -, first, made⟩ := groups.due.owned g here
    refine ⟨sweepMark (s.sweepTag cycle len) g, List.mem_append_left _ (List.mem_append_right _ (List.mem_map_of_mem here)), ?_, ?_⟩
    · rw [eq, made]; rfl
    · rw [tag_sweepMark]; simpa using tag

/-- The entries placed are the first of their queue, one for each one-shot grant. -/
theorem State.Groups.placedShots {s : State} {cycle : CycleNo} {len : Nat} {census standing shots : List Grant}
    (groups : s.Groups cycle len census standing shots) : s.placedShots cycle len = s.planner.shots.take shots.length := by
  obtain ⟨⟨c, wanted, state⟩, -⟩ := s.withSlot_placed cycle len
  have queue : (s.withSlot cycle len).1.planner.shots = s.planner.shots := by rw [state]
  have fewer := groups.queue.fewer
  rw [State.placedShots, queue, groups.left, List.length_drop, Nat.sub_sub_self fewer]

/-! ## The entries that wait, as lists -/

theorem filterMap_pairs_snd {α β : Type} (f : α → Option β) (l : List α) :
    (l.filterMap fun i => (f i).map (Prod.mk i)).map Prod.snd = l.filterMap f := by
  rw [List.map_filterMap]
  exact List.filterMap_congr fun i _ => by cases f i <;> rfl

/-- Pairs chosen by their first part. -/
theorem filterMap_pairs_filter {α β : Type} (f : α → Option β) (chosen : α → Bool) (l : List α) :
    ((l.filterMap fun i => (f i).map (Prod.mk i)).filter fun x => chosen x.1) =
      (l.filter chosen).filterMap fun i => (f i).map (Prod.mk i) := by
  induction l with
  | nil => rfl
  | cons i l ih => cases found : f i <;> cases choice : chosen i <;> simp [found, choice, ih]

theorem State.returnEntries_eq (s : State) (l : List Tag) :
    s.returnEntries l = (l.filter fun g => (s.sup.get g).waitReturn).map returnEntry := by
  unfold State.returnEntries waitingReturn
  induction l with
  | nil => rfl
  | cons g l ih => cases waits : (s.sup.get g).waitReturn <;> simp [waits, ih]

/-- The lanes that wait, each with its entry, in lane order. -/
def State.waitingLanes (s : State) (l : List LaneNo) : List (LaneNo × OneShot) :=
  l.filterMap fun i => ((s.lanes.get i).waitingShot).map (Prod.mk i)

theorem Lane.waitingShot_pair (l : Lane) (i : LaneNo) :
    l.waitingShot.map (Prod.mk i) = l.work.bind fun w => match w.shot with | .waiting e => some (i, e) | _ => none := by
  unfold Lane.waitingShot
  cases l.work with
  | none => rfl
  | some w => cases shot : w.shot <;> simp [shot]

end Sys2Proof.Machine


/-! PROOFS. A plan close settles its queues (R73, R74, R79). -/

namespace Sys2Proof.Machine

/-! ## The overrun (R73) -/

/-- A plan is an overrun where a due record has no standing grant in it. -/
theorem State.Groups.overrun_iff {s : State} {cycle : CycleNo} {len : Nat} {census standing shots : List Grant}
    (groups : s.Groups cycle len census standing shots) (posted : ∀ e ∈ s.planner.shots, e.kind ≠ .census ∧ e.kind ≠ .standing) :
    (s.withStanding cycle len).2 = true ↔
      ∃ g n, s.Due cycle g n ∧ ∀ x ∈ (s.planFor cycle len).grants, ¬(x.kind = .standing ∧ x.tag = some g) := by
  have none (g : Tag) : (∀ x ∈ (s.planFor cycle len).grants, ¬(x.kind = .standing ∧ x.tag = some g)) ↔ ofTag standing g = [] := by
    rw [← not_iff_not]
    refine Iff.trans ?_ (groups.plan_standing posted g)
    simp only [not_forall, not_not, exists_prop]
  rw [groups.skips]
  simp only [none]
  constructor
  · rintro ⟨x, listed, empty⟩
    exact ⟨x.1, x.2, State.mem_dueList.mp listed, empty⟩
  · rintro ⟨g, n, due, empty⟩
    exact ⟨(g, n), State.mem_dueList.mpr due, empty⟩

theorem State.buildPlan_overrun {s : State} {cycle : CycleNo} {len : Nat} (skipped : (s.withStanding cycle len).2 = true) :
    (s.buildPlan cycle len).planner.overruns = min 65535 (s.planner.overruns + 1) ∧
      (s.buildPlan cycle len).planner.lastOverrun = some cycle ∧ (s.buildPlan cycle len).link.kinds = { s.link.kinds with plan := true } := by
  obtain ⟨-, -, -, overruns, last, kinds⟩ := s.buildPlan_planner cycle len
  rw [if_pos skipped] at overruns last
  rw [skipped] at kinds
  exact ⟨overruns.trans (satInc_eq_min _ _), last, kinds⟩

theorem State.buildPlan_no_overrun {s : State} {cycle : CycleNo} {len : Nat} (none : ¬(s.withStanding cycle len).2 = true) :
    (s.buildPlan cycle len).planner.overruns = s.planner.overruns ∧
      (s.buildPlan cycle len).planner.lastOverrun = s.planner.lastOverrun ∧ (s.buildPlan cycle len).link.kinds = s.link.kinds := by
  obtain ⟨-, -, -, overruns, last, kinds⟩ := s.buildPlan_planner cycle len
  rw [if_neg none] at overruns last
  rw [Bool.not_eq_true] at none
  rw [none] at kinds
  exact ⟨overruns, last, kinds⟩

/-! ## The owners of the entries placed (R74) -/

theorem State.Groups.placed_at {s : State} {cycle : CycleNo} {len : Nat} {census standing shots : List Grant}
    (groups : s.Groups cycle len census standing shots) {k : Nat} (inside : k < shots.length) :
    (s.placedShots cycle len)[k]? = s.planner.shots[k]? := by
  rw [groups.placedShots, List.getElem?_take_of_lt inside]

/-- A lane is told of its first queued entry among those placed. -/
theorem State.Groups.told_lane {s : State} {cycle : CycleNo} {len : Nat} {census standing shots : List Grant}
    (groups : s.Groups cycle len census standing shots) {k : Nat} {e : OneShot} {i : LaneNo} {w : LaneWork} (inside : k < shots.length)
    (asked : s.planner.shots[k]? = some e) (owner : e.owner = .lane i) (work : s.work i = some w) (queued : w.shot = .queued)
    (first : ∀ (j : Nat) x, j < k → s.planner.shots[j]? = some x → x.owner ≠ .lane i) :
    (s.withTold cycle len).work i = some { w with shot := .placed cycle e.kind, held := .empty } := by
  obtain ⟨-, -, -, lanes, -⟩ := s.withoutPlaced_keeps cycle len
  obtain ⟨room, found⟩ := List.getElem?_eq_some_iff.mp ((groups.placed_at inside).trans asked)
  have split : s.placedShots cycle len = (s.placedShots cycle len).take k ++ e :: (s.placedShots cycle len).drop (k + 1) := by
    rw [← found, List.cons_getElem_drop_succ, List.take_append_drop]
  rw [State.withTold_eq, split]
  refine State.tellAll_lane owner (fun x listed => ?_) (by unfold State.work; rw [lanes]; exact work) queued
  obtain ⟨j, below, rfl⟩ := List.getElem_of_mem listed
  rw [List.length_take] at below
  refine first j _ (by omega) ?_
  rw [List.getElem_take, ← groups.placed_at (by omega), List.getElem?_eq_getElem]

theorem State.Groups.buildPlan_placed_lane {s : State} {cycle : CycleNo} {len : Nat} {census standing shots : List Grant}
    (groups : s.Groups cycle len census standing shots) (running : s.line.state = .running) (fits : s.planner.shots.length ≤ 8)
    {k : Nat} {e : OneShot} {i : LaneNo} {w : LaneWork} (inside : k < shots.length) (asked : s.planner.shots[k]? = some e)
    (owner : e.owner = .lane i) (work : s.work i = some w) (queued : w.shot = .queued)
    (first : ∀ (j : Nat) x, j < k → s.planner.shots[j]? = some x → x.owner ≠ .lane i) :
    (s.buildPlan cycle len).work i = some { w with shot := .placed cycle e.kind, held := .empty } := by
  have told := groups.told_lane inside asked owner work queued first
  have held : ((s.withTold cycle len).lanes.get i).work = some { w with shot := .placed cycle e.kind, held := .empty } := told
  obtain ⟨-, lanes, -⟩ := State.buildPlan_queue running cycle len (State.withShots_fits fits cycle len)
  have none : ((s.withTold cycle len).lanes.get i).waitingShot = none := by rw [Lane.waitingShot, held]; rfl
  rw [State.work, lanes, Lane.reposted_of_not_waiting none, held]

/-- A SILENT record whose RETURN entry is placed has none outstanding. -/
theorem State.Groups.buildPlan_placed_return {s : State} {cycle : CycleNo} {len : Nat} {census standing shots : List Grant}
    (groups : s.Groups cycle len census standing shots) {k : Nat} {e : OneShot} {h : Terminal} {svc : Service} {since : CycleNo}
    {grace : Nat} (inside : k < shots.length) (asked : s.planner.shots[k]? = some e) (owner : e.owner = .supervisor)
    (record : s.term e.tag = some h) (silent : h.phase = .silent svc since grace) :
    (s.buildPlan cycle len).term e.tag = some { h with phase := .silent { svc with returnOut := false } since grace } := by
  have listed : e ∈ s.placedShots cycle len := List.mem_of_getElem? ((groups.placed_at inside).trans asked)
  rw [(s.buildPlan_term cycle len e.tag).1, if_pos ⟨e, listed, owner, rfl⟩, record, Option.map_some, Terminal.returned, silent]

/-! ## The entries posted again (R79) -/

/-- A lane's waiting entry is queued again where there is room behind those of the lanes before it. -/
theorem State.buildPlan_waiting_lane {s : State} (running : s.line.state = .running) (fits : s.planner.shots.length ≤ 8)
    (cycle : CycleNo) (len : Nat) {i : LaneNo} {w : LaneWork} {e : OneShot} (work : s.work i = some w) (waiting : w.shot = .waiting e) :
    (s.buildPlan cycle len).work i = some
      { w with
        shot :=
          if (s.withShots cycle len).2.length + (s.laneEntries ((List.finRange 8).filter fun j => decide (j < i))).length < 8 then
            .queued else .waiting e } := by
  have same := State.withTold_lane_of_idle (s := s) (i := i) (cycle := cycle) (len := len) fun w' work' queued => by
    obtain rfl := Option.some.inj (work.symm.trans work')
    exact absurd (waiting.symm.trans queued) nofun
  obtain ⟨-, lanes, -⟩ := State.buildPlan_queue running cycle len (State.withShots_fits fits cycle len)
  rw [State.work, lanes, same, Lane.reposted_of_waiting work waiting]
  simp only [decide_eq_true_eq]

/-- A record's waiting RETURN waits on where the lanes' entries and those of lower tags leave no room. -/
theorem State.buildPlan_waiting_return {s : State} (running : s.line.state = .running) (fits : s.planner.shots.length ≤ 8)
    (cycle : CycleNo) (len : Nat) {g : Tag} (waits : (s.sup.get g).waitReturn = true) :
    ((s.buildPlan cycle len).sup.get g).waitReturn = true ↔
      8 ≤ ((s.withShots cycle len).2 ++ s.laneEntries (List.finRange 8)).length +
        (s.returnEntries ((List.finRange 128).filter fun f => decide (f < g))).length := by
  obtain ⟨-, -, sup⟩ := State.buildPlan_queue running cycle len (State.withShots_fits fits cycle len)
  rw [sup, SupEntry.reposted, ← not_lt]
  split
  · next room => simpa using of_decide_eq_true room
  · next full => simpa [waits] using full

/-- Settles O35. -/
theorem planCloseSettlesQueues : Obligations.PlanCloseSettlesQueues := by
  intro s c capacities shape running cycle next posted
  obtain ⟨v, hv⟩ : ∃ v, v = s.seated c := ⟨_, rfl⟩
  obtain ⟨state, -, -, -, -, kindsHere⟩ := s.seated_line c
  obtain ⟨-, -, overrunsHere, lastHere⟩ := s.seated_planner c
  have shotsHere := s.seated_shots c
  have supHere : (s.seated c).sup = s.sup := State.seizeAll_sup _
  have due (f : Tag) (n : Nat) := State.due_seated shape c (c.num + 1) f n
  have waits := State.seated_waitingShot capacities shape running c
  have lane {i : LaneNo} {w : LaneWork} (work : s.work i = some w) : (s.seated c).work i = some w := by
    rw [State.work, State.seated_lane capacities shape running c work]
    exact work
  have page {g : Tag} {h : Terminal} (record : s.term g = some h) (other : h.phase ≠ .heard) :=
    State.seated_page capacities shape running c record other
  have run := State.closePlan_running running cycle next
  rw [← hv] at state kindsHere overrunsHere lastHere shotsHere supHere waits run due
  simp only [← hv] at lane page
  have running' := state.trans running
  have few : v.planner.shots.length ≤ 8 := by rw [shotsHere]; exact capacities.shots
  have posted' : ∀ e ∈ v.planner.shots, e.kind ≠ .census ∧ e.kind ≠ .standing := by rw [shotsHere]; exact posted
  obtain ⟨census, standing, shots, groups⟩ := v.groups (c.num + 1) s.line.pendingLen
  have built := v.built_buildPlan (c.num + 1) s.line.pendingLen
  obtain ⟨b, hb⟩ : ∃ b, b = v.buildPlan (c.num + 1) s.line.pendingLen := ⟨_, rfl⟩
  obtain ⟨p, hp⟩ : ∃ p, p = v.planFor (c.num + 1) s.line.pendingLen := ⟨_, rfl⟩
  have kinds := groups.plan_shots posted'
  have overrun := groups.overrun_iff posted'
  have left := groups.left
  have entries (l : List LaneNo) : v.laneEntries l = (s.waitingLanes l).map Prod.snd := by
    rw [State.waitingLanes, filterMap_pairs_snd]
    exact List.filterMap_congr fun i _ => waits i
  have returnsHere (l : List Tag) : v.returnEntries l = (l.filter fun g => (s.sup.get g).waitReturn).map returnEntry := by
    rw [State.returnEntries_eq, supHere]
  obtain ⟨queue, -, -⟩ := State.buildPlan_queue running' (c.num + 1) s.line.pendingLen
    (State.withShots_fits few (c.num + 1) s.line.pendingLen)
  have noted := fun g => (v.buildPlan_term (c.num + 1) s.line.pendingLen g).2
  rw [← hb] at run built queue noted
  rw [← hp] at built kinds overrun
  rw [shotsHere] at left
  rw [left, entries, returnsHere] at queue
  refine ⟨_, p, shots, _, congrArg (fun u : State => Host.Outcome.next u.chooseAgain) run, built, kinds.symm, rfl, ?_, ?_, ?_, ?_, ?_⟩
  · rintro ⟨g, n, isDue, none⟩
    have counted := State.buildPlan_overrun (overrun.mpr ⟨g, n, (due g n).mpr isDue, none⟩)
    rw [← hb, overrunsHere, kindsHere] at counted
    exact counted
  · intro all
    have counted := State.buildPlan_no_overrun (s := v) (cycle := c.num + 1) (len := s.line.pendingLen) fun skipped => by
      obtain ⟨g, n, isDue, none⟩ := overrun.mp skipped
      obtain ⟨x, listed, standing⟩ := all g n ((due g n).mp isDue)
      exact none x listed standing
    rw [← hb, overrunsHere, lastHere, kindsHere] at counted
    exact counted
  · intro k e i w inside asked owner work queued first
    rw [← shotsHere] at asked first
    have placed := groups.buildPlan_placed_lane running' few inside asked owner (lane work) queued first
    rw [← hb] at placed
    exact placed
  · intro k e h svc since grace inside asked owner record silent
    rw [← shotsHere] at asked
    have same := page record (by rw [silent]; nofun)
    have placed := groups.buildPlan_placed_return inside asked owner ((State.term_of_page same).trans record) silent
    rw [← hb] at placed
    exact ⟨placed, notNoted_trans (notNoted_of_page_eq same) (noted e.tag)⟩
  · intro waiting returns hwaiting hreturns
    have lanesWait : waiting = s.waitingLanes (List.finRange 8) := by
      rw [hwaiting]
      exact List.filterMap_congr fun i _ => ((s.lanes.get i).waitingShot_pair i).symm
    have before (i : LaneNo) : (s.waitingLanes ((List.finRange 8).filter fun j => decide (j < i))).length =
        (waiting.filter fun x => decide (x.1 < i)).length := by
      rw [lanesWait, State.waitingLanes, State.waitingLanes,
        filterMap_pairs_filter (fun j => (s.lanes.get j).waitingShot) (fun j => decide (j < i))]
    have returnsBefore (g : Tag) : (((List.finRange 128).filter fun f => decide (f < g)).filter fun f => (s.sup.get f).waitReturn) =
        returns.filter fun f => decide (f < g) := by
      rw [hreturns]
      exact List.filter_comm _ _ _
    refine ⟨?_, fun i w e work waits => ?_, fun g waits => ?_⟩
    · rw [lanesWait, hreturns]
      exact queue
    · have posted := State.buildPlan_waiting_lane running' few (c.num + 1) s.line.pendingLen (lane work) waits
      rw [← hb, left, entries, List.length_map, before] at posted
      exact posted
    · have posted := State.buildPlan_waiting_return running' few (c.num + 1) s.line.pendingLen (g := g) (by rw [supHere]; exact waits)
      rw [← hb, left, entries, returnsHere, List.length_append, List.length_map, List.length_map, returnsBefore, ← lanesWait] at posted
      exact posted

end Sys2Proof.Machine
